-- ==== Sys2Proof/Word.lean ====
section
/-! DEFINITION. The word types of the Arbesk 432 and nothing else. -/

namespace Sys2Proof

/-- Eight bits: one byte of a device, of a link frame or of an item. -/
abbrev Byte := BitVec 8

/-- Sixteen bits: one word of the processor bus (spec/00_scope.md, "Addresses, words and lanes"). -/
abbrev Word := BitVec 16

/-- A byte address, on the processor's side or within a device: 24 bits. -/
abbrev Addr := BitVec 24

/-- A word address of the processor bus: the byte address with its lowest bit dropped. -/
abbrev WordAddr := BitVec 23

/-- A 32-bit number: tool ids, record values, the seconds count, the challenge counter and clock. -/
abbrev Quad := BitVec 32

end Sys2Proof
end

