-- ==== Sys2Proof/Syntax.lean ====
section
/-! DEFINITION. The commands of the block: one constructor of `Instr` per row of spec/opcode_table.json, in the
table's order, and the types of their operands. -/

namespace Sys2Proof

/-- A window's identity: its number, or DEFAULT (R26). -/
inductive WindowId where
  | numbered (n : Fin 8)
  | dflt
  deriving DecidableEq, Repr

/-- The levels of a grant (R105). -/
inductive Level where
  | one | two | three
  deriving DecidableEq, Repr

/-- The eighteen kinds of record (R151). -/
inductive RecordKind where
  | grantOpened | grantClosed | configApplied | logReleased
  | writeDenied | fetchDenied | readDenied | grantRefused | counterClamped | counterRefused | counterSet
  | halfTorn | deviceTimeout | parityError
  | counterRegressed | lockdown | unlock | evidenceLost
  deriving DecidableEq, Repr

/-- The key of a record: a window, a cell, a slot or a device select, as the kind gives (R150, R152). -/
inductive RecordKey where
  | window (w : WindowId)
  | cell (n : Fin 8)
  | slot (n : Fin 4)
  | device (n : Fin 6)
  deriving DecidableEq, Repr

/-- The reason of a record: a reason of its kind, the level of GRANT-OPENED or the charged slot of COUNTER-SET
(R152 and the reason codes of section 6.5). -/
inductive Reason where
  | parity | kind | read | write | noFetch
  | program | calibrate | clear | priv
  | denial | proof | refusal | regression
  | badProof
  | closed | expired | ignition | lockdown | exhausted
  | decrease | partialLanes | busReset | apply
  | level (l : Level)
  | charged (slot : Fin 4)
  deriving DecidableEq, Repr

/-- What a block gives the audit log for one event; the log adds sequence number, seconds and repeat count (R152). -/
structure Report where
  kind : RecordKind
  key : Option RecordKey
  reason : Option Reason
  address : Option Addr
  valueA : Option Quad
  valueB : Option Quad
  deriving DecidableEq, Repr

/-- The levels of the processor port's lines for one presented cycle (R1 to R3); `true` is asserted. -/
structure CycleLines where
  kindA : Bool
  kindB : Bool
  address : WordAddr
  laneLow : Bool
  laneHigh : Bool
  parity : Bool
  data : Word
  deriving DecidableEq, Repr

/-- The levels the receiver samples over one frame after its start bit (R131, R132); `true` is high. The parity
bit is not sampled with parity mode NONE, nor the second stop bit with one stop bit. -/
structure FrameBits where
  data : Byte
  mark : Bool
  parity : Bool
  stop1 : Bool
  stop2 : Bool
  deriving DecidableEq, Repr

/-- What the receiver has of the line around a fall (R132). -/
structure LineFall where
  /-- The line has been high since the last frame ended. -/
  rose : Bool
  /-- Its level half a bit time after the fall is still low. -/
  low : Bool
  deriving DecidableEq, Repr

/-- The commands. `wide` is the level of the wide input while the command is taken: it is sampled if a transfer to
a SENSED window starts in that step (R18). -/
inductive Instr where
  | processorCycle (lines : CycleLines) (wide : Bool)
  /-- `data` is what the device drives on the 16 data lines as the access ends. -/
  | accessEnd (data : Word) (wide : Bool)
  | accessTimeout (wide : Bool)
  | counterTick (wide : Bool)
  | holdExpiry (cell : Fin 8) (wide : Bool)
  | applyTick (wide : Bool)
  | grantTableSecond
  | challengeExpiry (slot : Fin 4)
  | lifetimeExpired (slot : Fin 4)
  | backoffEnd
  | decayCount
  | scoreDecay
  /-- `step` is the lamp step number the event carries (R170). -/
  | lampStep (step : Fin 32)
  /-- `line` is the level of the ignition line at the sample (R173). -/
  | ignitionSample (line : Bool)
  | ignitionOffGrantTable
  | ignitionOffCounterGuard (wide : Bool)
  /-- `on` tells ignition-on from ignition-off (R189). -/
  | ignitionMirror (on : Bool)
  | alertPulseEnd
  | alertGapEnd
  | resetRequestPulseEnd
  | resetRequestGapEnd
  | logRecord (report : Report)
  | storeWriteComplete
  /-- `strap` is the boot-width strap, read at power-on reset (R29, R194). -/
  | powerOnReset (strap : Bool)
  | scanEnd (wide : Bool)
  | busResetAssert (wide : Bool)
  | busResetDeassert (wide : Bool)
  | gapTimeout
  | linkOff
  | replySent
  | lengthError
  | unknown
  | identify
  | status
  | requestGrant
  | proveGrant
  | proofResult
  | closeGrant
  | listGrants
  | readLog
  | releaseLog
  | readCell
  | readTable
  | stageWindow
  | stageCell
  | stageSettings
  | applyStaged
  | discardStaged
  | resetEcu
  | unlock
  | provisionKey
  | provisionIdentity
  | finishProvisioning
  | frameArrival (frame : FrameBits)
  | startBitConfirmed (fall : LineFall)
  | storeLoadEnd (wide : Bool)
  deriving DecidableEq, Repr

end Sys2Proof
end

