-- ==== Sys2Proof/Decode.lean ====
section
/-! DEFINITION. The commands that a word spells by the bits of spec/opcode_table.json. -/

namespace Sys2Proof

/-- The command a word of the table's bits spells: none, since no row of spec/opcode_table.json gives its command any
bits; the commands are events at the pins and messages of the link, not words (log entry 31). -/
def decodeTableWord (_nbits _w : Nat) : Option Instr := none

end Sys2Proof
end

