-- ==== Sys2Proof/Config.lean ====
section
/-! DEFINITION. What the manual fixes for every part as a number, and the values it leaves open. -/

namespace Sys2Proof.Config

/-- FREE VALUE (log entry 15): byte `i` of the key of level `level` where the key item of that level is missing.
R115 keys the proof with "the 32-byte key of the grant's level" and says nothing of a missing key. -/
opaque missingKeyByte (level i : Nat) : Byte

/-- FREE VALUE (log entry 22): whether a period of the timebase clock falls in the guard-clock period `n`. R167 gives the
two clocks no phase relation and no exact ratio. -/
opaque timebaseFalls (n : Nat) : Bool

/-- R180: the alert pulse and its gap, in guard-clock periods. -/
def alertPeriods : Nat := 64

/-- R182: the reset-request pulse and its gap, in guard-clock periods (20 ms). -/
def resetRequestPeriods : Nat := 640000

/-- R137: the gap limit of the link, in guard-clock periods (20 ms). -/
def gapPeriods : Nat := 640000

/-- R113: the challenge age at which a CHALLENGED slot becomes FREE, in seconds. -/
def challengeLimit : Nat := 30

/-- R119: the largest backoff, in seconds. -/
def backoffLimit : Nat := 1024

/-- R150: the largest number of records the record list holds. -/
def logCapacity : Nat := 64

/-- R75, R86: the age at which a pending half stops growing older, in ticks. -/
def ageLimit : Nat := 16

/-- R64: the highest violation score. -/
def scoreLimit : Nat := 255

end Sys2Proof.Config
end

