-- ==== Sys2Proof/Machine/State.lean ====
section
/-! DEFINITION. The state of the Arbesk 432, block by block, and the machine right after power-on reset. -/

namespace Sys2Proof.Machine

/-- Why the machine would stop with a fault: the manual describes none, so there is no reason (every command has a
next state). Safe: nothing is hidden behind a fault. -/
inductive Fault
  deriving DecidableEq, Repr

/-- Why a command would have no meaning. -/
inductive Refusal where
  /-- Raised by `exec` for a command that has no meaning yet; safe, since the machine then stops. No command is
  refused in this model. -/
  | notModelled (mnemonic : String)
  deriving DecidableEq, Repr

/-! ## The window table (section 2) -/

/-- The class of a window: OPEN (`opn`), CODE, CALIBRATION, RECORDS or PRIVATE (`priv`). -/
inductive WindowClass where
  | opn | code | calibration | records | priv
  deriving DecidableEq, Repr

inductive WindowWidth where
  | wide16 | narrow8 | sensed
  deriving DecidableEq, Repr

inductive ReadyMode where
  | fixed | ready
  deriving DecidableEq, Repr

inductive DenyResponse where
  | quiet | flag
  deriving DecidableEq, Repr

/-- The fields every window has, the default window included (section 2.1). -/
structure WindowTerms where
  cls : WindowClass
  deviceSelect : Fin 6
  width : WindowWidth
  waitStates : Fin 16
  readyMode : ReadyMode
  denyResponse : DenyResponse
  deriving DecidableEq, Repr

/-- An enabled numbered window. A disabled one holds no other field and is `none` where windows are kept. -/
structure Window where
  base : Addr
  /-- The number of byte addresses covered: a power of two from 256 to 16,777,216. -/
  size : Nat
  offset : Addr
  terms : WindowTerms
  deriving DecidableEq, Repr

/-- What a match yields (R26): the window's identity and its fields. The default window has base and offset 0, so
that its device address equals the byte address (R11). -/
structure MatchedWindow where
  id : WindowId
  base : Addr
  offset : Addr
  terms : WindowTerms
  deriving DecidableEq, Repr

inductive ParityMode where
  | none | even | odd
  deriving DecidableEq, Repr

inductive StopBits where
  | one | two
  deriving DecidableEq, Repr

inductive LampPolarity where
  | activeHigh | activeLow
  deriving DecidableEq, Repr

/-- The settings record (R36). -/
structure Settings where
  nodeAddress : Byte
  divisor : Nat
  parityMode : ParityMode
  stopBits : StopBits
  alertThreshold : Nat
  lockdownThreshold : Nat
  decayInterval : Nat
  readyLimit : Nat
  holdLimit : Nat
  parityCheck : Bool
  polarity : LampPolarity
  deriving DecidableEq, Repr

/-- The mode of a cell; RATE carries its rate (1/65536 unit per tick) and cap (units), section 4.1. -/
inductive CellMode where
  | monotonic
  | rate (rate cap : Nat)
  deriving DecidableEq, Repr

/-- The width of a cell's value: 16 or 32 bits. -/
inductive CellWidth where
  | w16 | w32
  deriving DecidableEq, Repr

/-- The definition of an enabled cell. A disabled one is `none` where definitions are kept. -/
structure CellDef where
  width : CellWidth
  address : Addr
  mode : CellMode
  deriving DecidableEq, Repr

/-- The staged copy (section 2.3): eighteen entries, each empty (`none`) or a complete value of its kind. -/
structure Staged where
  windows : Vector (Option (Option Window)) 8
  dflt : Option WindowTerms
  cells : Vector (Option (Option CellDef)) 8
  settings : Option Settings
  deriving DecidableEq, Repr

inductive ApplyState where
  | idle | pending | storing
  deriving DecidableEq, Repr

/-- The thirty-six items of the configuration store (R190). -/
inductive Item where
  | provisionedMark
  | serial
  | key (l : Level)
  | settings
  | window (w : WindowId)
  | cellDef (n : Fin 8)
  | floor (n : Fin 8)
  | failedCount
  | lockdownMark
  | logMark
  | challengeCounter
  | powerOnCount
  deriving DecidableEq, Repr

/-- The live windows and settings, the staged copy and the apply state. -/
structure WindowTable where
  windows : Vector (Option Window) 8
  dflt : WindowTerms
  settings : Settings
  staged : Staged
  apply : ApplyState
  /-- The slot of the acting grant that issued a PENDING apply; none where it was waived. -/
  applyingSlot : Option (Fin 4)
  /-- The items the apply queued in step 3 of R43, which hold it in STORING (R45; queued afresh: log entry 36). -/
  applyItems : List Item
  deriving DecidableEq, Repr

/-! ## The processor port and the decision unit (sections 1.1 and 3.1) -/

inductive Kind where
  | fetch | read | write
  deriving DecidableEq, Repr

inductive Lanes where
  | low | high | both
  deriving DecidableEq, Repr

/-- The cycle in progress (section 1.1). Its parity result is PASSED: a cycle that fails is completed in the step
that takes it (R4). `data` is the write data and is used for WRITE only. -/
structure Cycle where
  kind : Kind
  address : WordAddr
  lanes : Lanes
  data : Word
  deriving DecidableEq, Repr

inductive PortState where
  | closed | idle | active | resetHeld
  deriving DecidableEq, Repr

/-- What the completion output gave with the last completed cycle: the word driven on the processor data lines,
or nothing for a write. -/
structure Completion where
  data : Option Word
  deriving DecidableEq, Repr

structure ProcPort where
  state : PortState
  cycle : Option Cycle
  /-- The cycle the processor keeps presented while the port is CLOSED or RESET-HELD (R1). -/
  presented : Option CycleLines
  /-- The completion of the last cycle taken; absent while it is in progress and when it was abandoned (R22). -/
  completion : Option Completion
  /-- The level of the bus-reset input (R2, R24). -/
  busReset : Bool
  deriving DecidableEq, Repr

/-- The six rights (section 5.1); PRIVATE is `priv`. -/
inductive Right where
  | clear | calibrate | program | priv | counterSet | configure
  deriving DecidableEq, Repr

inductive CycleOutcome where
  | pass | substitute | absorb | counter | fillCheck
  deriving DecidableEq, Repr

inductive FillPhase where
  | reading | judged
  deriving DecidableEq, Repr

/-- The decision record of the cycle in progress (section 3.1). -/
structure DecisionRecord where
  window : MatchedWindow
  cell : Option (Fin 8)
  outcome : CycleOutcome
  right : Option Right
  held : Bool
  chargeGrant : Option (Fin 4)
  fill : Option FillPhase
  deriving DecidableEq, Repr

structure DecisionUnit where
  record : Option DecisionRecord
  score : Nat
  decayCount : Nat
  /-- The lockdown state: `true` is IN-LOCKDOWN. -/
  lockdown : Bool
  deriving DecidableEq, Repr

/-! ## The memory port (sections 1.3 and 1.4) -/

/-- What a processor-origin transfer is for: the transfer of a PASS, the read and the write of a FILL-CHECK, or
the read and the write the counter guard makes to settle a COUNTER outcome. -/
inductive ProcJob where
  | pass
  | fillRead
  | fillWrite
  | cellRead
  | cellWrite (cell : Fin 8)
  deriving DecidableEq, Repr

/-- Who asked for a transfer: PROCESSOR, or INTERNAL with the cell number. -/
inductive Requester where
  | processor (job : ProcJob)
  | internal (cell : Fin 8)
  deriving DecidableEq, Repr

inductive Direction where
  | read | write
  deriving DecidableEq, Repr

/-- A request at the arbiter. A processor-origin request carries the window of its cycle; an internal one is
matched when its first access starts (R12). -/
structure Request where
  requester : Requester
  direction : Direction
  address : Addr
  twoWords : Bool
  lanes : Lanes
  /-- One word per word of the transfer; the second is used for two words only, both for WRITE only. -/
  data0 : Word
  data1 : Word
  window : Option MatchedWindow
  deriving DecidableEq, Repr

inductive ResolvedWidth where
  | wide | narrow
  deriving DecidableEq, Repr

/-- One access of a transfer: the word it belongs to, the bytes of that word it moves and the device address it
drives (R16, R17). -/
structure Access where
  second : Bool
  even : Bool
  odd : Bool
  deviceAddress : Addr
  deriving DecidableEq, Repr

/-- The transfer in progress (section 1.3). -/
structure Transfer where
  request : Request
  window : MatchedWindow
  width : ResolvedWidth
  /-- The accesses that have ended, oldest first. -/
  ended : List Access
  /-- The access in progress and those after it. -/
  remaining : List Access
  /-- The ready limit read as the access in progress started (R12, R46). -/
  readyLimit : Nat
  /-- The device address of the first access that timed out, if one has (R15). -/
  timedOut : Option Addr
  /-- The bytes gathered so far; a byte not gathered stands at 0xFF. -/
  read0 : Word
  read1 : Word
  /-- Result dropped: set by bus reset (R23). -/
  dropped : Bool
  deriving DecidableEq, Repr

structure MemPort where
  transfer : Option Transfer
  /-- The processor place of the arbiter. -/
  place : Option Request
  /-- The internal list of the arbiter, oldest first. -/
  queue : List Request
  deriving DecidableEq, Repr

/-! ## The counter guard (section 4) -/

inductive Half where
  | low | high
  deriving DecidableEq, Repr

structure PendingHalf where
  half : Half
  value : Word
  age : Nat
  deriving DecidableEq, Repr

/-- The live state of a LIVE cell (R73). The credit of a MONOTONIC cell is absent in the manual and 0 here. -/
structure LiveState where
  shadow : Nat
  credit : Nat
  floor : Nat
  half : Option PendingHalf
  repair : Bool
  due : Bool
  deriving DecidableEq, Repr

inductive Origin where
  | processor | hold | ignition
  deriving DecidableEq, Repr

/-- Where the request of a new read stands (R97): at the arbiter, waiting for the processor cycle in progress to complete,
or waiting for the transfer of that cycle, which bus reset has abandoned. -/
inductive ReadWait where
  | requested | forCycle | forTransfer
  deriving DecidableEq, Repr

/-- The operation in flight of a cell (R73). A new read holds where its request stands; an evaluation holds the value
written and whether it is a counter set (R80). -/
inductive Operation where
  | scanRead
  | newRead (wait : ReadWait)
  | correction
  | restore
  | evaluation (origin : Origin) (value : Nat) (isSet : Bool)
  deriving DecidableEq, Repr

/-- A cell: its live definition, its live state if it is LIVE, the floor loaded for its scan and its operation in
flight. The cell is DISABLED without a definition, READING with a definition and no live state (R72). -/
structure Cell where
  defn : Option CellDef
  live : Option LiveState
  loadedFloor : Option Nat
  op : Option Operation
  /-- The operation in flight belongs to a definition that an apply has MOVED or REMOVED (R101). -/
  stale : Bool
  deriving DecidableEq, Repr

structure CounterGuard where
  cells : Vector Cell 8
  /-- The cell whose write waits (R82); its data and decision are those of the cycle in progress. -/
  waitingWrite : Option (Fin 8)
  deriving DecidableEq, Repr

/-! ## The grant table and the proof engine (section 5) -/

/-- The fields of a grant present in both CHALLENGED and OPEN (R104). Rights and scope are sets held as R149 lays
them out: bit 0 CLEAR to bit 5 CONFIGURE; bit n for window n and bit 8 for DEFAULT. -/
structure Grant where
  toolId : Quad
  level : Level
  rights : BitVec 6
  scope : BitVec 9
  lifetime : Nat
  allowance : Option Nat
  survive : Bool
  deriving DecidableEq, Repr

/-- The eight bytes of a challenge: the challenge counter and the challenge clock sample (R111). -/
structure Challenge where
  counter : Quad
  clock : Quad
  deriving DecidableEq, Repr

inductive Slot where
  | free
  | challenged (grant : Grant) (challenge : Challenge) (age : Nat)
  | opened (grant : Grant) (tally : Nat) (openedAt : Quad)
  deriving DecidableEq, Repr

structure GrantTable where
  slots : Vector Slot 4
  failed : Nat
  backoff : Nat
  /-- The challenge clock: guard-clock periods (R106). -/
  clock : Quad
  /-- The challenge counter held in the grant table from its load (R111). -/
  counter : Quad
  deriving DecidableEq, Repr

/-- The one proof in flight (R114, R115): the slot, the copy of its challenge, the received proof, and the key and
proof message the engine read when it started. -/
structure ProofInFlight where
  slot : Fin 4
  challenge : Challenge
  received : List Byte
  key : List Byte
  message : List Byte
  deriving DecidableEq, Repr

/-! ## The service link (section 6) -/

inductive Receiver where
  | off | listening | receiving | executing | replying
  deriving DecidableEq, Repr

inductive AddressedAs where
  | node | all
  deriving DecidableEq, Repr

/-- The message buffer (section 6.2). -/
structure MessageBuffer where
  addressedAs : AddressedAs
  length : Option Nat
  taken : Nat
  command : Option Byte
  payload : List Byte
  check : Option Byte
  gap : Nat
  deriving DecidableEq, Repr

/-- The framing of a frame received or sent, read at its start (R46, R131). -/
structure Framing where
  divisor : Nat
  parityMode : ParityMode
  stopBits : StopBits
  deriving DecidableEq, Repr

/-- The receiver of the line (R132): watching for a fall, within a frame, or waiting for the line to be high. -/
inductive LineReceiver where
  | watching
  | inFrame (framing : Framing)
  | waitingHigh
  deriving DecidableEq, Repr

/-- What the command being executed waits for: the checks and execution of a complete message, the answer to a bad
length byte, or the proof engine's result (R136, R139, R140). -/
inductive Execution where
  | handOver
  | lengthError (received : Byte)
  | proving
  deriving DecidableEq, Repr

/-- One frame of a reply: its data byte and its mark bit, which is 1 for an address frame (R131, R135). -/
structure ReplyFrame where
  mark : Bool
  data : Byte
  deriving DecidableEq, Repr

/-- What the transmitter does (R133): it waits for the first frame of a reply to begin, or sends a frame with the
framing read at that frame's start. Both counts are in guard-clock periods. -/
inductive Transmission where
  | lead (left : Nat)
  | sending (frame : ReplyFrame) (framing : Framing) (elapsed : Nat)
  deriving DecidableEq, Repr

/-- The reply buffer while a reply is sent (R141): the transmitter, and the frames that have not begun. -/
structure Reply where
  transmission : Transmission
  waiting : List ReplyFrame
  deriving DecidableEq, Repr

structure Link where
  receiver : Receiver
  line : LineReceiver
  buffer : Option MessageBuffer
  execution : Option Execution
  reply : Option Reply
  /-- A tick has made the live divisor 0 within a frame; the link goes OFF at that frame's end (R133). -/
  offDue : Bool
  deriving DecidableEq, Repr

/-! ## The audit log (section 7) -/

/-- One record of the log (R150); its severity is that of its kind (R151). -/
structure LogRecord where
  sequence : Nat
  seconds : Quad
  report : Report
  repeats : Nat
  deriving DecidableEq, Repr

structure Log where
  /-- Oldest first. -/
  records : List LogRecord
  nextSeq : Nat
  dropped : Nat
  markCopy : Bool
  alarm : Bool
  deriving DecidableEq, Repr

/-! ## Timebase and ignition filter (section 8) -/

/-- The two counts of the timebase, and the events it has issued that their blocks have not yet taken (R168, R171),
oldest first: a tick with its tick number, a lamp step with its lamp step number (R170), a second or a sample by count. -/
structure Timebase where
  /-- Timebase-clock periods within the current second. -/
  periodCount : Nat
  /-- Seconds since power-on. -/
  seconds : Quad
  /-- Ignition samples for the ignition filter. -/
  samples : Nat
  /-- Lamp steps for the output unit. -/
  lampSteps : List (Fin 32)
  /-- Ticks for the counter guard. -/
  guardTicks : List (Fin 8)
  /-- Ticks for the window table. -/
  tableTicks : List (Fin 8)
  /-- Seconds for the grant table. -/
  grantSeconds : Nat
  /-- Seconds for the decision unit. -/
  decisionSeconds : Nat
  deriving DecidableEq, Repr

/-- The sample history, the filtered level, and the events issued at its changes (R174) that the blocks of R177 have not
yet taken. -/
structure IgnitionFilter where
  /-- Up to four samples, oldest first; `true` is ON. -/
  history : List Bool
  level : Bool
  /-- The ignition-off events issued to the grant table that it has not yet taken. An ignition-on changes nothing there
  nor at the counter guard, and none is kept for them (R177). -/
  grantOffs : Nat
  /-- The ignition-off events for the counter guard. -/
  guardOffs : Nat
  /-- The events for the output unit, oldest first; `true` is ignition-on. -/
  mirrorEvents : List Bool
  deriving DecidableEq, Repr

/-! ## The output unit (section 9) -/

inductive ChannelPhase where
  | idle | driving | gap
  deriving DecidableEq, Repr

/-- A pulse channel (R180, R182); its output is asserted while it is DRIVING. -/
structure Channel where
  phase : ChannelPhase
  /-- The guard-clock periods of the pulse or the gap so far. An IDLE channel has no count (R180): the field is 0 at
  reset and after a gap, by the model's choice, and nothing reads it (log entry 38). -/
  count : Nat
  held : Bool
  deriving DecidableEq, Repr

inductive SlotMirror where
  | free | challenged | opened
  deriving DecidableEq, Repr

inductive LampPattern where
  | off | steady | slow | fast
  deriving DecidableEq, Repr

/-- A lamp driver: released, or driven high or low (R189). -/
inductive LampDriver where
  | released | high | low
  deriving DecidableEq, Repr

structure Lamp where
  pattern : LampPattern
  lit : Bool
  driver : LampDriver
  deriving DecidableEq, Repr

structure OutputUnit where
  alert : Channel
  resetRequest : Channel
  started : Bool
  slotMirror : Vector SlotMirror 4
  lockdownMirror : Bool
  scoreMirror : Nat
  alarmMirror : Bool
  lampStep : Fin 32
  workshopLamp : Lamp
  tamperLamp : Lamp
  ignitionMirror : Bool
  /-- The workshop-active output. -/
  workshopActive : Bool
  deriving DecidableEq, Repr

/-! ## The configuration store (section 10) -/

/-- The values of the items, `none` for an item that has never been written (R190). A floor item queued as cleared
is again `none`. -/
structure Items where
  provisionedMark : Option Bool
  serial : Option (List Byte)
  keys : Vector (Option (List Byte)) 3
  settings : Option Settings
  windows : Vector (Option (Option Window)) 8
  dflt : Option WindowTerms
  cells : Vector (Option (Option CellDef)) 8
  floors : Vector (Option Nat) 8
  failedCount : Option (BitVec 8)
  lockdownMark : Option Bool
  logMark : Option Bool
  challengeCounter : Option Quad
  powerOnCount : Option Quad
  deriving DecidableEq, Repr

/-- An entry of the write queue: an item with the value to write. -/
inductive ItemWrite where
  | provisionedMark (v : Bool)
  | serial (v : List Byte)
  | key (l : Level) (v : List Byte)
  | settings (v : Settings)
  | window (n : Fin 8) (v : Option Window)
  | dflt (v : WindowTerms)
  | cellDef (n : Fin 8) (v : Option CellDef)
  | floor (n : Fin 8) (v : Option Nat)
  | failedCount (v : BitVec 8)
  | lockdownMark (v : Bool)
  | logMark (v : Bool)
  | challengeCounter (v : Quad)
  | powerOnCount (v : Quad)
  deriving DecidableEq, Repr

structure Store where
  /-- What each item holds in the non-volatile memory: its last completed write. -/
  stored : Items
  /-- The held values: loaded at power-on, or the latest write queued (R190). -/
  held : Items
  /-- Oldest first. -/
  queue : List ItemWrite
  inFlight : Option ItemWrite
  deriving DecidableEq, Repr

/-- Where start-up stands (R195): the store is loading, the scan runs, or start-up has ended. -/
inductive StartPhase where
  | loading | scanning | running
  deriving DecidableEq, Repr

structure StartUp where
  phase : StartPhase
  /-- The boot-width strap as read at this power-on reset; `true` is asserted. -/
  strap : Bool
  deriving DecidableEq, Repr

/-! ## The whole part -/

/-- The state of the part: the queue of waiting commands, the model's count of guard-clock periods, and one field per
block. -/
structure State where
  pending : List Instr
  /-- The MODEL's own: the guard-clock periods that have passed, which number the free values of log entry 22. -/
  guardPeriods : Nat
  start : StartUp
  port : ProcPort
  decision : DecisionUnit
  table : WindowTable
  guard : CounterGuard
  mem : MemPort
  grants : GrantTable
  engine : Option ProofInFlight
  link : Link
  log : Log
  time : Timebase
  ignition : IgnitionFilter
  out : OutputUnit
  store : Store
  deriving DecidableEq, Repr

/-! ## After power-on reset -/

/-- The settings of the unprovisioned defaults (R29). -/
def Settings.unprovisioned : Settings where
  nodeAddress := 254
  divisor := 104
  parityMode := .even
  stopBits := .one
  alertThreshold := 16
  lockdownThreshold := 64
  decayInterval := 60
  readyLimit := 4096
  holdLimit := 4
  parityCheck := true
  polarity := .activeHigh

/-- The unprovisioned default window, its width from the boot-width strap (R29). -/
def WindowTerms.unprovisioned (strap : Bool) : WindowTerms where
  cls := .opn
  deviceSelect := 0
  width := if strap then .wide16 else .narrow8
  waitStates := 15
  readyMode := .fixed
  denyResponse := .quiet

/-- The empty staged copy (R31). -/
def Staged.empty : Staged where
  windows := #v[none, none, none, none, none, none, none, none]
  dflt := none
  cells := #v[none, none, none, none, none, none, none, none]
  settings := none

/-- Items none of which has ever been written. -/
def Items.blank : Items where
  provisionedMark := none
  serial := none
  keys := #v[none, none, none]
  settings := none
  windows := #v[none, none, none, none, none, none, none, none]
  dflt := none
  cells := #v[none, none, none, none, none, none, none, none]
  floors := #v[none, none, none, none, none, none, none, none]
  failedCount := none
  lockdownMark := none
  logMark := none
  challengeCounter := none
  powerOnCount := none

/-- A cell without a definition: DISABLED, nothing in flight. -/
def Cell.disabled : Cell := { defn := none, live := none, loadedFloor := none, op := none, stale := false }

/-- A channel IDLE with its held flag clear (R179). R180 gives an IDLE channel no count: that the model holds 0 there is
its own choice (log entry 38). -/
def Channel.quiet : Channel := { phase := .idle, count := 0, held := false }

/-- A lamp OFF, not lit, its driver released (R179). -/
def Lamp.dark : Lamp := { pattern := .off, lit := false, driver := .released }

/-- The state at power-on reset before the power-on count is raised, for a non-volatile memory `stored`, a strap
level, the level of the bus-reset input and the cycle the processor presents. What the load of R195 brings has no value
in the manual before it: the tables and cells, the lockdown state NORMAL, the failed count, the backoff and the challenge
counter 0, and the mark copy clear are the model's choice until then (log entry 8), and so are the held values (log
entry 32). -/
def State.fresh (stored : Items) (strap busReset : Bool) (presented : Option CycleLines) : State where
  pending := []
  guardPeriods := 0
  start := { phase := .loading, strap := strap }
  port := { state := .closed, cycle := none, presented := presented, completion := none, busReset := busReset }
  decision := { record := none, score := 0, decayCount := 0, lockdown := false }
  table :=
    { windows := #v[none, none, none, none, none, none, none, none]
      dflt := .unprovisioned strap
      settings := .unprovisioned
      staged := .empty
      apply := .idle
      applyingSlot := none
      applyItems := [] }
  guard :=
    { cells := #v[.disabled, .disabled, .disabled, .disabled, .disabled, .disabled, .disabled, .disabled]
      waitingWrite := none }
  mem := { transfer := none, place := none, queue := [] }
  grants := { slots := #v[.free, .free, .free, .free], failed := 0, backoff := 0, clock := 0, counter := 0 }
  engine := none
  link := { receiver := .off, line := .watching, buffer := none, execution := none, reply := none, offDue := false }
  log := { records := [], nextSeq := 1, dropped := 0, markCopy := false, alarm := false }
  time :=
    { periodCount := 0, seconds := 0, samples := 0, lampSteps := [], guardTicks := [], tableTicks := []
      grantSeconds := 0, decisionSeconds := 0 }
  ignition := { history := [], level := false, grantOffs := 0, guardOffs := 0, mirrorEvents := [] }
  out :=
    { alert := .quiet
      resetRequest := .quiet
      started := false
      slotMirror := #v[.free, .free, .free, .free]
      lockdownMirror := false
      scoreMirror := 0
      alarmMirror := false
      lampStep := 0
      workshopLamp := .dark
      tamperLamp := .dark
      ignitionMirror := false
      workshopActive := false }
  store := { stored := stored, held := .blank, queue := [], inFlight := none }

/-- The machine right after power-on reset: a new part (no item ever written, R190), its strap and bus-reset inputs
unasserted and no cycle presented (log entry 7), with the power-on count raised to 1 and its item write started
(R195 step 1). -/
def State.reset : State :=
  { State.fresh .blank false false none with
    store :=
      { stored := .blank
        held := { Items.blank with powerOnCount := some 1 }
        queue := []
        inFlight := some (.powerOnCount 1) } }

end Sys2Proof.Machine
end

