-- ==== Sys2Proof/Machine/Flags.lean ====
section
/-! DEFINITION. The output unit (section 9): the pulse channels, the workshop-active level, the lamps and the
mirrors their owners report to. -/

namespace Sys2Proof.Machine

/-! ## Pulse channels (R180, R182, R183) -/

/-- A cause reaches a channel: held while start-up runs (R183), else by the state table of R180. -/
def Channel.signal (started : Bool) (c : Channel) : Channel :=
  if started then
    match c.phase with
    | .idle => { c with phase := .driving, count := 0 }
    | .driving => c
    | .gap => { c with held := true }
  else { c with held := true }

/-- The count of a pulse reaches its limit: the output is deasserted and the gap begins (R180). -/
def Channel.pulseEnd (c : Channel) : Channel :=
  match c.phase with
  | .driving => { c with phase := .gap, count := 0 }
  | _ => c

/-- The count of a gap reaches its limit: a held cause starts a pulse, otherwise the channel is IDLE (R180), where the
manual gives no count and the model holds 0 (log entry 38). -/
def Channel.gapEnd (c : Channel) : Channel :=
  match c.phase with
  | .gap => if c.held then { phase := .driving, count := 0, held := false } else { phase := .idle, count := 0, held := false }
  | _ => c

/-- A cause held during start-up is issued when started becomes yes (R183). -/
def Channel.start (c : Channel) : Channel :=
  if c.held then { phase := .driving, count := 0, held := false } else c

/-- One guard-clock period passes on a channel whose pulse and gap last `limit` periods (R180). -/
def Channel.period (limit : Nat) (c : Channel) : Channel :=
  match c.phase with
  | .idle => c
  | .driving => if limit ≤ c.count + 1 then c.pulseEnd else { c with count := c.count + 1 }
  | .gap => if limit ≤ c.count + 1 then c.gapEnd else { c with count := c.count + 1 }

/-- The output a channel drives is asserted exactly while it is DRIVING (R180). -/
def Channel.output (c : Channel) : Bool := c.phase = .driving

/-! ## Lamps (R185 to R189) -/

/-- R185: the lit state of a pattern at a value of the lamp step counter. -/
def LampPattern.litAt (p : LampPattern) (step : Fin 32) : Bool :=
  match p with
  | .off => false
  | .steady => true
  | .slow => step.val < 16
  | .fast => step.val % 8 < 4

/-- R186: the workshop lamp's pattern. -/
def OutputUnit.workshopPattern (o : OutputUnit) : LampPattern :=
  if SlotMirror.opened ∈ o.slotMirror.toList then .steady
  else if SlotMirror.challenged ∈ o.slotMirror.toList then .slow
  else .off

/-- R187: the tamper lamp's pattern, for the live alert threshold. -/
def OutputUnit.tamperPattern (o : OutputUnit) (threshold : Nat) : LampPattern :=
  if o.lockdownMirror then .steady
  else if o.alarmMirror then .fast
  else if threshold ≤ o.scoreMirror then .slow
  else .off

/-- R189: the level of a driven lamp by its lit state and the polarity; a released driver outputs neither level. -/
def driverLevel (driven lit : Bool) (polarity : LampPolarity) : LampDriver :=
  if driven then
    match polarity with
    | .activeHigh => if lit then .high else .low
    | .activeLow => if lit then .low else .high
  else .released

/-- R189: a lamp driver is driven while started is yes and the ignition mirror is ON. -/
def OutputUnit.driven (o : OutputUnit) : Bool := o.started && o.ignitionMirror

/-- Set both drivers from the lit states as they stand (R189). -/
def OutputUnit.setDrivers (st : Settings) (o : OutputUnit) : OutputUnit :=
  { o with
    workshopLamp := { o.workshopLamp with driver := driverLevel o.driven o.workshopLamp.lit st.polarity }
    tamperLamp := { o.tamperLamp with driver := driverLevel o.driven o.tamperLamp.lit st.polarity } }

/-- R185, R188: evaluate both lamps. Before started is yes both are OFF and not lit. With both SLOW the tamper lamp
takes the opposite phase. -/
def OutputUnit.evaluate (st : Settings) (o : OutputUnit) : OutputUnit :=
  let wp := if o.started then o.workshopPattern else .off
  let tp := if o.started then o.tamperPattern st.alertThreshold else .off
  let tlit := if wp = .slow ∧ tp = .slow then !(tp.litAt o.lampStep) else tp.litAt o.lampStep
  OutputUnit.setDrivers st
    { o with
      workshopLamp := { o.workshopLamp with pattern := wp, lit := wp.litAt o.lampStep }
      tamperLamp := { o.tamperLamp with pattern := tp, lit := tlit } }

/-! ## Reports to the mirrors -/

/-- What the slot mirror holds for a slot. -/
def Slot.mirror : Slot → SlotMirror
  | .free => .free
  | .challenged _ _ _ => .challenged
  | .opened _ _ _ => .opened

/-- R184: workshop-active is asserted while some entry of the slot mirror is OPEN. -/
def OutputUnit.anyOpen (o : OutputUnit) : Bool := decide (SlotMirror.opened ∈ o.slotMirror.toList)

/-- The grant table reports a slot (R107): the entry, the workshop-active level and the lamps follow (R184, R185). -/
def OutputUnit.reportSlot (st : Settings) (i : Fin 4) (m : SlotMirror) (o : OutputUnit) : OutputUnit :=
  let o1 := { o with slotMirror := o.slotMirror.set i m }
  OutputUnit.evaluate st { o1 with workshopActive := o1.anyOpen }

/-- The decision unit reports the lockdown state; the lamps are evaluated if the mirror changes (R185, R187). -/
def OutputUnit.reportLockdown (st : Settings) (l : Bool) (o : OutputUnit) : OutputUnit :=
  if o.lockdownMirror = l then o else OutputUnit.evaluate st { o with lockdownMirror := l }

/-- The decision unit reports the score; the lamps are evaluated if the mirror changes (R185, R187). -/
def OutputUnit.reportScore (st : Settings) (n : Nat) (o : OutputUnit) : OutputUnit :=
  if o.scoreMirror = n then o else OutputUnit.evaluate st { o with scoreMirror := n }

/-- The audit log reports its alarm indication; the lamps are evaluated if the mirror changes (R158, R185). -/
def OutputUnit.reportAlarm (st : Settings) (a : Bool) (o : OutputUnit) : OutputUnit :=
  if o.alarmMirror = a then o else OutputUnit.evaluate st { o with alarmMirror := a }

/-- Started becomes yes: held causes are issued and the lamps are evaluated (R179, R183). -/
def OutputUnit.becomeStarted (st : Settings) (o : OutputUnit) : OutputUnit :=
  OutputUnit.evaluate st { o with started := true, alert := o.alert.start, resetRequest := o.resetRequest.start }

/-- A lamp step: the counter takes the step's number and both lamps are evaluated (R185). -/
def OutputUnit.takeLampStep (st : Settings) (n : Fin 32) (o : OutputUnit) : OutputUnit :=
  OutputUnit.evaluate st { o with lampStep := n }

/-- An ignition event sets the mirror and drives or releases both drivers at once (R189). -/
def OutputUnit.takeIgnition (st : Settings) (on : Bool) (o : OutputUnit) : OutputUnit :=
  OutputUnit.setDrivers st { o with ignitionMirror := on }

/-! ## On the whole state -/

/-- One alert cause (R180, R181). -/
def State.alertCause (s : State) : State :=
  { s with out := { s.out with alert := s.out.alert.signal s.out.started } }

/-- One reset-request cause (R182). -/
def State.resetRequestCause (s : State) : State :=
  { s with out := { s.out with resetRequest := s.out.resetRequest.signal s.out.started } }

def State.reportSlot (i : Fin 4) (s : State) : State :=
  { s with out := s.out.reportSlot s.table.settings i (s.grants.slots[i]).mirror }

def State.reportLockdown (s : State) : State :=
  { s with out := s.out.reportLockdown s.table.settings s.decision.lockdown }

def State.reportScore (s : State) : State :=
  { s with out := s.out.reportScore s.table.settings s.decision.score }

def State.reportAlarm (s : State) : State :=
  { s with out := s.out.reportAlarm s.table.settings s.log.alarm }

end Sys2Proof.Machine
end

