-- ==== Sys2Proof/Machine/Operands.lean ====
section
/-! DEFINITION. The operand forms of the link: the byte layouts of section 6.5 (R149), read and written, and the
field checks whose first failure is answered INVALID at its offset (R142). -/

namespace Sys2Proof

/-! ## Numbers and the enumerations of the command types -/

/-- A number sent least significant byte first (R149). -/
def leNat : List Byte → Nat
  | [] => 0
  | b :: rest => b.toNat + 256 * leNat rest

/-- The `k` bytes of a number, least significant first (R149). -/
def toLe : Nat → Nat → List Byte
  | 0, _ => []
  | k + 1, n => BitVec.ofNat 8 n :: toLe k (n / 256)

/-- The bytes of a payload's field; offsets count from 1 (section 6.5). -/
def bytesAt (p : List Byte) (offset size : Nat) : List Byte := (p.drop (offset - 1)).take size

/-- The number a payload's field holds. -/
def fieldAt (p : List Byte) (offset size : Nat) : Nat := leNat (bytesAt p offset size)

/-- `n` as a number below `k`, if it is one. -/
def finOf (k n : Nat) : Option (Fin k) := if h : n < k then some ⟨n, h⟩ else none

/-- A yes/no field is in range when it is 0 or 1 (R149). -/
def isFlag (n : Nat) : Bool := n ≤ 1

def flagByte (b : Bool) : Byte := if b then 1 else 0

/-- The offset of the first failed check, for checks listed in the order they are made. -/
def firstBad : List (Nat × Bool) → Option Nat
  | [] => none
  | (offset, ok) :: rest => if ok then firstBad rest else some offset

/-- The window index, and the window key of records and of APPLY STAGED: 0..7, DEFAULT 8. -/
def WindowId.byteCode : WindowId → Nat
  | .numbered n => n.val
  | .dflt => 8

def WindowId.ofByteCode (n : Nat) : Option WindowId :=
  if n = 8 then some .dflt else (finOf 8 n).map .numbered

def Level.byteCode : Level → Nat
  | .one => 1 | .two => 2 | .three => 3

def Level.ofByteCode : Nat → Option Level
  | 1 => some .one | 2 => some .two | 3 => some .three | _ => none

/-- Severities, ordered NOTE below WARN below ALARM by their codes (R151, section 6.5). -/
inductive Severity where
  | note | warn | alarm
  deriving DecidableEq, Repr

def Severity.byteCode : Severity → Nat
  | .note => 1 | .warn => 2 | .alarm => 3

/-- R151: each kind has one severity. -/
def RecordKind.severity : RecordKind → Severity
  | .grantOpened | .grantClosed | .configApplied | .logReleased => .note
  | .writeDenied | .fetchDenied | .readDenied | .grantRefused | .counterClamped | .counterRefused | .counterSet
  | .halfTorn | .deviceTimeout | .parityError => .warn
  | .counterRegressed | .lockdown | .unlock | .evidenceLost => .alarm

/-- R151: the six kinds that coalesce. -/
def RecordKind.coalesces : RecordKind → Bool
  | .writeDenied | .fetchDenied | .readDenied | .counterClamped | .deviceTimeout | .parityError => true
  | _ => false

def RecordKind.byteCode : RecordKind → Byte
  | .grantOpened => 0x01 | .grantClosed => 0x02 | .configApplied => 0x03 | .logReleased => 0x04
  | .writeDenied => 0x10 | .fetchDenied => 0x11 | .readDenied => 0x12 | .grantRefused => 0x13
  | .counterClamped => 0x14 | .counterRefused => 0x15 | .counterSet => 0x16 | .halfTorn => 0x17
  | .deviceTimeout => 0x18 | .parityError => 0x19
  | .counterRegressed => 0x20 | .lockdown => 0x21 | .unlock => 0x22 | .evidenceLost => 0x23

def RecordKey.byteCode : RecordKey → Byte
  | .window w => BitVec.ofNat 8 w.byteCode
  | .cell n => BitVec.ofNat 8 n.val
  | .slot n => BitVec.ofNat 8 n.val
  | .device n => BitVec.ofNat 8 n.val

/-- The reason codes; GRANT-OPENED carries the level and COUNTER-SET the slot charged (R152). -/
def Reason.byteCode : Reason → Byte
  | .parity => 1 | .kind => 2 | .read => 3 | .write => 4 | .noFetch => 5
  | .program => 6 | .calibrate => 7 | .clear => 8 | .priv => 9
  | .denial => 10 | .proof => 11 | .refusal => 12 | .regression => 13
  | .badProof => 14
  | .closed => 15 | .expired => 16 | .ignition => 17 | .lockdown => 18 | .exhausted => 19
  | .decrease => 20 | .partialLanes => 21 | .busReset => 22 | .apply => 23
  | .level l => BitVec.ofNat 8 l.byteCode
  | .charged n => BitVec.ofNat 8 n.val

end Sys2Proof

namespace Sys2Proof.Machine

/-! ## Enumerations (section 6.5) -/

def WindowClass.byteCode : WindowClass → Nat
  | .opn => 0 | .code => 1 | .calibration => 2 | .records => 3 | .priv => 4

def WindowClass.ofByteCode : Nat → Option WindowClass
  | 0 => some .opn | 1 => some .code | 2 => some .calibration | 3 => some .records | 4 => some .priv | _ => none

def WindowWidth.byteCode : WindowWidth → Nat
  | .wide16 => 0 | .narrow8 => 1 | .sensed => 2

def WindowWidth.ofByteCode : Nat → Option WindowWidth
  | 0 => some .wide16 | 1 => some .narrow8 | 2 => some .sensed | _ => none

def ReadyMode.byteCode : ReadyMode → Nat
  | .fixed => 0 | .ready => 1

def ReadyMode.ofByteCode : Nat → Option ReadyMode
  | 0 => some .fixed | 1 => some .ready | _ => none

def DenyResponse.byteCode : DenyResponse → Nat
  | .quiet => 0 | .flag => 1

def DenyResponse.ofByteCode : Nat → Option DenyResponse
  | 0 => some .quiet | 1 => some .flag | _ => none

def ParityMode.byteCode : ParityMode → Nat
  | .none => 0 | .even => 1 | .odd => 2

def ParityMode.ofByteCode : Nat → Option ParityMode
  | 0 => some .none | 1 => some .even | 2 => some .odd | _ => Option.none

def StopBits.byteCode : StopBits → Nat
  | .one => 1 | .two => 2

def StopBits.ofByteCode : Nat → Option StopBits
  | 1 => some .one | 2 => some .two | _ => none

def LampPolarity.byteCode : LampPolarity → Nat
  | .activeHigh => 0 | .activeLow => 1

def LampPolarity.ofByteCode : Nat → Option LampPolarity
  | 0 => some .activeHigh | 1 => some .activeLow | _ => none

/-- The bit of a right in a rights byte (R149). -/
def Right.bit : Right → Nat
  | .clear => 0 | .calibrate => 1 | .program => 2 | .priv => 3 | .counterSet => 4 | .configure => 5

/-- The status codes, 0x00 to 0x0F in the order of the status table of section 6.3. -/
inductive Status where
  | ok | busy | wait | full | denied | notOpen | notOwner | notChallenged | badProof | invalid | locked
  | notProvisioned | alreadyProvisioned | checkError | lengthError | unknown
  deriving DecidableEq, Repr

def Status.byteCode : Status → Byte
  | .ok => 0x00 | .busy => 0x01 | .wait => 0x02 | .full => 0x03 | .denied => 0x04 | .notOpen => 0x05
  | .notOwner => 0x06 | .notChallenged => 0x07 | .badProof => 0x08 | .invalid => 0x09 | .locked => 0x0A
  | .notProvisioned => 0x0B | .alreadyProvisioned => 0x0C | .checkError => 0x0D | .lengthError => 0x0E
  | .unknown => 0x0F

/-- What an executing block returns: a status and the payload of the reply (R140). -/
structure Answer where
  status : Status
  payload : List Byte
  deriving DecidableEq, Repr

def Answer.plain (st : Status) : Answer := { status := st, payload := [] }

/-- INVALID with one byte: the offset of the offending field (R142). -/
def Answer.invalidAt (offset : Nat) : Answer := { status := .invalid, payload := [BitVec.ofNat 8 offset] }

/-! ## Command codes (section 6.5) -/

def codeIdentify : Byte := 0x01
def codeStatus : Byte := 0x02
def codeRequestGrant : Byte := 0x10
def codeProveGrant : Byte := 0x11
def codeCloseGrant : Byte := 0x12
def codeListGrants : Byte := 0x13
def codeReadLog : Byte := 0x20
def codeReleaseLog : Byte := 0x21
def codeReadCell : Byte := 0x28
def codeReadTable : Byte := 0x30
def codeStageWindow : Byte := 0x31
def codeStageCell : Byte := 0x32
def codeStageSettings : Byte := 0x33
def codeApplyStaged : Byte := 0x34
def codeDiscardStaged : Byte := 0x35
def codeResetEcu : Byte := 0x40
def codeUnlock : Byte := 0x41
def codeProvisionKey : Byte := 0x50
def codeProvisionIdentity : Byte := 0x51
def codeFinishProvisioning : Byte := 0x52

/-- The defined command codes (section 6.5). -/
def commandCodes : List Byte :=
  [codeIdentify, codeStatus, codeRequestGrant, codeProveGrant, codeCloseGrant, codeListGrants, codeReadLog,
   codeReleaseLog, codeReadCell, codeReadTable, codeStageWindow, codeStageCell, codeStageSettings, codeApplyStaged,
   codeDiscardStaged, codeResetEcu, codeUnlock, codeProvisionKey, codeProvisionIdentity, codeFinishProvisioning]

/-! ## Acting grant, window, cell and settings blocks -/

/-- The acting grant a command carries at offset 1 (five bytes). -/
structure ActingGrant where
  slot : Nat
  toolId : Quad
  deriving DecidableEq, Repr

def ActingGrant.read (p : List Byte) : ActingGrant :=
  { slot := fieldAt p 1 1, toolId := BitVec.ofNat 32 (fieldAt p 2 4) }

/-- The seventeen window sizes: the powers of two from 256 to 16,777,216 (section 2.1). -/
def isWindowSize (n : Nat) : Bool := (List.range 17).any fun i => n == 2 ^ (8 + i)

/-- The window fields of a payload whose window value stands at offset `o`. -/
def readTerms (p : List Byte) (o : Nat) : WindowTerms where
  cls := (WindowClass.ofByteCode (fieldAt p (o + 8) 1)).getD .opn
  deviceSelect := (finOf 6 (fieldAt p (o + 9) 1)).getD 0
  width := (WindowWidth.ofByteCode (fieldAt p (o + 13) 1)).getD .wide16
  waitStates := (finOf 16 (fieldAt p (o + 14) 1)).getD 0
  readyMode := (ReadyMode.ofByteCode (fieldAt p (o + 15) 1)).getD .fixed
  denyResponse := (DenyResponse.ofByteCode (fieldAt p (o + 16) 1)).getD .quiet

/-- The window a payload's window value gives; disabled is `none` (R34). -/
def readWindow (p : List Byte) (o : Nat) : Option Window :=
  if fieldAt p o 1 = 0 then none
  else some
    { base := BitVec.ofNat 24 (fieldAt p (o + 1) 3)
      size := fieldAt p (o + 4) 4
      offset := BitVec.ofNat 24 (fieldAt p (o + 10) 3)
      terms := readTerms p o }

def checkClass (p : List Byte) (o : Nat) : Nat × Bool := (o + 8, (WindowClass.ofByteCode (fieldAt p (o + 8) 1)).isSome)
def checkSelect (p : List Byte) (o : Nat) : Nat × Bool := (o + 9, decide (fieldAt p (o + 9) 1 ≤ 5))

/-- Width, wait states, ready mode and deny response, the last four fields of the field table (R34). -/
def checkTiming (p : List Byte) (o : Nat) : List (Nat × Bool) :=
  [(o + 13, (WindowWidth.ofByteCode (fieldAt p (o + 13) 1)).isSome),
   (o + 14, decide (fieldAt p (o + 14) 1 ≤ 15)),
   (o + 15, (ReadyMode.ofByteCode (fieldAt p (o + 15) 1)).isSome),
   (o + 16, (DenyResponse.ofByteCode (fieldAt p (o + 16) 1)).isSome)]

/-- The checks of a numbered window's value in the order of the field table (R34). -/
def checkNumbered (p : List Byte) (o : Nat) : List (Nat × Bool) :=
  (o, isFlag (fieldAt p o 1)) ::
    if fieldAt p o 1 = 0 then []
    else
      [(o + 1, decide (fieldAt p (o + 4) 4 ∣ fieldAt p (o + 1) 3)),
       (o + 4, isWindowSize (fieldAt p (o + 4) 4)),
       checkClass p o, checkSelect p o,
       (o + 10, decide (fieldAt p (o + 10) 3 % 256 = 0 ∧ fieldAt p (o + 10) 3 + fieldAt p (o + 4) 4 ≤ 16777216))] ++
        checkTiming p o

/-- The checks of the default window's value: enabled, base, size and device offset are not examined (R34). -/
def checkDefault (p : List Byte) (o : Nat) : List (Nat × Bool) :=
  [checkClass p o, checkSelect p o] ++ checkTiming p o

/-- The cell definition a payload's block gives; disabled is `none` (R35). -/
def readCellDef (p : List Byte) (o : Nat) : Option CellDef :=
  if fieldAt p o 1 = 0 then none
  else some
    { width := if fieldAt p (o + 1) 1 = 16 then .w16 else .w32
      address := BitVec.ofNat 24 (fieldAt p (o + 2) 3)
      mode := if fieldAt p (o + 5) 1 = 1 then .rate (fieldAt p (o + 6) 3) (fieldAt p (o + 9) 2) else .monotonic }

/-- The checks of a cell definition: enabled, width, byte address, mode, rate and cap (R35). -/
def checkCellDef (p : List Byte) (o : Nat) : List (Nat × Bool) :=
  (o, isFlag (fieldAt p o 1)) ::
    if fieldAt p o 1 = 0 then []
    else
      [(o + 1, fieldAt p (o + 1) 1 == 16 || fieldAt p (o + 1) 1 == 32),
       (o + 2, decide (fieldAt p (o + 2) 3 % (if fieldAt p (o + 1) 1 = 16 then 2 else 4) = 0)),
       (o + 5, isFlag (fieldAt p (o + 5) 1))] ++
        if fieldAt p (o + 5) 1 = 1 then
          [(o + 6, decide (1 ≤ fieldAt p (o + 6) 3)), (o + 9, decide (1 ≤ fieldAt p (o + 9) 2))]
        else []

/-- The settings record a payload's block gives (R36). -/
def readSettings (p : List Byte) (o : Nat) : Settings where
  nodeAddress := BitVec.ofNat 8 (fieldAt p o 1)
  divisor := fieldAt p (o + 1) 2
  parityMode := (ParityMode.ofByteCode (fieldAt p (o + 3) 1)).getD .none
  stopBits := (StopBits.ofByteCode (fieldAt p (o + 4) 1)).getD .one
  alertThreshold := fieldAt p (o + 5) 1
  lockdownThreshold := fieldAt p (o + 6) 1
  decayInterval := fieldAt p (o + 7) 2
  readyLimit := fieldAt p (o + 9) 2
  holdLimit := fieldAt p (o + 11) 1
  parityCheck := decide (fieldAt p (o + 12) 1 = 1)
  polarity := (LampPolarity.ofByteCode (fieldAt p (o + 13) 1)).getD .activeHigh

/-- The checks of a settings record in the order of the table of R36. -/
def checkSettings (p : List Byte) (o : Nat) : List (Nat × Bool) :=
  [(o, decide (1 ≤ fieldAt p o 1 ∧ fieldAt p o 1 ≤ 254)),
   (o + 1, decide (fieldAt p (o + 1) 2 ≤ 1023)),
   (o + 3, (ParityMode.ofByteCode (fieldAt p (o + 3) 1)).isSome),
   (o + 4, (StopBits.ofByteCode (fieldAt p (o + 4) 1)).isSome),
   (o + 5, decide (1 ≤ fieldAt p (o + 5) 1)),
   (o + 7, decide (1 ≤ fieldAt p (o + 7) 2 ∧ fieldAt p (o + 7) 2 ≤ 3600)),
   (o + 9, decide (16 ≤ fieldAt p (o + 9) 2)),
   (o + 11, decide (1 ≤ fieldAt p (o + 11) 1 ∧ fieldAt p (o + 11) 1 ≤ 16)),
   (o + 12, isFlag (fieldAt p (o + 12) 1)),
   (o + 13, (LampPolarity.ofByteCode (fieldAt p (o + 13) 1)).isSome)]

/-- The six fields of a window value that the default window has too, laid out after its class offset. -/
def windowBytes (enabled : Bool) (base size offset : Nat) (t : WindowTerms) : List Byte :=
  flagByte enabled :: toLe 3 base ++ toLe 4 size ++ [BitVec.ofNat 8 t.cls.byteCode, BitVec.ofNat 8 t.deviceSelect.val] ++
    toLe 3 offset ++ [BitVec.ofNat 8 t.width.byteCode, BitVec.ofNat 8 t.waitStates.val, BitVec.ofNat 8 t.readyMode.byteCode,
      BitVec.ofNat 8 t.denyResponse.byteCode]

/-- A block of zeros: an absent value, or what a disabled entry holds after its enabled byte (R146). -/
def zeros (n : Nat) : List Byte := List.replicate n 0

/-- The window value of a numbered window in a reply; a disabled one is all zeros (R146). -/
def windowBlock : Option Window → List Byte
  | none => zeros 17
  | some w => windowBytes true w.base.toNat w.size w.offset.toNat w.terms

/-- The default window reads with zeros in its enabled, base, size and device offset bytes (R146). -/
def defaultBlock (t : WindowTerms) : List Byte := windowBytes false 0 0 0 t

/-- The cell definition block of a reply; a disabled cell is all zeros (R146). -/
def cellBlock : Option CellDef → List Byte
  | none => zeros 11
  | some d =>
    flagByte true :: (match d.width with | .w16 => 16 | .w32 => 32) :: toLe 3 d.address.toNat ++
      (match d.mode with
       | .monotonic => 0 :: zeros 5
       | .rate r c => 1 :: toLe 3 r ++ toLe 2 c)

/-- The settings block of a reply. -/
def settingsBlock (st : Settings) : List Byte :=
  st.nodeAddress :: toLe 2 st.divisor ++ [BitVec.ofNat 8 st.parityMode.byteCode, BitVec.ofNat 8 st.stopBits.byteCode,
    BitVec.ofNat 8 st.alertThreshold, BitVec.ofNat 8 st.lockdownThreshold] ++ toLe 2 st.decayInterval ++
    toLe 2 st.readyLimit ++ [BitVec.ofNat 8 st.holdLimit, flagByte st.parityCheck, BitVec.ofNat 8 st.polarity.byteCode]

/-! ## The log record as read out (section 6.5) -/

/-- An absent reason reads 0, but 0xFF in a COUNTER-SET record, whose reason is a slot (R152). -/
def reasonByte (r : Report) : Byte :=
  match r.reason with
  | some x => x.byteCode
  | none => if r.kind = .counterSet then 0xFF else 0

/-- The 25 bytes of a record: an absent key reads 0xFF and every other absent field zeros (R152). -/
def LogRecord.bytes (r : LogRecord) : List Byte :=
  toLe 4 r.sequence ++ toLe 4 r.seconds.toNat ++
    [r.report.kind.byteCode, BitVec.ofNat 8 r.report.kind.severity.byteCode,
     (match r.report.key with | some k => k.byteCode | none => 0xFF), reasonByte r.report] ++
    toLe 3 (r.report.address.getD 0).toNat ++ toLe 2 r.repeats ++
    toLe 4 (r.report.valueA.getD 0).toNat ++ toLe 4 (r.report.valueB.getD 0).toNat

/-! ## Grants on the link -/

/-- The four bytes of each half of a challenge, counter first, least significant byte first (section 6.5). -/
def Challenge.bytes (c : Challenge) : List Byte := toLe 4 c.counter.toNat ++ toLe 4 c.clock.toNat

/-- An allowance field; 0 stands for an absent allowance (R144). -/
def allowanceBytes (a : Option Nat) : List Byte := toLe 2 (a.getD 0)

/-- One 21-byte entry of LIST GRANTS (R128, section 6.5); fields the slot's state lacks are zero. -/
def Slot.entry : Slot → List Byte
  | .free => zeros 21
  | .challenged g _ age =>
    1 :: toLe 4 g.toolId.toNat ++ [BitVec.ofNat 8 g.level.byteCode, BitVec.ofNat 8 g.rights.toNat] ++ toLe 2 g.scope.toNat ++
      toLe 2 g.lifetime ++ allowanceBytes g.allowance ++ flagByte g.survive :: zeros 2 ++ BitVec.ofNat 8 age :: zeros 4
  | .opened g tally openedAt =>
    2 :: toLe 4 g.toolId.toNat ++ [BitVec.ofNat 8 g.level.byteCode, BitVec.ofNat 8 g.rights.toNat] ++ toLe 2 g.scope.toNat ++
      toLe 2 g.lifetime ++ allowanceBytes g.allowance ++ flagByte g.survive :: toLe 2 tally ++ 0 :: toLe 4 openedAt.toNat

/-- The state of a slot: FREE 0, CHALLENGED 1, OPEN 2 (section 6.5). -/
def Slot.stateCode : Slot → Byte
  | .free => 0
  | .challenged _ _ _ => 1
  | .opened _ _ _ => 2

/-- The checks of REQUEST GRANT's fields in the order of R108. -/
def checkRequest (p : List Byte) : List (Nat × Bool) :=
  [(1, fieldAt p 1 4 != 0),
   (5, (Level.ofByteCode (fieldAt p 5 1)).isSome),
   (6, decide (fieldAt p 6 1 < 64)),
   (7, decide (1 ≤ fieldAt p 7 2 ∧ fieldAt p 7 2 < 512)),
   (9, decide (1 ≤ fieldAt p 9 2 ∧ fieldAt p 9 2 ≤ 7200)),
   (13, isFlag (fieldAt p 13 1))]

/-- The terms a REQUEST GRANT carries, before trimming. -/
def readRequest (p : List Byte) : Grant where
  toolId := BitVec.ofNat 32 (fieldAt p 1 4)
  level := (Level.ofByteCode (fieldAt p 5 1)).getD .one
  rights := BitVec.ofNat 6 (fieldAt p 6 1)
  scope := BitVec.ofNat 9 (fieldAt p 7 2)
  lifetime := fieldAt p 9 2
  allowance := if fieldAt p 11 2 = 0 then none else some (fieldAt p 11 2)
  survive := decide (fieldAt p 13 1 = 1)

/-- The 31 bytes of the proof message (section 6.5), for a serial of eight bytes. -/
def proofMessage (serial : List Byte) (slot : Fin 4) (g : Grant) (c : Challenge) : List Byte :=
  serial ++ c.bytes ++ BitVec.ofNat 8 slot.val :: toLe 4 g.toolId.toNat ++
    [BitVec.ofNat 8 g.level.byteCode, BitVec.ofNat 8 g.rights.toNat] ++ toLe 2 g.scope.toNat ++ toLe 2 g.lifetime ++
    flagByte g.allowance.isSome :: allowanceBytes g.allowance ++ [flagByte g.survive]

/-! ## Cells on the link -/

def Operation.byteCode : Operation → Byte
  | .scanRead => 1
  | .newRead _ => 2
  | .correction => 3
  | .restore => 4
  | .evaluation _ _ _ => 5

/-- The operation byte of a cell; none reads 0. -/
def opByte : Option Operation → Byte
  | none => 0
  | some o => o.byteCode

def Half.byteCode : Half → Byte
  | .low => 1
  | .high => 2

end Sys2Proof.Machine
end

