-- ==== Sys2Proof/Machine/Ops.lean ====
section
/-! DEFINITION. The shared operations: the write queue of the store, the taking of a record by the log, the freeing,
closing and charging of grants, the violation score and lockdown, and the matching of windows. -/

namespace Sys2Proof.Machine

/-! ## Orders -/

/-- The slots in slot order. -/
def slotOrder : List (Fin 4) := [0, 1, 2, 3]

/-- The cells in cell order; also the numbered windows from lowest to highest. -/
def octOrder : List (Fin 8) := [0, 1, 2, 3, 4, 5, 6, 7]

/-- Apply a step to each slot in slot order. -/
def forSlots (f : Fin 4 → State → State) (s : State) : State := slotOrder.foldl (fun s i => f i s) s

/-- Apply a step to each cell in cell order. -/
def forCells (f : Fin 8 → State → State) (s : State) : State := octOrder.foldl (fun s n => f n s) s

/-! ## The configuration store (R190, R191) -/

def Level.index : Level → Fin 3
  | .one => 0 | .two => 1 | .three => 2

/-- The item an entry of the write queue is for. -/
def ItemWrite.item : ItemWrite → Item
  | .provisionedMark _ => .provisionedMark
  | .serial _ => .serial
  | .key l _ => .key l
  | .settings _ => .settings
  | .window n _ => .window (.numbered n)
  | .dflt _ => .window .dflt
  | .cellDef n _ => .cellDef n
  | .floor n _ => .floor n
  | .failedCount _ => .failedCount
  | .lockdownMark _ => .lockdownMark
  | .logMark _ => .logMark
  | .challengeCounter _ => .challengeCounter
  | .powerOnCount _ => .powerOnCount

/-- An item takes the value of a write. -/
def Items.write (m : Items) : ItemWrite → Items
  | .provisionedMark v => { m with provisionedMark := some v }
  | .serial v => { m with serial := some v }
  | .key l v => { m with keys := m.keys.set (Level.index l) (some v) }
  | .settings v => { m with settings := some v }
  | .window n v => { m with windows := m.windows.set n (some v) }
  | .dflt v => { m with dflt := some v }
  | .cellDef n v => { m with cells := m.cells.set n (some v) }
  | .floor n v => { m with floors := m.floors.set n v }
  | .failedCount v => { m with failedCount := some v }
  | .lockdownMark v => { m with lockdownMark := some v }
  | .logMark v => { m with logMark := some v }
  | .challengeCounter v => { m with challengeCounter := some v }
  | .powerOnCount v => { m with powerOnCount := some v }

/-- R191: while no write is in flight and the queue is not empty, the oldest entry leaves the queue and its write
starts. -/
def Store.startNext (st : Store) : Store :=
  match st.inFlight, st.queue with
  | none, w :: rest => { st with inFlight := some w, queue := rest }
  | _, _ => st

/-- The queue with one more write: an entry of the same item takes the value in place, otherwise the write joins at
the newest end (R191). -/
def enqueueItem (w : ItemWrite) (q : List ItemWrite) : List ItemWrite :=
  if q.any (fun x => x.item == w.item) then q.map (fun x => if x.item = w.item then w else x) else q ++ [w]

/-- Queue an item write; the held value takes the new value (R190, R191). -/
def Store.queueItem (w : ItemWrite) (st : Store) : Store :=
  Store.startNext { st with held := st.held.write w, queue := enqueueItem w st.queue }

/-- The write in flight completes with its own value, and the next is started (R191). -/
def Store.complete (st : Store) : Store :=
  match st.inFlight with
  | none => st
  | some w => Store.startNext { st with stored := st.stored.write w, inFlight := none }

/-- Whether an item is still queued or in flight (R45). -/
def Store.outstanding (st : Store) (i : Item) : Bool :=
  st.queue.any (fun w => w.item == i) ||
    (match st.inFlight with
     | some w => w.item == i
     | none => false)

def State.queueItem (w : ItemWrite) (s : State) : State := { s with store := s.store.queueItem w }

/-- The part is provisioned from the moment the held value of the provisioned mark is set (R193). -/
def State.provisioned (s : State) : Bool := s.store.held.provisionedMark = some true

/-! ## The audit log (R150 to R158, R162) -/

/-- R155: the newest record takes the details of a record that coalesces into it. -/
def LogRecord.coalesce (now : Quad) (r : Report) (n : LogRecord) : LogRecord :=
  { n with
    seconds := now
    report := { n.report with reason := r.reason, address := r.address, valueA := r.valueA, valueB := r.valueB }
    repeats := min (n.repeats + 1) 65535 }

/-- R154 case 1: the kind coalesces and the newest record has the same kind and the same key (PARITY-ERROR: the same
kind). -/
def Log.coalescesWith (l : Log) (r : Report) : Bool :=
  match l.records.getLast? with
  | none => false
  | some n =>
    r.kind.coalesces && n.report.kind == r.kind && (r.kind == .parityError || n.report.key == r.key)

/-- R153: after the number 0xFFFFFFFF no further sequence number can be given. -/
def Log.exhausted (l : Log) : Bool := 0xFFFFFFFF < l.nextSeq

/-- The record a report gives when it is appended (R153). -/
def Log.stamp (now : Quad) (r : Report) (l : Log) : LogRecord :=
  { sequence := l.nextSeq, seconds := now, report := r, repeats := 1 }

def LogRecord.severity (r : LogRecord) : Severity := r.report.kind.severity

/-- The lowest severity among the records of a list (R156); ALARM for an empty one. -/
def lowestSeverity : List LogRecord → Severity
  | [] => .alarm
  | r :: rest => if r.severity.byteCode ≤ (lowestSeverity rest).byteCode then r.severity else lowestSeverity rest

/-- The list without the oldest record of a severity (R156). -/
def removeOldest (sv : Severity) (l : List LogRecord) : List LogRecord := l.eraseP fun r => r.severity == sv

/-- R157: a record that cannot be kept is counted in the dropped tally. -/
def Log.discard (l : Log) : Log := { l with dropped := min (l.dropped + 1) 65535 }

/-- A record joins at the newest end of `base` with the next sequence number; the alarm indication is recomputed. -/
def Log.append (now : Quad) (r : Report) (base : List LogRecord) (l : Log) : Log :=
  { l with
    records := base ++ [l.stamp now r]
    nextSeq := l.nextSeq + 1
    alarm := (base ++ [l.stamp now r]).any fun x => x.severity == .alarm }

/-- What becomes of a record that reaches the log (R154). -/
inductive Taken where
  | coalesced | discarded | appended
  deriving DecidableEq, Repr

/-- R154: the first case that applies to a record. -/
def Log.caseOf (r : Report) (l : Log) : Taken :=
  if l.coalescesWith r then .coalesced
  else if l.exhausted then .discarded
  else if l.records.length < Config.logCapacity then .appended
  else if (lowestSeverity l.records).byteCode ≤ r.kind.severity.byteCode then .appended
  else .discarded

/-- R154 to R157: the log after taking a record, the mark copy apart. -/
def Log.take (now : Quad) (r : Report) (l : Log) : Log :=
  match l.caseOf r with
  | .coalesced =>
    { l with records := l.records.dropLast ++ (l.records.getLast?.map (LogRecord.coalesce now r)).toList }
  | .discarded => l.discard
  | .appended =>
    if l.records.length < Config.logCapacity then l.append now r l.records
    else l.append now r (removeOldest (lowestSeverity l.records) l.records)

/-- R162: the mark copy becomes set, and the item is queued, when a record other than LOG-RELEASED was appended and
the copy was clear. -/
def State.markAfter (t : Taken) (r : Report) (s : State) : State :=
  if t = .appended ∧ r.kind ≠ .logReleased ∧ s.log.markCopy = false then
    { s with log := { s.log with markCopy := true } }.queueItem (.logMark true)
  else s

/-- A record reaches the audit log (R154): it is taken in one step, then the mark copy and the alarm indication are
brought up to date (R158, R162). -/
def State.takeRecord (r : Report) (s : State) : State :=
  State.reportAlarm
    (State.markAfter (s.log.caseOf r) r { s with log := s.log.take s.time.seconds r })

/-! ## Freeing, closing and charging a grant (R53, R107, R122, R129) -/

def State.setSlot (i : Fin 4) (x : Slot) (s : State) : State :=
  { s with grants := { s.grants with slots := s.grants.slots.set i x } }

/-- R53: a charge grant that names a slot that became FREE becomes none; the held field stays. -/
def DecisionRecord.forget (i : Fin 4) (d : DecisionRecord) : DecisionRecord :=
  if d.chargeGrant = some i then { d with chargeGrant := none } else d

def State.forgetCharge (i : Fin 4) (s : State) : State :=
  { s with decision := { s.decision with record := s.decision.record.map (DecisionRecord.forget i) } }

/-- A slot becomes FREE without a record, and its freeing is reported (R107). -/
def State.freeSlot (i : Fin 4) (s : State) : State :=
  ((s.setSlot i .free).forgetCharge i).reportSlot i

/-- The GRANT-CLOSED record of R122. -/
def closedReport (i : Fin 4) (reason : Reason) (g : Grant) (tally : Nat) : Report :=
  { kind := .grantClosed, key := some (.slot i), reason := some reason, address := none
    valueA := some g.toolId, valueB := some (BitVec.ofNat 32 tally) }

/-- R122: an OPEN slot is closed; any other slot is left as it is (R130). -/
def State.closeSlot (i : Fin 4) (reason : Reason) (s : State) : State :=
  match s.grants.slots[i] with
  | .opened g tally _ =>
    (((s.setSlot i .free).takeRecord (closedReport i reason g tally)).forgetCharge i).reportSlot i
  | _ => s

/-- A slot that is not FREE is freed: an OPEN one closes with the reason, a CHALLENGED one leaves no record. -/
def State.endSlot (i : Fin 4) (reason : Reason) (s : State) : State :=
  match s.grants.slots[i] with
  | .free => s
  | .challenged _ _ _ => s.freeSlot i
  | .opened _ _ _ => s.closeSlot i reason

/-- The grant of a slot that holds one. -/
def Slot.grant? : Slot → Option Grant
  | .free => none
  | .challenged g _ _ => some g
  | .opened g _ _ => some g

/-- R55, R129: a charge raises the tally, lowers an allowance and closes the grant at 0; a slot that is not OPEN drops
it (R122). -/
def State.charge (i : Fin 4) (s : State) : State :=
  match s.grants.slots[i] with
  | .opened g tally at_ =>
    let g' := { g with allowance := g.allowance.map (· - 1) }
    let s' := s.setSlot i (.opened g' (min (tally + 1) 65535) at_)
    if g'.allowance = some 0 then s'.closeSlot i .exhausted else s'
  | _ => s

/-- A charge to a charge grant, or to none (R56). -/
def State.chargeOpt (c : Option (Fin 4)) (s : State) : State :=
  match c with
  | none => s
  | some i => s.charge i

/-- The bit of a window in a scope (R149). -/
def WindowId.scopeBit : WindowId → Nat
  | .numbered n => n.val
  | .dflt => 8

def Grant.hasRight (g : Grant) (r : Right) : Bool := g.rights.getLsbD r.bit

def Grant.inScope (g : Grant) (w : WindowId) : Bool := g.scope.getLsbD (WindowId.scopeBit w)

/-- R51: a slot holds a right for a window when it is OPEN, its scope includes the window and its rights the right. -/
def Slot.holds (r : Right) (w : WindowId) : Slot → Bool
  | .opened g _ _ => g.inScope w && g.hasRight r
  | _ => false

/-- R51: the lowest-numbered slot that holds a right for a window, if one does. -/
def GrantTable.holder (r : Right) (w : WindowId) (g : GrantTable) : Option (Fin 4) :=
  slotOrder.find? fun i => (g.slots[i]).holds r w

/-! ## Score and lockdown (R64 to R68) -/

/-- R68 step 2, R125: whether a slot is freed at lockdown entry. -/
def Slot.lowLevel (x : Slot) : Bool :=
  match x.grant? with
  | none => false
  | some g => g.level ≠ .three

/-- R125: the number of slots that lockdown entry frees. -/
def GrantTable.lowCount (g : GrantTable) : Nat := (slotOrder.filter fun i => (g.slots[i]).lowLevel).length

/-- R125: free the slot if its grant is of level 1 or 2. -/
def State.lockdownSlot (i : Fin 4) (s : State) : State :=
  if (s.grants.slots[i]).lowLevel then s.endSlot i .lockdown else s

def lockdownReport (cause : Reason) (score freed : Nat) : Report :=
  { kind := .lockdown, key := none, reason := some cause, address := none
    valueA := some (BitVec.ofNat 32 score), valueB := some (BitVec.ofNat 32 freed) }

/-- R68: the part enters lockdown: mark, free, record, signal. -/
def State.enterLockdown (cause : Reason) (s : State) : State :=
  let s1 := { s with decision := { s.decision with lockdown := true } }.reportLockdown
  let s2 := forSlots State.lockdownSlot (s1.queueItem (.lockdownMark true))
  ((s2.takeRecord (lockdownReport cause s.decision.score s.grants.lowCount)).alertCause).resetRequestCause

/-- R67: the lockdown check made after each increment. -/
def State.lockdownCheck (cause : Reason) (s : State) : State :=
  if s.decision.lockdown = false ∧ s.table.settings.lockdownThreshold ≠ 0 ∧
      s.table.settings.lockdownThreshold ≤ s.decision.score then
    s.enterLockdown cause
  else s

/-- R65: an increment that takes the score from below the alert threshold to at or above it signals one alert cause. -/
def State.alertCheck (old : Nat) (s : State) : State :=
  if old < s.table.settings.alertThreshold ∧ s.table.settings.alertThreshold ≤ s.decision.score then s.alertCause else s

/-- R64: an increment with its cause, saturating at 255, then the alert check and the lockdown check. -/
def State.scoreIncrement (n : Nat) (cause : Reason) (s : State) : State :=
  let s1 := { s with decision := { s.decision with score := min (s.decision.score + n) Config.scoreLimit } }.reportScore
  (s1.alertCheck s.decision.score).lockdownCheck cause

/-! ## Windows (R26) -/

/-- The byte addresses an enabled window covers: from its base up to base plus size, less one. -/
def Window.covers (w : Window) (a : Addr) : Bool := decide (w.base.toNat ≤ a.toNat ∧ a.toNat < w.base.toNat + w.size)

/-- Whether numbered window `n` is enabled and covers an address. -/
def coveredBy (windows : Vector (Option Window) 8) (a : Addr) (n : Fin 8) : Bool :=
  match windows[n] with
  | some w => w.covers a
  | none => false

/-- The default window as a match yields it: its device address equals the byte address (R11). -/
def matchDefault (t : WindowTerms) : MatchedWindow := { id := .dflt, base := 0, offset := 0, terms := t }

/-- R26: the lowest-numbered enabled window that contains the address, or the default window. -/
def matchWindow (windows : Vector (Option Window) 8) (dflt : WindowTerms) (a : Addr) : MatchedWindow :=
  match octOrder.find? (coveredBy windows a) with
  | none => matchDefault dflt
  | some n =>
    match windows[n] with
    | none => matchDefault dflt
    | some w => { id := .numbered n, base := w.base, offset := w.offset, terms := w.terms }

/-- A match against the live table (R27). -/
def State.matchLive (s : State) (a : Addr) : MatchedWindow := matchWindow s.table.windows s.table.dflt a

/-! ## Cells and their words (R50, R72) -/

def State.setCell (n : Fin 8) (c : Cell) (s : State) : State :=
  { s with guard := { s.guard with cells := s.guard.cells.set n c } }

def State.cell (s : State) (n : Fin 8) : Cell := s.guard.cells[n]

/-- Change the live state of a LIVE cell. -/
def State.modifyLive (n : Fin 8) (f : LiveState → LiveState) (s : State) : State :=
  s.setCell n { s.cell n with live := (s.cell n).live.map f }

def CellWidth.bits : CellWidth → Nat
  | .w16 => 16 | .w32 => 32

/-- The byte addresses of a cell's words: one for a 16-bit cell, two for a 32-bit cell. -/
def CellDef.words (d : CellDef) : List Addr :=
  match d.width with
  | .w16 => [d.address]
  | .w32 => [d.address, d.address + 2]

/-- The byte addresses of a cell's bytes. -/
def CellDef.byteAddresses (d : CellDef) : List Addr := d.words.flatMap fun a => [a, a + 1]

/-- The byte address of a cycle: twice its word address (section 1.1). -/
def byteAddress (w : WordAddr) : Addr := BitVec.ofNat 24 (2 * w.toNat)

/-- R50: the enabled cell one of whose words is at a byte address. -/
def CounterGuard.cellAt (g : CounterGuard) (a : Addr) : Option (Fin 8) :=
  octOrder.find? fun n =>
    match (g.cells[n]).defn with
    | some d => decide (a ∈ d.words)
    | none => false

/-! ## The acting grant (R126, R127) -/

/-- R126: the grant of the slot named, if the slot number is 0..3, the slot is OPEN and the tool ids are equal. -/
def State.actingGrant (s : State) (a : ActingGrant) : Option (Fin 4 × Grant) :=
  match finOf 4 a.slot with
  | none => none
  | some i =>
    match s.grants.slots[i] with
    | .opened g _ _ => if g.toolId = a.toolId then some (i, g) else none
    | _ => none

/-! ## Bytes of a word -/

def lowByte (w : Word) : Byte := w.extractLsb' 0 8
def highByte (w : Word) : Byte := w.extractLsb' 8 8

def Lanes.low? : Lanes → Bool
  | .low | .both => true
  | .high => false

def Lanes.high? : Lanes → Bool
  | .high | .both => true
  | .low => false

/-- R8: an enabled lane carries its byte, a lane not enabled 0xFF. -/
def laneWord (l : Lanes) (w : Word) : Word :=
  (if l.high? then highByte w else 0xFF) ++ (if l.low? then lowByte w else 0xFF)

end Sys2Proof.Machine
end

