-- ==== Sys2Proof/Machine/LinkOps.lean ====
section
/-! DEFINITION. The service link (section 6): the result of a frame, the taking of a message, the checks of a complete
message, and the reply that completes a command. -/

namespace Sys2Proof.Machine

/-! ## Frames (R131, R132) -/

inductive FrameResult where
  | good | framingError | parityError
  deriving DecidableEq, Repr

/-- The framing of the live settings record. -/
def Settings.framing (st : Settings) : Framing :=
  { divisor := st.divisor, parityMode := st.parityMode, stopBits := st.stopBits }

/-- How many of the low `k` bits of a byte are high. -/
def countHigh (b : Byte) : Nat → Nat
  | 0 => 0
  | k + 1 => (if b.getLsbD k then 1 else 0) + countHigh b k

/-- The number of high bits among the data bits, the mark bit and the parity bit (R131). -/
def highBits (f : FrameBits) : Nat := countHigh f.data 8 + f.mark.toNat + f.parity.toNat

/-- R131: the parity bit agrees with the parity mode. -/
def parityAgrees (m : ParityMode) (f : FrameBits) : Bool :=
  match m with
  | .none => true
  | .even => highBits f % 2 = 0
  | .odd => highBits f % 2 = 1

/-- R131: every stop bit of the framing was high. -/
def stopBitsHigh (n : StopBits) (f : FrameBits) : Bool :=
  match n with
  | .one => f.stop1
  | .two => f.stop1 && f.stop2

/-- R132: the result of a frame; a frame with both faults is a FRAMING-ERROR. -/
def frameResult (fr : Framing) (f : FrameBits) : FrameResult :=
  if stopBitsHigh fr.stopBits f = false then .framingError
  else if parityAgrees fr.parityMode f = false then .parityError
  else .good

/-- R132: after a FRAMING-ERROR the receiver waits for the line to be high; otherwise it watches for the next fall. -/
def lineAfter (r : FrameResult) : LineReceiver := if r = .framingError then .waitingHigh else .watching

/-! ## Taking a message (R135 to R138) -/

/-- R135: an empty message buffer after an address frame. -/
def MessageBuffer.opened (a : AddressedAs) : MessageBuffer where
  addressedAs := a
  length := none
  taken := 0
  command := none
  payload := []
  check := none
  gap := 0

/-- A message being taken is discarded: no reply, LISTENING (R137). -/
def Link.discard (l : Link) : Link := { l with receiver := .listening, buffer := none }

/-- R135: an address frame in LISTENING or RECEIVING. -/
def Link.addressFrame (node : Byte) (r : FrameResult) (b : Byte) (l : Link) : Link :=
  if r = .good ∧ b = node then { l with receiver := .receiving, buffer := some (.opened .node) }
  else if r = .good ∧ b = 255 then { l with receiver := .receiving, buffer := some (.opened .all) }
  else l.discard

/-- R136: a byte after the length and the command: payload, or the check that completes the message. -/
def MessageBuffer.takeByte (b : Byte) (m : MessageBuffer) (len : Nat) : MessageBuffer :=
  let m1 := { m with taken := m.taken + 1, gap := 0 }
  match m.command with
  | none => { m1 with command := some b }
  | some _ => if m.taken + 1 < len then { m1 with payload := m.payload ++ [b] } else { m1 with check := some b }

/-- R136: a GOOD data frame in RECEIVING. -/
def Link.dataFrame (b : Byte) (m : MessageBuffer) (l : Link) : Link :=
  match m.length with
  | none =>
    if 2 ≤ b.toNat ∧ b.toNat ≤ 62 then { l with buffer := some { m with length := some b.toNat, gap := 0 } }
    else { l with receiver := .executing, buffer := some { m with gap := 0 }, execution := some (.lengthError b) }
  | some len =>
    let m1 := m.takeByte b len
    if len ≤ m1.taken then { l with receiver := .executing, buffer := some m1, execution := some .handOver }
    else { l with buffer := some m1 }

/-- R135 to R138: a frame arrival at the message receiver. -/
def Link.arrival (node : Byte) (r : FrameResult) (f : FrameBits) (l : Link) : Link :=
  match l.receiver with
  | .listening => if f.mark then l.addressFrame node r f.data else l
  | .receiving =>
    if f.mark then l.addressFrame node r f.data
    else
      match l.buffer with
      | none => l.discard
      | some m => if r = .good then l.dataFrame f.data m else l.discard
  | .off | .executing | .replying => l

/-! ## Replies (R140, R141) -/

/-- The sum of bytes as a byte: modulo 256. -/
def sumBytes (l : List Byte) : Byte := l.foldl (· + ·) 0

/-- R141: the bytes of a reply: length, command echoed, status, payload, check. -/
def replyBytes (command : Byte) (a : Answer) : List Byte :=
  let body := BitVec.ofNat 8 (3 + a.payload.length) :: command :: a.status.byteCode :: a.payload
  body ++ [0 - sumBytes body]

/-- R141: the frames of a reply: one address frame with address 0, then its bytes as data frames. -/
def replyFrames (command : Byte) (a : Answer) : List ReplyFrame :=
  { mark := true, data := 0 } :: (replyBytes command a).map fun b => { mark := false, data := b }

/-- R131: the bit time in guard-clock periods. -/
def bitTime (divisor : Nat) : Nat := 16 * divisor

/-- R133, R140: a command completes, at a live divisor. Addressed as NODE its reply is held to be sent, its first frame two
bit times from now (log entry 27); addressed as ALL none is; while the link is OFF no reply is sent and it stays OFF.
LENGTH-ERROR echoes 0x00, because no command byte was taken (R141). -/
def Link.complete (divisor : Nat) (a : Answer) (l : Link) : Link :=
  let node := (l.buffer.map MessageBuffer.addressedAs) == some .node
  let command := (l.buffer.bind MessageBuffer.command).getD 0
  let on := l.receiver != .off
  { l with
    receiver := if on then (if node then .replying else .listening) else .off
    buffer := none
    execution := none
    reply :=
      if on && node then some { transmission := .lead (2 * bitTime divisor), waiting := replyFrames command a }
      else none }

def State.completeCommand (a : Answer) (s : State) : State :=
  { s with link := s.link.complete s.table.settings.divisor a }

/-! ## The transmitter (R131, R133) -/

/-- R131: the parity bit of a frame sent: with it the number of high bits among the data bits, the mark bit and the
parity bit is even or odd, as the mode says. -/
def ReplyFrame.parityBits (m : ParityMode) (f : ReplyFrame) : List Bool :=
  let odd := decide ((countHigh f.data 8 + f.mark.toNat) % 2 = 1)
  match m with
  | .none => []
  | .even => [odd]
  | .odd => [!odd]

/-- R131: the stop bits of a frame sent. -/
def StopBits.levels : StopBits → List Bool
  | .one => [true]
  | .two => [true, true]

/-- R131: the levels of a frame sent with a framing: start bit, data bits, mark bit, parity bit, stop bits. -/
def ReplyFrame.bits (fr : Framing) (f : ReplyFrame) : List Bool :=
  false :: (List.range 8).map f.data.getLsbD ++ f.mark :: f.parityBits fr.parityMode ++ fr.stopBits.levels

/-- The guard-clock periods a frame takes. -/
def ReplyFrame.periods (fr : Framing) (f : ReplyFrame) : Nat := bitTime fr.divisor * (f.bits fr).length

/-- Whether the transmitter is within a frame. -/
def Link.sending (l : Link) : Bool :=
  match l.reply with
  | some { transmission := .sending _ _ _, .. } => true
  | _ => false

/-- R133: the level the transmitter drives on the line, while it sends a frame; otherwise it leaves the line to others. -/
def Link.drives (l : Link) : Option Bool :=
  match l.reply with
  | some { transmission := .sending f fr elapsed, .. } => (f.bits fr)[elapsed / bitTime fr.divisor]?
  | _ => none

/-! ## Frame boundaries and going OFF (R133) -/

/-- Whether the receiver is within a frame, its start bit confirmed. -/
def LineReceiver.busy : LineReceiver → Bool
  | .inFrame _ => true
  | _ => false

/-- R133: the link goes OFF: a message being received is discarded, a command being executed goes on without a reply,
and the remaining frames of a reply are not sent. -/
def Link.goOff (l : Link) : Link :=
  { l with
    receiver := .off
    buffer := if l.receiver = .receiving then none else l.buffer
    reply := none
    offDue := false }

/-- R133: a frame boundary: the link goes OFF if a tick has made the live divisor 0 within the frame that ends. -/
def Link.boundary (l : Link) : Link := if l.offDue then l.goOff else l

/-- R133: a tick has made the live divisor 0. A link at rest goes OFF at the tick; a frame being received or sent
finishes first. -/
def Link.turnOff (l : Link) : Link :=
  if l.receiver = .off then l
  else if l.line.busy || l.sending then { l with offDue := true }
  else l.goOff

/-- R133, R141: the boundary before a frame of the reply, or after its last one. The next frame begins with the framing
read now, and the receiver of the line gives up a frame of its own (R132); after the last frame the message receiver is
LISTENING again. The end of a reply's lead is a boundary too: a link due OFF goes OFF there, although a frame that was
being received at the tick has not ended. That is the model's choice (log entry 33). So is that an apply's tick may come
before the APPLY's own reply has all been sent, where R46 has that reply sent before the tick: the frames that are left
begin with the framing that the tick made live (log entry 37). -/
def Link.nextFrame (fr : Framing) (l : Link) : Link :=
  if l.offDue then l.goOff
  else
    match l.reply with
    | some { waiting := f :: rest, .. } =>
      { l with line := .watching, reply := some { transmission := .sending f fr 0, waiting := rest } }
    | _ => { l with receiver := .listening, reply := none }

/-- R133: one guard-clock period at the transmitter. -/
def Link.transmit (fr : Framing) (l : Link) : Link :=
  match l.reply with
  | none => l
  | some r =>
    match r.transmission with
    | .lead left =>
      if left ≤ 1 then l.nextFrame fr else { l with reply := some { r with transmission := .lead (left - 1) } }
    | .sending f fr0 elapsed =>
      if f.periods fr0 ≤ elapsed + 1 then l.nextFrame fr
      else { l with reply := some { r with transmission := .sending f fr0 (elapsed + 1) } }

/-! ## Executing a complete message (R139) -/

/-- R136, R139: the sum of the length, the command, the payload and the check is 0 modulo 256. -/
def MessageBuffer.sumIsZero (m : MessageBuffer) : Bool :=
  BitVec.ofNat 8 (m.length.getD 0) + m.command.getD 0 + sumBytes m.payload + m.check.getD 0 == 0

/-- The complete message waiting to be handed over, if there is one. -/
def State.message (s : State) : Option MessageBuffer :=
  if s.link.execution = some .handOver then s.link.buffer else none

/-- What an executing block does with a payload: its effects, and its answer; no answer yet while the proof engine
computes (R140). -/
abbrev Body := List Byte → State → State × Option Answer

/-- The command completes with the answer, if there is one. -/
def State.finish (r : State × Option Answer) : State :=
  match r.2 with
  | none => r.1
  | some a => r.1.completeCommand a

/-- R139: the checks of a complete message and its execution: check, payload length, then the block's own. A message
with another command byte is another command's: nothing happens (log entry 3). -/
def State.runCommand (code : Byte) (size : Nat) (body : Body) (s : State) : State :=
  match s.message with
  | none => s
  | some m =>
    if m.command = some code then
      if m.sumIsZero = false then s.completeCommand (.plain .checkError)
      else if m.payload.length ≠ size then s.completeCommand (.invalidAt 0)
      else State.finish (body m.payload s)
    else s

/-- A block's answer without an effect. -/
def State.answer (a : Answer) (s : State) : State × Option Answer := (s, some a)

end Sys2Proof.Machine
end

