-- ==== Sys2Proof/Machine/LinkEvents.lean ====
section
/-! DEFINITION. The events of the service link: frames, gaps, going OFF, the end of a reply, and the answers to messages
that are no command's. -/

namespace Sys2Proof.Machine

/-- R132, R133, R135 to R138: the frame whose start bit was confirmed ends. It is judged with the framing read at its
start and handed to the message receiver, and its end is a frame boundary. Without a confirmed start bit, and while the
link is OFF, there is no frame to arrive. -/
def Link.frameEnd (node : Byte) (f : FrameBits) (l : Link) : Link :=
  match l.receiver, l.line with
  | .off, _ => l
  | _, .inFrame fr =>
    let r := frameResult fr f
    (Link.arrival node r f { l with line := lineAfter r }).boundary
  | _, _ => l

/-- FRAME_ARRIVAL (R132, R135). -/
def execFrameArrival (f : FrameBits) (s : State) : Host.Outcome State Fault Refusal :=
  .next { s with link := s.link.frameEnd s.table.settings.nodeAddress f }

/-- R132: half a bit time after a fall, the start bit is confirmed, or the fall was noise. That a frame received starts
here, where its framing is read and from where a tick finds it being received (R46, R133), and not at the fall, is the
model's choice (log entry 18). After a FRAMING-ERROR the receiver takes no fall until the line has been high. While the
link is OFF or the part sends, and within a frame, no frame begins. -/
def Link.startBit (fall : LineFall) (fr : Framing) (l : Link) : Link :=
  if l.receiver = .off ∨ l.sending = true then l
  else
    match l.line with
    | .inFrame _ => l
    | .watching => { l with line := if fall.low then .inFrame fr else .watching }
    | .waitingHigh =>
      { l with line := if fall.low then (if fall.rose then .inFrame fr else .waitingHigh) else .watching }

/-- START_BIT_CONFIRMED (R132). -/
def execStartBitConfirmed (fall : LineFall) (s : State) : Host.Outcome State Fault Refusal :=
  .next { s with link := s.link.startBit fall s.table.settings.framing }

/-- R137: the gap limit is reached before the next start bit is confirmed: the message is discarded. -/
def Link.gapTimeout (l : Link) : Link :=
  if l.receiver = .receiving ∧ l.line.busy = false then l.discard else l

/-- GAP_TIMEOUT (R137). -/
def execGapTimeout (s : State) : Host.Outcome State Fault Refusal := .next { s with link := s.link.gapTimeout }

/-- R133: the frame being sent as a tick made the live divisor 0 ends (log entry 19): the boundary at which the link goes
OFF. A frame being received ends by FRAME_ARRIVAL instead. -/
def Link.off (l : Link) : Link := if l.line.busy then l else l.boundary

/-- LINK_OFF (R133). -/
def execLinkOff (s : State) : Host.Outcome State Fault Refusal := .next { s with link := s.link.off }

/-- R133, R141: the last stop bit of the reply has been sent: LISTENING, or OFF where a tick has made the live divisor 0
since. A frame that was being received as the part began to send has been given up (R132, `Link.nextFrame`), and goes no
further than the lead where the link goes OFF (log entry 33). -/
def Link.replyEnd (l : Link) : Link :=
  if l.receiver = .replying then Link.boundary { l with receiver := .listening, line := .watching, reply := none } else l

/-- REPLY_SENT (R141). -/
def execReplySent (s : State) : Host.Outcome State Fault Refusal := .next { s with link := s.link.replyEnd }

/-- LENGTH_ERROR (R136, R142): one byte, the length received. -/
def execLengthError (s : State) : Host.Outcome State Fault Refusal :=
  .next
    (match s.link.execution with
     | some (.lengthError b) => s.completeCommand { status := .lengthError, payload := [b] }
     | _ => s)

/-- UNKNOWN (R139): a complete message whose command byte is not defined; a wrong check is answered first. -/
def execUnknown (s : State) : Host.Outcome State Fault Refusal :=
  .next
    (match s.message with
     | none => s
     | some m =>
       if (m.command.getD 0) ∈ commandCodes then s
       else if m.sumIsZero = false then s.completeCommand (.plain .checkError)
       else s.completeCommand (.plain .unknown))

end Sys2Proof.Machine
end

