-- ==== Sys2Proof/Machine/Timebase.lean ====
section
/-! DEFINITION. The timebase (section 8.2): what one period of its clock issues, time passing on it, and the taking of its
events by their blocks. -/

namespace Sys2Proof.Machine

/-! ## Periods (R168 to R170) -/

/-- R170: the tick number read from a period count. -/
def tickNumber (count : Nat) : Fin 8 := Fin.ofNat 8 (count / 4096)

/-- R170: the lamp step number read from a period count. -/
def lampStepNumber (count : Nat) : Fin 32 := Fin.ofNat 32 (count / 1024)

/-- R168, R169: one period of the timebase clock: the count rises by 1, from 32767 to 0, the events of its new value are
issued, and with a second event the seconds count rises before the event reaches any block. -/
def Timebase.period (t : Timebase) : Timebase :=
  let c := (t.periodCount + 1) % 32768
  { periodCount := c
    seconds := if c = 0 then t.seconds + 1 else t.seconds
    samples := if c % 128 = 0 then t.samples + 1 else t.samples
    lampSteps := if c % 1024 = 0 then t.lampSteps ++ [lampStepNumber c] else t.lampSteps
    guardTicks := if c % 4096 = 0 then t.guardTicks ++ [tickNumber c] else t.guardTicks
    tableTicks := if c % 4096 = 0 then t.tableTicks ++ [tickNumber c] else t.tableTicks
    grantSeconds := if c = 0 then t.grantSeconds + 1 else t.grantSeconds
    decisionSeconds := if c = 0 then t.decisionSeconds + 1 else t.decisionSeconds }

/-- How many multiples of `k` a count takes in the `n` periods after `a`. -/
def passes (k a n : Nat) : Nat := (a + n) / k - a / k

/-- Those multiples in order, each divided by `k`. -/
def passed (k a n : Nat) : List Nat := (List.range (passes k a n)).map fun i => a / k + 1 + i

/-- `n` periods of the timebase clock at once (Obligations.IgnitionSampleIsFiltered says that they are `n` single ones). -/
def Timebase.elapse (n : Nat) (t : Timebase) : Timebase :=
  let a := t.periodCount
  { periodCount := (a + n) % 32768
    seconds := t.seconds + BitVec.ofNat 32 (passes 32768 a n)
    samples := t.samples + passes 128 a n
    lampSteps := t.lampSteps ++ (passed 1024 a n).map (Fin.ofNat 32)
    guardTicks := t.guardTicks ++ (passed 4096 a n).map (Fin.ofNat 8)
    tableTicks := t.tableTicks ++ (passed 4096 a n).map (Fin.ofNat 8)
    grantSeconds := t.grantSeconds + passes 32768 a n
    decisionSeconds := t.decisionSeconds + passes 32768 a n }

/-- Time passes to the next multiple of `k` of the period count. -/
def Timebase.toNext (k : Nat) (t : Timebase) : Timebase := t.elapse (k - t.periodCount % k)

/-! ## The events at their blocks (R171)

A command for an event takes the oldest one issued to its block. Where none waits, the command stands for the time until
the next one having passed (log entry 1). -/

def Timebase.awaitSample (t : Timebase) : Timebase := if t.samples = 0 then t.toNext 128 else t
def Timebase.awaitLampStep (t : Timebase) : Timebase := if t.lampSteps = [] then t.toNext 1024 else t
def Timebase.awaitGuardTick (t : Timebase) : Timebase := if t.guardTicks = [] then t.toNext 4096 else t
def Timebase.awaitTableTick (t : Timebase) : Timebase := if t.tableTicks = [] then t.toNext 4096 else t
def Timebase.awaitGrantSecond (t : Timebase) : Timebase := if t.grantSeconds = 0 then t.toNext 32768 else t
def Timebase.awaitDecisionSecond (t : Timebase) : Timebase := if t.decisionSeconds = 0 then t.toNext 32768 else t

/-- The ignition filter takes a sample. -/
def Timebase.takeSample (t : Timebase) : Timebase := { t.awaitSample with samples := t.awaitSample.samples - 1 }

/-- The output unit takes a lamp step. -/
def Timebase.takeLampStep (t : Timebase) : Timebase :=
  { t.awaitLampStep with lampSteps := t.awaitLampStep.lampSteps.tail }

/-- The number of the lamp step that the output unit takes next (R170). -/
def Timebase.nextLampStep (t : Timebase) : Fin 32 := t.awaitLampStep.lampSteps.headD 0

/-- The counter guard takes a tick; it measures nothing from the tick's number (R170). -/
def Timebase.takeGuardTick (t : Timebase) : Timebase :=
  { t.awaitGuardTick with guardTicks := t.awaitGuardTick.guardTicks.tail }

/-- The window table takes a tick. -/
def Timebase.takeTableTick (t : Timebase) : Timebase :=
  { t.awaitTableTick with tableTicks := t.awaitTableTick.tableTicks.tail }

/-- The grant table takes a second. -/
def Timebase.takeGrantSecond (t : Timebase) : Timebase :=
  { t.awaitGrantSecond with grantSeconds := t.awaitGrantSecond.grantSeconds - 1 }

/-- The decision unit takes a second. -/
def Timebase.takeDecisionSecond (t : Timebase) : Timebase :=
  { t.awaitDecisionSecond with decisionSeconds := t.awaitDecisionSecond.decisionSeconds - 1 }

def State.withTime (t : Timebase) (s : State) : State := { s with time := t }

end Sys2Proof.Machine
end

