-- ==== Sys2Proof/Machine/Clock.lean ====
section
/-! DEFINITION. One period of the guard clock on the counts the part keeps of it: the challenge clock (R106), the pulse
channels (R180, R182), the gap timer (R137) and the transmitter (R133); and, where one falls in it, a period of the
timebase clock (R168). It is what the block does when no command waits (log entry 1). -/

namespace Sys2Proof.Machine

/-- R106: the challenge clock rises by one at every guard-clock period and wraps. -/
def GrantTable.period (g : GrantTable) : GrantTable := { g with clock := g.clock + 1 }

/-- R137: the gap timer counts while RECEIVING; at the limit the message is discarded unless a start bit has been
confirmed. R133: the transmitter counts while REPLYING. -/
def Link.period (fr : Framing) (l : Link) : Link :=
  match l.receiver, l.buffer with
  | .receiving, some m =>
    let l1 := { l with buffer := some { m with gap := m.gap + 1 } }
    if Config.gapPeriods ≤ m.gap + 1 then l1.gapTimeout else l1
  | .replying, _ => l.transmit fr
  | _, _ => l

/-- One guard-clock period on both pulse channels. -/
def OutputUnit.period (o : OutputUnit) : OutputUnit :=
  { o with
    alert := o.alert.period Config.alertPeriods
    resetRequest := o.resetRequest.period Config.resetRequestPeriods }

/-- One guard-clock period passes; whether a timebase-clock period falls in it is free (R167, log entry 22). -/
def State.period (s : State) : State :=
  { s with
    guardPeriods := s.guardPeriods + 1
    grants := s.grants.period
    out := s.out.period
    link := s.link.period s.table.settings.framing
    time := if Config.timebaseFalls s.guardPeriods then s.time.period else s.time }

end Sys2Proof.Machine
end

