-- ==== Sys2Proof/Machine/Arbiter.lean ====
section
/-! DEFINITION. Requests at the memory port arbiter (R20), the completion of the processor cycle (R2, R8), and the
new reads that wait for a cycle (R97). Requests only join their waiting places here; `State.serve` of
Machine/MemoryPort.lean grants the free port at the end of each command. -/

namespace Sys2Proof.Machine

/-! ## Joining the waiting places (R20) -/

def State.enqueueProcessor (r : Request) (s : State) : State := { s with mem := { s.mem with place := some r } }

def State.enqueueInternal (r : Request) (s : State) : State :=
  { s with mem := { s.mem with queue := s.mem.queue ++ [r] } }

/-- The LOW half of a cell value, and a 16-bit cell's word (section 4.1). -/
def lowHalf (v : Nat) : Word := BitVec.ofNat 16 v

/-- The HIGH half of a cell value. -/
def highHalf (v : Nat) : Word := BitVec.ofNat 16 (v / 65536)

/-- A transfer of all of a cell's words with BOTH lanes: one word or two, LOW half first (R19, R80). -/
def cellRequest (d : CellDef) (dir : Direction) (v : Nat) (who : Requester) (w : Option MatchedWindow) : Request where
  requester := who
  direction := dir
  address := d.address
  twoWords := decide (d.width = .w32)
  lanes := .both
  data0 := lowHalf v
  data1 := highHalf v
  window := w

def State.setOp (n : Fin 8) (op : Option Operation) (s : State) : State := s.setCell n { s.cell n with op := op }

/-- An internal transfer of a cell with its operation (R73). -/
def State.startInternal (n : Fin 8) (d : CellDef) (dir : Direction) (v : Nat) (op : Operation) (s : State) : State :=
  (s.setOp n (some op)).enqueueInternal (cellRequest d dir v (.internal n) none)

/-! ## New reads (R97) -/

/-- R97: a cycle in progress whose outcome is PASS or FILL-CHECK at one of the words. -/
def State.cycleUses (s : State) (words : List Addr) : Bool :=
  match s.port.cycle, s.decision.record with
  | some c, some d =>
    (d.outcome == .pass || d.outcome == .fillCheck) && decide (byteAddress c.address ∈ words)
  | _, _ => false

/-- R97: start the new read of a READING cell; its request waits while a cycle uses one of the cell's words. -/
def State.startNewRead (n : Fin 8) (s : State) : State :=
  match (s.cell n).defn with
  | none => s
  | some d =>
    if s.cycleUses d.words then s.setOp n (some (.newRead .forCycle))
    else s.startInternal n d .read 0 (.newRead .requested)

/-- R97: request the new read of a cell that waited so. -/
def State.releaseRead (w : ReadWait) (n : Fin 8) (s : State) : State :=
  match (s.cell n).defn, (s.cell n).op with
  | some d, some (.newRead x) => if x = w then s.startInternal n d .read 0 (.newRead .requested) else s
  | _, _ => s

/-- R97: the cycle in progress has completed, or was abandoned with no transfer of it at the memory port: the new reads
that waited for it are requested, in cell order. -/
def State.releaseReads (s : State) : State := forCells (State.releaseRead .forCycle) s

/-- R97: the transfer of an abandoned cycle has ended: the new reads that waited for it are requested, in cell order. -/
def State.releaseAbandoned (s : State) : State := forCells (State.releaseRead .forTransfer) s

/-- R97: the cycle in progress is abandoned and its transfer remains: a new read that waited for it waits for the
transfer. -/
def State.keepRead (n : Fin 8) (s : State) : State :=
  match (s.cell n).op with
  | some (.newRead .forCycle) => s.setOp n (some (.newRead .forTransfer))
  | _ => s

/-! ## Completion of the processor cycle (R2, R8, R9) -/

/-- The cycle completes: completion is given with the read data, if any; the port is IDLE and the decision record is
discarded (R47). -/
def State.completeCycle (data : Option Word) (s : State) : State :=
  State.releaseReads
    { s with
      port := { s.port with state := .idle, cycle := none, completion := some { data := data } }
      decision := { s.decision with record := none } }

/-- Completion is given only to a cycle that is still in progress (R22). -/
def State.completeIfActive (data : Option Word) (s : State) : State :=
  if s.port.state = .active then s.completeCycle data else s

end Sys2Proof.Machine
end

