-- ==== Sys2Proof/Machine/CounterGuard.lean ====
section
/-! DEFINITION. The counter guard (section 4): evaluations, pending halves, the ends of its operations, floor keeping,
ticks, and the changes an apply brings. -/

namespace Sys2Proof.Machine

/-- What the requester receives at a transfer's end: made or not (R12), timed out or not, and the read data (R15). -/
structure TransferResult where
  made : Bool
  timedOut : Bool
  word0 : Word
  word1 : Word
  deriving DecidableEq, Repr

/-! ## Records of the counter guard (R152) -/

def cellReport (kind : RecordKind) (n : Fin 8) (reason : Option Reason) (a : Addr) (va : Nat) (vb : Option Nat) :
    Report where
  kind := kind
  key := some (.cell n)
  reason := reason
  address := some a
  valueA := some (BitVec.ofNat 32 va)
  valueB := vb.map (BitVec.ofNat 32)

/-! ## Evaluation (R76 to R80) -/

/-- The value of a LOW half and a HIGH half (section 4.1). -/
def joinHalves (low high : Word) : Nat := low.toNat + 65536 * high.toNat

/-- The proposed value formed from one half and the value of the other (R84, R87). -/
def joinHalf (h : Half) (v other : Word) : Nat :=
  match h with
  | .low => joinHalves v other
  | .high => joinHalves other v

/-- The half of a value that is not the one named (R87). -/
def otherHalf (h : Half) (v : Nat) : Word :=
  match h with
  | .low => highHalf v
  | .high => lowHalf v

/-- R80: request the write of V; the operation in flight is the evaluation until its transfer ends. -/
def State.startWrite (n : Fin 8) (d : CellDef) (o : Origin) (v : Nat) (isSet : Bool) (s : State) : State :=
  match o with
  | .processor =>
    (s.setOp n (some (.evaluation o v isSet))).enqueueProcessor
      (cellRequest d .write v (.processor (.cellWrite n)) (s.decision.record.map DecisionRecord.window))
  | .hold | .ignition => s.startInternal n d .write v (.evaluation o v isSet)

/-- R79: a decrease is refused: record, score increment, alert cause. -/
def State.refuseDecrease (n : Fin 8) (d : CellDef) (p shadow : Nat) (s : State) : State :=
  ((s.takeRecord (cellReport .counterRefused n (some .decrease) d.address p (some shadow))).scoreIncrement 1
    .refusal).alertCause

/-- R78: a counter set: the charge, the COUNTER-SET record naming the slot charged, the write. -/
def State.counterSet (n : Fin 8) (d : CellDef) (o : Origin) (charge : Option (Fin 4)) (p shadow : Nat) (s : State) :
    State :=
  ((s.chargeOpt charge).takeRecord
    (cellReport .counterSet n (charge.map .charged) d.address p (some shadow))).startWrite n d o p true

/-- R77: a clamped rise: whole units of credit are spent, the clamp is recorded and signalled, and V is written if it
is above the shadow. -/
def State.clampRise (n : Fin 8) (d : CellDef) (o : Origin) (p : Nat) (v : LiveState) (s : State) : State :=
  let allowed := v.credit / 65536
  let s1 := s.modifyLive n fun x => { x with credit := x.credit - allowed * 65536 }
  let s2 := (s1.takeRecord (cellReport .counterClamped n none d.address p (some (v.shadow + allowed)))).alertCause
  if 0 < allowed then s2.startWrite n d o (v.shadow + allowed) false else s2

/-- R77: a rise of a RATE cell, within its credit or clamped to it. -/
def State.rateRise (n : Fin 8) (d : CellDef) (o : Origin) (p : Nat) (v : LiveState) (s : State) : State :=
  if p - v.shadow ≤ v.credit / 65536 then
    (s.modifyLive n fun x => { x with credit := x.credit - (p - v.shadow) * 65536 }).startWrite n d o p false
  else s.clampRise n d o p v

/-- R76, R77: the judgment without COUNTER-SET held. -/
def State.judgeByMode (n : Fin 8) (d : CellDef) (o : Origin) (p : Nat) (v : LiveState) (s : State) : State :=
  if p = v.shadow then s
  else if p < v.shadow then s.refuseDecrease n d p v.shadow
  else
    match d.mode with
    | .monotonic => s.startWrite n d o p false
    | .rate _ _ => s.rateRise n d o p v

/-- R76: whether COUNTER-SET is held for an evaluation: by the decision record for origin PROCESSOR, by the grants at
this moment for the others (R57). -/
def State.setHeld (d : CellDef) (o : Origin) (s : State) : Bool :=
  match o with
  | .processor => (s.decision.record.map DecisionRecord.held).getD false
  | .hold | .ignition => (s.grants.holder .counterSet (s.matchLive d.address).id).isSome

/-- R56, R57: the slot a counter set charges: the decision record's charge grant, or the lowest slot holding the right
at this moment. -/
def State.setCharge (d : CellDef) (o : Origin) (s : State) : Option (Fin 4) :=
  match o with
  | .processor => s.decision.record.bind DecisionRecord.chargeGrant
  | .hold | .ignition => s.grants.holder .counterSet (s.matchLive d.address).id

/-- R76: an evaluation of a proposed value on a LIVE cell; the pending half is absent from then on. -/
def State.evaluate (n : Fin 8) (o : Origin) (p : Nat) (s : State) : State :=
  match (s.cell n).defn, (s.cell n).live with
  | some d, some v =>
    let s1 := s.modifyLive n fun x => { x with half := none }
    if s.setHeld d o = true ∧ p ≠ v.shadow then s1.counterSet n d o (s.setCharge d o) p v.shadow
    else s1.judgeByMode n d o p v
  | _, _ => s

/-- R87, R91: the pending half joined with the other half of the shadow and evaluated. -/
def State.evaluatePending (n : Fin 8) (o : Origin) (s : State) : State :=
  match (s.cell n).live with
  | none => s
  | some v =>
    match v.half with
    | none => s
    | some h => s.evaluate n o (joinHalf h.half h.value (otherHalf h.half v.shadow))

/-! ## Processor cycles at cell words (R81 to R85) -/

/-- R83: the cycle of an evaluation that writes nothing completes at once, absorbed; otherwise it waits for the write. -/
def State.finishWrite (n : Fin 8) (s : State) : State :=
  if (s.cell n).op.isSome then s else s.completeCycle none

/-- The half of a cell that a byte address names: its first word is the LOW half. -/
def CellDef.halfAt (d : CellDef) (a : Addr) : Half := if a = d.address then .low else .high

/-- R84: a pending half is set or replaced at age 0 and the cycle completes at once. -/
def State.setPending (n : Fin 8) (h : Half) (v : Word) (s : State) : State :=
  (s.modifyLive n fun x => { x with half := some { half := h, value := v, age := 0 } }).completeCycle none

/-- R84: a write to one half of a 32-bit LIVE cell. -/
def State.takeHalf (n : Fin 8) (h : Half) (value : Word) (v : LiveState) (s : State) : State :=
  match v.half with
  | none => s.setPending n h value
  | some p =>
    if p.half = h then s.setPending n h value
    else (s.evaluate n .processor (joinHalf h value p.value)).finishWrite n

/-- R82 to R84, R98: the write of the cycle in progress is taken for a cell with no operation in flight. On a READING
cell it completes absorbed. -/
def State.takeWrite (n : Fin 8) (s : State) : State :=
  match s.port.cycle with
  | none => s
  | some c =>
    match (s.cell n).defn, (s.cell n).live with
    | some d, some v =>
      match d.width with
      | .w16 => (s.evaluate n .processor c.data.toNat).finishWrite n
      | .w32 => s.takeHalf n (d.halfAt (byteAddress c.address)) c.data v
    | _, _ => s.completeCycle none

/-- R81: a partial-lane write is refused and completes absorbed. -/
def State.refusePartial (n : Fin 8) (c : Cycle) (s : State) : State :=
  State.completeCycle none
    (((s.takeRecord (cellReport .counterRefused n (some .partialLanes) (byteAddress c.address) c.data.toNat
      none)).scoreIncrement 1 .refusal).alertCause)

/-- R81, R82: a processor write to a word of an enabled cell: refused, taken, or the waiting write. -/
def State.counterWrite (n : Fin 8) (c : Cycle) (s : State) : State :=
  if c.lanes ≠ .both then s.refusePartial n c
  else if (s.cell n).op.isSome then { s with guard := { s.guard with waitingWrite := some n } }
  else s.takeWrite n

/-- R85: the pending value of the half of a LIVE 32-bit cell that a byte address names, if that half is pending. -/
def State.pendingAt (n : Fin 8) (a : Addr) (s : State) : Option Word :=
  match (s.cell n).defn, (s.cell n).live with
  | some d, some v =>
    match v.half with
    | some p => if d.width = .w32 ∧ p.half = d.halfAt a then some p.value else none
    | none => none
  | _, _ => none

/-- R85: a processor read of a cell word: answered from the pending half, or a processor-origin read. -/
def State.counterRead (n : Fin 8) (c : Cycle) (w : MatchedWindow) (s : State) : State :=
  match s.pendingAt n (byteAddress c.address) with
  | some v => s.completeCycle (some (laneWord c.lanes v))
  | none =>
    s.enqueueProcessor
      { requester := .processor .cellRead, direction := .read, address := byteAddress c.address, twoWords := false
        lanes := c.lanes, data0 := 0, data1 := 0, window := some w }

/-! ## Floor keeping at ignition-off (R90, R91) -/

/-- R91, without a pending half: the floor takes the shadow and its item is queued if they differ; the due mark is
cleared. -/
def State.settleFloor (n : Fin 8) (s : State) : State :=
  match (s.cell n).live with
  | none => s
  | some v =>
    let s1 := s.modifyLive n fun x => { x with floor := x.shadow, due := false }
    if v.floor = v.shadow then s1 else s1.queueItem (.floor n (some v.shadow))

/-- R91: settle a cell that is due and has no operation in flight. An IGNITION evaluation that writes leaves the due
mark for its end; one that writes nothing ends at once and the floor is settled then. -/
def State.settle (n : Fin 8) (s : State) : State :=
  match (s.cell n).live with
  | none => s
  | some v =>
    if v.due = true ∧ (s.cell n).op = none then
      let s1 := s.evaluatePending n .ignition
      if (s1.cell n).op.isSome then s1 else s1.settleFloor n
    else s

/-! ## Ends of operations (R80, R82, R88, R89, R95, R98, R101) -/

/-- R82: the operation of the waiting write's cell has ended and none is in flight: the waiting write is taken. -/
def State.takeWaiting (n : Fin 8) (s : State) : State :=
  if s.guard.waitingWrite = some n ∧ (s.cell n).op = none then
    State.takeWrite n { s with guard := { s.guard with waitingWrite := none } }
  else s

/-- R82, R90: after an operation ends, the waiting write is taken and then a due mark is settled. -/
def State.afterOp (n : Fin 8) (s : State) : State := (s.takeWaiting n).settle n

/-- The value read from a cell's words: the LOW word plus 65536 times the HIGH word (R95). -/
def readValue (d : CellDef) (r : TransferResult) : Nat :=
  match d.width with
  | .w16 => r.word0.toNat
  | .w32 => r.word0.toNat + 65536 * r.word1.toNat

/-- The live state a cell begins with (R95, R98): credit 0, no pending half, not due. -/
def LiveState.begin (shadow floor : Nat) (repair : Bool) : LiveState :=
  { shadow := shadow, credit := 0, floor := floor, half := none, repair := repair, due := false }

/-- The cell becomes LIVE and its operation ends. -/
def State.becomeLive (n : Fin 8) (v : LiveState) (s : State) : State :=
  s.setCell n { s.cell n with live := some v, loadedFloor := none, op := none }

/-- R95: a scan read ends and is judged. -/
def State.scanReadEnd (n : Fin 8) (d : CellDef) (r : TransferResult) (s : State) : State :=
  let f := (s.cell n).loadedFloor.getD 0
  let v := readValue d r
  if r.timedOut then s.becomeLive n (.begin f f true)
  else if f ≤ v then s.becomeLive n (.begin v f false)
  else
    ((((s.becomeLive n (.begin f f false)).takeRecord
      (cellReport .counterRegressed n none d.address v (some f))).scoreIncrement 8 .regression).alertCause).startInternal
        n d .write f .correction

/-- R98: a new read ends: the cell becomes LIVE with shadow and floor from the value read, or stays READING. -/
def State.newReadEnd (n : Fin 8) (d : CellDef) (r : TransferResult) (s : State) : State :=
  if r.timedOut then s.setOp n none
  else (s.becomeLive n (.begin (readValue d r) (readValue d r) false)).queueItem (.floor n (some (readValue d r)))

/-- R80: an evaluation's write ends. -/
def State.evaluationEnd (n : Fin 8) (value : Nat) (isSet : Bool) (r : TransferResult) (s : State) : State :=
  let s1 := s.setOp n none
  if r.made = false then s1
  else if r.timedOut then s1.modifyLive n fun x => { x with repair := true }
  else
    let s2 := s1.modifyLive n fun x =>
      { x with shadow := value, repair := false, floor := if isSet then value else x.floor }
    if isSet then s2.queueItem (.floor n (some value)) else s2

/-- R88: a restore ends; repair-needed is cleared unless it timed out. -/
def State.restoreEnd (n : Fin 8) (r : TransferResult) (s : State) : State :=
  let s1 := s.setOp n none
  if r.made = true ∧ r.timedOut = false then s1.modifyLive n fun x => { x with repair := false } else s1

/-- R89, R95: a correction ends; a timeout sets repair-needed, and a write that ended without one clears it. -/
def State.correctionEnd (n : Fin 8) (r : TransferResult) (s : State) : State :=
  let s1 := s.setOp n none
  if r.made then s1.modifyLive n fun x => { x with repair := r.timedOut } else s1

/-- R101: an operation of a MOVED or REMOVED cell's old definition ends: its result is discarded, a waiting write is
taken (R82), and a cell that is READING gets its new read. -/
def State.staleEnd (n : Fin 8) (s : State) : State :=
  let s1 := s.setCell n { s.cell n with op := none, stale := false }
  let s2 := s1.takeWaiting n
  if (s2.cell n).live.isNone then s2.startNewRead n else s2

/-- The end of a cell's transfer reaches the counter guard. -/
def State.opEnd (n : Fin 8) (r : TransferResult) (s : State) : State :=
  if (s.cell n).stale then s.staleEnd n
  else
    match (s.cell n).defn, (s.cell n).op with
    | some d, some .scanRead => (s.scanReadEnd n d r).afterOp n
    | some d, some (.newRead _) => (s.newReadEnd n d r).afterOp n
    | some _, some .correction => (s.correctionEnd n r).afterOp n
    | some _, some .restore => (s.restoreEnd n r).afterOp n
    | some _, some (.evaluation _ v isSet) => (s.evaluationEnd n v isSet r).afterOp n
    | _, _ => s

/-! ## Ticks (R74, R75) -/

/-- R74: one tick's accrual for the mode of a cell. -/
def CellMode.accrue (m : CellMode) (credit : Nat) : Nat :=
  match m with
  | .monotonic => credit
  | .rate r cap => min (credit + r) (cap * 65536)

/-- R75 step 1: accrual, while the filtered level is ON. -/
def State.accrueCell (n : Fin 8) (s : State) : State :=
  match (s.cell n).defn with
  | none => s
  | some d =>
    if s.ignition.level then s.modifyLive n fun x => { x with credit := d.mode.accrue x.credit } else s

/-- R75 step 2: the age of a pending half rises by 1, stopping at 16. -/
def PendingHalf.older (p : PendingHalf) : PendingHalf := { p with age := min (p.age + 1) Config.ageLimit }

def State.ageCell (n : Fin 8) (s : State) : State :=
  s.modifyLive n fun x => { x with half := x.half.map PendingHalf.older }

/-- Whether a LIVE cell's pending half, at age plus `more`, has reached the hold limit (R75 step 3, R86). -/
def State.holdDue (n : Fin 8) (more : Nat) (s : State) : Bool :=
  match (s.cell n).live with
  | some v =>
    match v.half with
    | some p => decide (s.table.settings.holdLimit ≤ min (p.age + more) Config.ageLimit)
    | none => false
  | none => false

/-- R75 step 3: whether the hold-expiry evaluation of R87 starts: the pending half is due and the cell has no operation
in flight. -/
def State.expires (n : Fin 8) (more : Nat) (s : State) : Bool := s.holdDue n more && (s.cell n).op.isNone

/-- R75 step 4, R88: a restore of the shadow starts for a LIVE cell that needs repair with no operation in flight. -/
def State.repairCell (n : Fin 8) (s : State) : State :=
  match (s.cell n).defn, (s.cell n).live with
  | some d, some v =>
    if v.repair = true ∧ (s.cell n).op = none then s.startInternal n d .write v.shadow .restore else s
  | _, _ => s

/-- R75 step 5: a new read starts for a READING cell with no operation in flight. -/
def State.retryCell (n : Fin 8) (s : State) : State :=
  if (s.cell n).defn.isSome = true ∧ (s.cell n).live.isNone = true ∧ (s.cell n).op = none then s.startNewRead n else s

/-- R75: the five steps of a tick for one cell. A cell whose step 3 starts an evaluation makes no restore in this tick,
whether or not the evaluation writes. -/
def State.tickCell (n : Fin 8) (s : State) : State :=
  let s1 := (s.accrueCell n).ageCell n
  if s1.expires n 0 then s1.evaluatePending n .hold else (s1.repairCell n).retryCell n

/-! ## Bus reset (R92) and the tearing of a pending half (R97, R100) -/

/-- The HALF-TORN record: the word of the discarded half, the reason and the value (R92). -/
def tornReport (n : Fin 8) (d : CellDef) (p : PendingHalf) (reason : Reason) : Report :=
  cellReport .halfTorn n (some reason)
    (match p.half with | .low => d.address | .high => d.address + 2) p.value.toNat none

/-- Discard the pending half of a cell with a HALF-TORN record, under the definition `d`. -/
def State.tearHalf (n : Fin 8) (d : CellDef) (reason : Reason) (s : State) : State :=
  match (s.cell n).live with
  | none => s
  | some v =>
    match v.half with
    | none => s
    | some p => (s.modifyLive n fun x => { x with half := none }).takeRecord (tornReport n d p reason)

/-- R92: a cell's pending half is discarded as bus reset asserts. -/
def State.tearForReset (n : Fin 8) (s : State) : State :=
  match (s.cell n).defn with
  | none => s
  | some d => s.tearHalf n d .busReset

/-! ## Cells changed by an apply (R44, R97 to R101) -/

/-- The change kinds of R44, for a definition that was applied. -/
inductive CellChange where
  | unchanged | added | removed | moved | retuned
  deriving DecidableEq, Repr

/-- R44: the change kind of an old and a new definition. -/
def cellChange : Option CellDef → Option CellDef → CellChange
  | none, none => .unchanged
  | none, some _ => .added
  | some _, none => .removed
  | some d, some e =>
    if d.address ≠ e.address ∨ d.width ≠ e.width then .moved
    else if d = e then .unchanged
    else .retuned

/-- R97: every operation has its request at the arbiter but a new read that still waits. -/
def Operation.atArbiter : Operation → Bool
  | .newRead w => w == .requested
  | _ => true

/-- The operation of a cell whose old definition goes: one at the arbiter is carried out as stale; a new read still
waiting for its cycle was never requested and falls away (log entry 12). -/
def Cell.dropLive (c : Cell) : Cell :=
  if c.op.any Operation.atArbiter then { c with live := none, loadedFloor := none, stale := true }
  else { c with live := none, loadedFloor := none, op := none, stale := false }

/-- R101: the waiting write of a MOVED or REMOVED cell completes absorbed at once. -/
def State.absorbWaiting (n : Fin 8) (s : State) : State :=
  if s.guard.waitingWrite = some n then
    State.completeCycle none { s with guard := { s.guard with waitingWrite := none } }
  else s

/-- R97: an ADDED or MOVED cell drops its live state and starts its new read, unless an operation of its old
definition is still in flight. -/
def State.addCell (n : Fin 8) (s : State) : State :=
  let s1 := s.setCell n (s.cell n).dropLive
  if (s1.cell n).op = none then s1.startNewRead n else s1

/-- R97: a MOVED cell. -/
def State.moveCell (n : Fin 8) (old : CellDef) (s : State) : State :=
  ((s.tearHalf n old .apply).absorbWaiting n).addCell n

/-- R99: the credit after a retuning from one mode to another. -/
def retunedCredit (old new : CellMode) (credit : Nat) : Nat :=
  match old, new with
  | .rate _ _, .rate _ cap => min credit (cap * 65536)
  | .rate _ _, .monotonic => 0
  | .monotonic, _ => 0

/-- R99: a RETUNED cell keeps its state; its credit follows the new mode. -/
def State.retuneCell (n : Fin 8) (old new : CellDef) (s : State) : State :=
  s.modifyLive n fun x => { x with credit := retunedCredit old.mode new.mode x.credit }

/-- R100: a REMOVED cell tears its pending half, drops its state, queues its floor as cleared and is DISABLED. -/
def State.removeCell (n : Fin 8) (old : CellDef) (s : State) : State :=
  let s1 := (s.tearHalf n old .apply).absorbWaiting n
  (s1.setCell n (s1.cell n).dropLive).queueItem (.floor n none)

/-- The counter guard's reaction to one entry of the list of cell changes (R44); the new definition is live. -/
def State.changeCell (n : Fin 8) (old new : Option CellDef) (s : State) : State :=
  match cellChange old new, old, new with
  | .added, _, _ => s.addCell n
  | .removed, some d, _ => s.removeCell n d
  | .moved, some d, _ => s.moveCell n d
  | .retuned, some d, some e => s.retuneCell n d e
  | _, _, _ => s

end Sys2Proof.Machine
end

