-- ==== Sys2Proof/Machine/ProcessorPort.lean ====
section
/-! DEFINITION. The processor port and the decision unit: the checks of a cycle (R3 to R6), its decision (R47 to R50),
denials (R62, R63), charging at the decision (R54) and the fill check (R58, R59). -/

namespace Sys2Proof.Machine

/-! ## The lines of a cycle (R3) -/

/-- The kind the two kind lines encode; neither asserted is the invalid kind. -/
def lineKind (l : CycleLines) : Option Kind :=
  match l.kindA, l.kindB with
  | true, false => some .fetch
  | false, true => some .read
  | true, true => some .write
  | false, false => none

/-- The lanes the two lane lines encode; neither asserted is no lane. -/
def lineLanes (l : CycleLines) : Option Lanes :=
  match l.laneLow, l.laneHigh with
  | true, false => some .low
  | false, true => some .high
  | true, true => some .both
  | false, false => none

/-- How many of the first `k` bits of a word address are asserted. -/
def countBits (w : WordAddr) : Nat → Nat
  | 0 => 0
  | k + 1 => (if w.getLsbD k then 1 else 0) + countBits w k

/-- The number of asserted lines among the 28 that parity counts (R3). -/
def assertedLines (l : CycleLines) : Nat :=
  countBits l.address 23 + l.kindA.toNat + l.kindB.toNat + l.laneLow.toNat + l.laneHigh.toNat + l.parity.toNat

/-- R3: an enabled parity check passes when the number of asserted lines is odd. -/
def parityPasses (l : CycleLines) (enabled : Bool) : Bool := !enabled || decide (assertedLines l % 2 = 1)

/-- What the completion drives for a cycle that is not served: the substitute word 0xFFFF, or nothing for a write. The
invalid kind is treated as a read (R4 to R6, R9). -/
def unservedData : Option Kind → Option Word
  | some .write => none
  | _ => some 0xFFFF

def parityReport (reason : Reason) (a : Addr) : Report :=
  { kind := .parityError, key := none, reason := some reason, address := some a, valueA := none, valueB := none }

/-- R4, R5: the parity-failure treatment: the cycle completes at once, PARITY-ERROR and one alert cause. -/
def State.parityFailure (reason : Reason) (l : CycleLines) (s : State) : State :=
  State.completeCycle (unservedData (lineKind l))
    ((s.takeRecord (parityReport reason (byteAddress l.address))).alertCause)

/-! ## The decision (R47 to R50) -/

/-- R48: the right a write needs in each class; OPEN needs none and RECORDS is decided by the fill check. -/
def WindowClass.writeRight : WindowClass → Option Right
  | .code => some .program
  | .calibration => some .calibrate
  | .priv => some .priv
  | .records => some .clear
  | .opn => none

/-- R48, R49: FETCH is denied in CALIBRATION, RECORDS and PRIVATE whatever grants are open. -/
def WindowClass.deniesFetch : WindowClass → Bool
  | .calibration | .records | .priv => true
  | .opn | .code => false

/-- The right a cycle needs at a word that is no cell word (R48, R49, R58). -/
def rightNeeded (cls : WindowClass) (k : Kind) : Option Right :=
  match k with
  | .fetch => none
  | .read => if cls = .priv then some .priv else none
  | .write => cls.writeRight

/-- R48, R49: the outcome at a word that is no cell word, given whether the right needed is held. -/
def classOutcome (cls : WindowClass) (k : Kind) (held : Bool) : CycleOutcome :=
  match k with
  | .fetch => if cls.deniesFetch then .substitute else .pass
  | .read => if cls = .priv ∧ held = false then .substitute else .pass
  | .write =>
    match cls with
    | .opn => .pass
    | .records => .fillCheck
    | .code | .calibration | .priv => if held then .pass else .absorb

/-- R50: the right needed at a cell word. -/
def cellRight : Kind → Option Right
  | .write => some .counterSet
  | _ => none

/-- R50: the outcome at a cell word. -/
def cellOutcome (cls : WindowClass) (k : Kind) : CycleOutcome :=
  if k = .fetch ∧ cls.deniesFetch = true then .substitute else .counter

/-- The decision record of a cycle (R47), from the live table, the live definitions and the grants as they stand. -/
def State.decisionOf (c : Cycle) (s : State) : DecisionRecord :=
  let w := s.matchLive (byteAddress c.address)
  let n := s.guard.cellAt (byteAddress c.address)
  let right := if n.isSome then cellRight c.kind else rightNeeded w.terms.cls c.kind
  let holder := right.bind fun r => s.grants.holder r w.id
  let outcome :=
    if n.isSome then cellOutcome w.terms.cls c.kind else classOutcome w.terms.cls c.kind holder.isSome
  { window := w, cell := n, outcome := outcome, right := right, held := holder.isSome, chargeGrant := holder
    fill := if outcome = .fillCheck then some .reading else none }

/-! ## Denials (R62, R63) -/

/-- The reason a denial record names for a right needed (R63). -/
def Right.reason : Right → Reason
  | .program => .program
  | .calibrate => .calibrate
  | .clear => .clear
  | _ => .priv

def Kind.denied : Kind → RecordKind
  | .fetch => .fetchDenied
  | .read => .readDenied
  | .write => .writeDenied

/-- R63: the denial record. -/
def denialReport (c : Cycle) (d : DecisionRecord) : Report where
  kind := c.kind.denied
  key := some (.window d.window.id)
  reason := some ((d.right.map Right.reason).getD .noFetch)
  address := some (byteAddress c.address)
  valueA := if c.kind = .write then some (c.data.setWidth 32) else none
  valueB := none

/-- R62: the denial record, the score increment, and the alert cause of a FLAG window. -/
def State.denial (c : Cycle) (d : DecisionRecord) (s : State) : State :=
  let s1 := (s.takeRecord (denialReport c d)).scoreIncrement 1 .denial
  if d.window.terms.denyResponse = .flag then s1.alertCause else s1

/-- A denied cycle completes at once and the denial is carried out (R9, R62). -/
def State.denyCycle (c : Cycle) (d : DecisionRecord) (s : State) : State :=
  (s.completeCycle (unservedData (some c.kind))).denial c d

/-! ## Carrying a decision out -/

/-- The one-word transfer of a processor cycle: its direction, address, lanes, data and matched window (R8, R58). -/
def cycleRequest (c : Cycle) (job : ProcJob) (dir : Direction) (w : MatchedWindow) : Request where
  requester := .processor job
  direction := dir
  address := byteAddress c.address
  twoWords := false
  lanes := c.lanes
  data0 := c.data
  data1 := 0
  window := some w

def Kind.direction : Kind → Direction
  | .write => .write
  | _ => .read

/-- R54: a PASS is charged when it is a write that passed because a right was held. -/
def State.chargePass (c : Cycle) (d : DecisionRecord) (s : State) : State :=
  if c.kind = .write then s.chargeOpt d.chargeGrant else s

/-- What follows at once from the outcome of a cycle (R8 to R10, R55, R58, R62). -/
def State.carryOut (c : Cycle) (d : DecisionRecord) (s : State) : State :=
  match d.outcome with
  | .pass => (s.chargePass c d).enqueueProcessor (cycleRequest c .pass c.kind.direction d.window)
  | .substitute | .absorb => s.denyCycle c d
  | .fillCheck => s.enqueueProcessor (cycleRequest c .fillRead .read d.window)
  | .counter =>
    match d.cell with
    | none => s
    | some n => if c.kind = .write then s.counterWrite n c else s.counterRead n c d.window

/-- The port is ACTIVE with the captured cycle (R1, R2). -/
def State.activate (c : Cycle) (s : State) : State :=
  { s with port := { s.port with state := .active, cycle := some c, completion := none } }

/-- R47: the cycle is decided and the outcome carried out. -/
def State.decideCycle (c : Cycle) (s : State) : State :=
  let d := s.decisionOf c
  State.carryOut c d { s with decision := { s.decision with record := some d } }

/-- R1, R3: an IDLE port takes a cycle: parity, kind code and lanes are checked in that order, and the first check
that fails settles it. -/
def State.takeCycle (l : CycleLines) (s : State) : State :=
  if parityPasses l s.table.settings.parityCheck = false then s.parityFailure .parity l
  else
    match lineKind l, lineLanes l with
    | none, _ => s.parityFailure .kind l
    | some k, none => s.completeCycle (unservedData (some k))
    | some k, some lanes =>
      let c : Cycle := { kind := k, address := l.address, lanes := lanes, data := l.data }
      (s.activate c).decideCycle c

/-- R1, R2: a port that becomes IDLE takes the cycle presented, at once. -/
def State.takePresented (s : State) : State :=
  match s.port.presented with
  | none => s
  | some l => State.takeCycle l { s with port := { s.port with presented := none } }

/-! ## The fill check (R59, R60) -/

/-- R59, R60: every written lane holds 0xFF; the other bytes are not tested. -/
def erased (l : Lanes) (w : Word) : Bool :=
  (!l.low? || lowByte w == 0xFF) && (!l.high? || highByte w == 0xFF)

/-- R59: the fill check is judged as its read transfer ends. -/
def State.judgeFill (timedOut : Bool) (word : Word) (s : State) : State :=
  match s.port.cycle, s.decision.record with
  | some c, some d =>
    let s1 := { s with decision := { s.decision with record := some { d with fill := some .judged } } }
    if timedOut then s1.completeCycle none
    else if erased c.lanes word then s1.enqueueProcessor (cycleRequest c .fillWrite .write d.window)
    else if d.held then
      (s1.enqueueProcessor (cycleRequest c .fillWrite .write d.window)).chargeOpt d.chargeGrant
    else s1.denyCycle c d
  | _, _ => s

end Sys2Proof.Machine
end

