-- ==== Sys2Proof/Machine/MemoryPort.lean ====
section
/-! DEFINITION. The memory port (sections 1.3 to 1.5): translation, the accesses of a transfer, their ends, the ends of
transfers, the granting of the free port, and the processor port's way out of RESET-HELD. -/

namespace Sys2Proof.Machine

/-! ## Translation and accesses (R11, R16 to R19) -/

/-- R11: the device address of a byte. -/
def MatchedWindow.translate (w : MatchedWindow) (a : Addr) : Addr := a - w.base + w.offset

/-- R16, R17, R18: the resolved width, for the level of the wide input as the first access starts. -/
def WindowWidth.resolve (w : WindowWidth) (wide : Bool) : ResolvedWidth :=
  match w with
  | .wide16 => .wide
  | .narrow8 => .narrow
  | .sensed => if wide then .wide else .narrow

/-- R16, R17: the accesses of one word at byte address `a`. -/
def wordAccesses (width : ResolvedWidth) (w : MatchedWindow) (l : Lanes) (second : Bool) (a : Addr) : List Access :=
  match width with
  | .wide => [{ second := second, even := l.low?, odd := l.high?, deviceAddress := w.translate a }]
  | .narrow =>
    (if l.low? then [{ second := second, even := true, odd := false, deviceAddress := w.translate a }] else []) ++
      if l.high? then [{ second := second, even := false, odd := true, deviceAddress := w.translate a + 1 }] else []

/-- R16, R17, R19: the accesses of a transfer in order, the low word's before the high word's. -/
def Request.accesses (r : Request) (width : ResolvedWidth) (w : MatchedWindow) : List Access :=
  wordAccesses width w r.lanes false r.address ++
    if r.twoWords then wordAccesses width w r.lanes true (r.address + 2) else []

/-- R13: the base duration of an access. -/
def WindowTerms.baseDuration (t : WindowTerms) : Nat := 2 + t.waitStates.val

/-- What the part drives on the memory port during an access (R11, R16, R17). -/
structure MemoryPins where
  deviceSelect : Fin 6
  deviceAddress : Addr
  write : Bool
  lowStrobe : Bool
  highStrobe : Bool
  /-- The byte the part places on the low eight data lines, in a write. -/
  lowData : Option Byte
  /-- The byte the part places on the high eight data lines, in a write to a wide device. In a write to a narrow one the
  manual says nothing of these lines, and neither does the model: absent. -/
  highData : Option Byte
  deriving DecidableEq, Repr

/-- The write word an access belongs to. -/
def Request.word (r : Request) (second : Bool) : Word := if second then r.data1 else r.data0

/-- What the part drives for an access of a transfer. -/
def Transfer.pinsOf (t : Transfer) (a : Access) : MemoryPins where
  deviceSelect := t.window.terms.deviceSelect
  deviceAddress := a.deviceAddress
  write := decide (t.request.direction = .write)
  lowStrobe := decide (t.width = .narrow) || a.even
  highStrobe := decide (t.width = .wide) && a.odd
  lowData :=
    if t.request.direction = .write then
      some (if t.width = .narrow ∧ a.odd = true then highByte (t.request.word a.second)
        else lowByte (t.request.word a.second))
    else none
  highData :=
    if t.request.direction = .write ∧ t.width = .wide then some (highByte (t.request.word a.second)) else none

/-- The memory port outputs: between accesses, and while the port is free, no device select is asserted (R11). -/
def State.memoryPins (s : State) : Option MemoryPins :=
  s.mem.transfer.bind fun t => t.remaining.head?.map t.pinsOf

/-! ## Transfers (R12, R15) -/

/-- The transfer of a granted request, its window matched and its width resolved as the first access starts. -/
def Request.start (r : Request) (w : MatchedWindow) (wide : Bool) (readyLimit : Nat) : Transfer where
  request := r
  window := w
  width := w.terms.width.resolve wide
  ended := []
  remaining := r.accesses (w.terms.width.resolve wide) w
  readyLimit := readyLimit
  timedOut := none
  read0 := 0xFFFF
  read1 := 0xFFFF
  dropped := false

/-- A word with the bytes an access read: both data halves of a wide device, the low data lines of a narrow one. -/
def Access.gather (a : Access) (width : ResolvedWidth) (data old : Word) : Word :=
  let odd := match width with | .wide => highByte data | .narrow => lowByte data
  (if a.odd then odd else highByte old) ++ (if a.even then lowByte data else lowByte old)

/-- The bytes a READ gathers as an access ends normally (R16, R17). -/
def Transfer.gather (t : Transfer) (a : Access) (data : Word) : Transfer :=
  match t.request.direction with
  | .write => t
  | .read =>
    if a.second then { t with read1 := a.gather t.width data t.read1 }
    else { t with read0 := a.gather t.width data t.read0 }

/-- The access in progress has ended; the next, if any, starts with the ready limit read now (R12, R13). -/
def Transfer.advance (t : Transfer) (readyLimit : Nat) : Transfer :=
  match t.remaining with
  | [] => t
  | a :: rest => { t with ended := t.ended ++ [a], remaining := rest, readyLimit := readyLimit }

/-- The result a requester receives: after a timeout every byte of the read data is 0xFF (R15). -/
def Transfer.result (t : Transfer) : TransferResult where
  made := true
  timedOut := t.timedOut.isSome
  word0 := if t.timedOut.isSome then 0xFFFF else t.read0
  word1 := if t.timedOut.isSome then 0xFFFF else t.read1

/-- The result of an internal write that was not made (R12). -/
def notMade : TransferResult := { made := false, timedOut := false, word0 := 0xFFFF, word1 := 0xFFFF }

def Direction.reason : Direction → Reason
  | .read => .read
  | .write => .write

/-- R15: the DEVICE-TIMEOUT record. -/
def timeoutReport (t : Transfer) (a : Addr) : Report where
  kind := .deviceTimeout
  key := some (.device t.window.terms.deviceSelect)
  reason := some t.request.direction.reason
  address := some a
  valueA := none
  valueB := none

/-- R15: one record and one alert cause for a transfer any access of which timed out. -/
def State.reportTimeout (t : Transfer) (s : State) : State :=
  match t.timedOut with
  | none => s
  | some a => (s.takeRecord (timeoutReport t a)).alertCause

/-! ## Leaving RESET-HELD (R2, R24) -/

/-- A transfer the counter guard requested for a processor cycle. -/
def Requester.forCounter : Requester → Bool
  | .processor .cellRead | .processor (.cellWrite _) => true
  | _ => false

/-- R24: a processor-origin transfer the counter guard requested is waiting or in progress. -/
def MemPort.counterRemains (m : MemPort) : Bool :=
  (match m.transfer with | some t => t.request.requester.forCounter | none => false) ||
    (match m.place with | some r => r.requester.forCounter | none => false)

/-- R2, R24: with bus reset deasserted and no counter guard transfer of the abandoned cycle remaining, a RESET-HELD
port enters IDLE and takes the cycle presented. -/
def State.leaveResetHeld (s : State) : State :=
  if s.port.state = .resetHeld ∧ s.port.busReset = false ∧ s.mem.counterRemains = false then
    State.takePresented { s with port := { s.port with state := .idle } }
  else s

/-! ## The end of a transfer (R15, R20, R23) -/

/-- What the completion of a PASS drives: the read word, or nothing for a write (R8). -/
def passData (t : Transfer) : Option Word :=
  match t.request.direction with
  | .read => some t.result.word0
  | .write => none

/-- The requester receives the result of a transfer, which has left the port. The result of a dropped one is discarded,
and the new reads that waited for it are requested (R23, R97). At the end of an abandoned cycle's counter write the
counter guard does all that R80, R90, R91 and R101 give it before the port enters IDLE and decides the cycle presented
(R24): the manual has both happen when that transfer ends and gives them no order, and this one is the model's choice
(log entry 35). -/
def State.deliver (t : Transfer) (s : State) : State :=
  match t.request.requester with
  | .internal n => s.opEnd n t.result
  | .processor (.cellWrite n) => ((s.opEnd n t.result).completeIfActive none).leaveResetHeld
  | .processor .cellRead => (s.completeIfActive (some t.result.word0)).leaveResetHeld
  | .processor .pass => if t.dropped then s.releaseAbandoned else s.completeCycle (passData t)
  | .processor .fillWrite => if t.dropped then s.releaseAbandoned else s.completeCycle none
  | .processor .fillRead => if t.dropped then s.releaseAbandoned else s.judgeFill t.result.timedOut t.result.word0

/-- The last access of a transfer has ended: the port is free, a timeout is reported and the requester receives the
result (R15, R20). -/
def State.endTransfer (t : Transfer) (s : State) : State :=
  (State.reportTimeout t { s with mem := { s.mem with transfer := none } }).deliver t

/-- An access has ended: the next access of the transfer starts, or the transfer ends (R13, R15). -/
def State.afterAccess (t : Transfer) (s : State) : State :=
  if t.remaining = [] then s.endTransfer t
  else { s with mem := { s.mem with transfer := some t } }

/-! ## Granting the free port (R12, R20, R21) -/

/-- R12: the classes an internal write is not made to. -/
def WindowClass.internalWriteBarred : WindowClass → Bool
  | .code | .calibration | .priv => true
  | .opn | .records => false

/-- The window of a request: its cycle's, or the live match of an internal request (R12). -/
def State.windowOf (r : Request) (s : State) : MatchedWindow :=
  match r.window with
  | some w => w
  | none => s.matchLive r.address

/-- The granted request's transfer becomes the transfer in progress. -/
def State.begin (r : Request) (wide : Bool) (s : State) : State :=
  { s with mem := { s.mem with transfer := some (r.start (s.windowOf r) wide s.table.settings.readyLimit) } }

/-- Whether an internal request is a write that is not made (R12). -/
def State.barred (r : Request) (s : State) : Bool :=
  decide (r.direction = .write) && (s.windowOf r).terms.cls.internalWriteBarred

/-- The cell of an internal request is told of a write that was not made (R12, R101). -/
def State.tellNotMade (r : Request) (s : State) : State :=
  match r.requester with
  | .internal n => s.opEnd n notMade
  | .processor _ => s

/-- R20, R21: a free port is granted to the oldest internal request, or to the processor place when the internal list
is empty. A write that is not made leaves the port free at once, and the next request is looked at; `fuel` bounds
how many may follow one another. -/
def State.serveWith (wide : Bool) : Nat → State → State
  | 0, s => s
  | fuel + 1, s =>
    match s.mem.transfer, s.mem.queue, s.mem.place with
    | some _, _, _ => s
    | none, r :: rest, _ =>
      let s1 := { s with mem := { s.mem with queue := rest } }
      if s1.barred r then State.serveWith wide fuel (s1.tellNotMade r) else s1.begin r wide
    | none, [], some r => State.begin r wide { s with mem := { s.mem with place := none } }
    | none, [], none => s

/-- More than the turns that the ends of writes not made can add to those of the requests that wait: of each of eight
cells an evaluation of its pending half and a correction, and the waiting write. -/
def serveFuel : Nat := 32

/-- R20, R21: the arbiter at the end of a command. It has a turn for every request that waits or comes
(`State.serve_not_made` of Laws/Arbiter.lean). -/
def State.serve (wide : Bool) (s : State) : State := State.serveWith wide (s.mem.queue.length + serveFuel) s

/-! ## Bus reset at the memory port (R22, R23) -/

/-- R23: the transfers whose rest bus reset cuts: those of a PASS or a FILL-CHECK. -/
def Requester.cutByReset : Requester → Bool
  | .processor .pass | .processor .fillRead | .processor .fillWrite => true
  | _ => false

/-- R23: the access in progress runs to its end, the others are not made and the result is dropped. -/
def Transfer.cut (t : Transfer) : Transfer :=
  if t.request.requester.cutByReset then { t with remaining := t.remaining.take 1, dropped := true } else t

/-- R23: a waiting request of a PASS or FILL-CHECK is removed. -/
def MemPort.busReset (m : MemPort) : MemPort where
  transfer := m.transfer.map Transfer.cut
  place := m.place.filter fun r => !r.requester.cutByReset
  queue := m.queue

/-- R23: the transfer of the cycle in progress, a PASS or a FILL-CHECK, is at the memory port. One that an earlier bus
reset dropped is another cycle's. -/
def MemPort.cycleTransfer (m : MemPort) : Bool :=
  m.transfer.any fun t => t.request.requester.cutByReset && !t.dropped

/-- R22, R93: the cycle in progress is abandoned, its decision record discarded and a waiting write removed. R97: the new
reads that waited for it wait for its transfer, or are requested where none remains. -/
def State.abandon (s : State) : State :=
  let s1 := { s with
    port := { s.port with state := .resetHeld, cycle := none, completion := none }
    decision := { s.decision with record := none }
    guard := { s.guard with waitingWrite := none }
    mem := s.mem.busReset }
  if s.mem.cycleTransfer then forCells State.keepRead s1 else s1.releaseReads

/-- R2, R22: bus reset asserts at the processor port; a CLOSED port stays CLOSED. -/
def State.portReset (s : State) : State :=
  match s.port.state with
  | .active => s.abandon
  | .idle => { s with port := { s.port with state := .resetHeld } }
  | _ => s

end Sys2Proof.Machine
end

