-- ==== Sys2Proof/Machine/BusEvents.lean ====
section
/-! DEFINITION. The commands of the two ports: processor cycles, the ends of accesses and bus reset. -/

namespace Sys2Proof.Machine

/-- PROCESSOR_CYCLE (R1): an IDLE port takes the cycle; a CLOSED or RESET-HELD port leaves it presented. An ACTIVE
port has its one outstanding cycle, and no other can begin (log entry 14). -/
def State.presentCycle (l : CycleLines) (s : State) : State :=
  match s.port.state with
  | .idle => s.takeCycle l
  | .closed | .resetHeld => { s with port := { s.port with presented := some l } }
  | .active => s

def execProcessorCycle (l : CycleLines) (wide : Bool) (s : State) : Host.Outcome State Fault Refusal :=
  .next ((s.presentCycle l).serve wide)

/-- R14: whether the access in progress can end normally: FIXED, or READY with a sample at or before the limit. -/
def Transfer.canEnd (t : Transfer) : Bool :=
  decide (t.window.terms.readyMode = .fixed) || decide (t.window.terms.baseDuration ≤ t.readyLimit)

/-- R13, R14: the access in progress ends normally with the device's data. -/
def State.endAccess (data : Word) (s : State) : State :=
  match s.mem.transfer with
  | none => s
  | some t =>
    match t.remaining.head? with
    | none => s
    | some a =>
      if t.canEnd then s.afterAccess ((t.gather a data).advance s.table.settings.readyLimit) else s

def execAccessEnd (data : Word) (wide : Bool) (s : State) : Host.Outcome State Fault Refusal :=
  .next ((s.endAccess data).serve wide)

/-- R15: the address of the first access of a transfer that timed out. -/
def Transfer.timeOut (t : Transfer) (a : Access) : Transfer :=
  { t with timedOut := some (t.timedOut.getD a.deviceAddress) }

/-- R14, R15: the access in progress, of a READY window, times out. A FIXED access does not (R13). -/
def State.timeOutAccess (s : State) : State :=
  match s.mem.transfer with
  | none => s
  | some t =>
    match t.remaining.head? with
    | none => s
    | some a =>
      if t.window.terms.readyMode = .ready then
        s.afterAccess ((t.timeOut a).advance s.table.settings.readyLimit)
      else s

def execAccessTimeout (wide : Bool) (s : State) : Host.Outcome State Fault Refusal :=
  .next (s.timeOutAccess.serve wide)

/-- BUS_RESET_ASSERT (R22, R23, R92, R93): the cycle in progress is abandoned and every pending half is torn. -/
def State.assertReset (s : State) : State :=
  forCells State.tearForReset (State.portReset { s with port := { s.port with busReset := true } })

def execBusResetAssert (wide : Bool) (s : State) : Host.Outcome State Fault Refusal :=
  .next (s.assertReset.serve wide)

/-- BUS_RESET_DEASSERT (R24). -/
def execBusResetDeassert (wide : Bool) (s : State) : Host.Outcome State Fault Refusal :=
  .next ((State.leaveResetHeld { s with port := { s.port with busReset := false } }).serve wide)

end Sys2Proof.Machine
end

