-- ==== Sys2Proof/Machine/Sha256.lean ====
section
/-! DEFINITION. The keyed hash of the proof engine (R115): HMAC of RFC 2104 over SHA-256 of FIPS 180-4. The manual
names both functions and does not print them; they are written here from those standards (PRESUMED, log entry 16). -/

namespace Sys2Proof.Machine.Sha256

/-! ## The constants, from the primes (FIPS 180-4, sections 4.2.2 and 5.3.3) -/

/-- The primes below 312: the numbers from 2 on that no smaller number from 2 to 17 divides. -/
def primes : List Nat :=
  (List.range' 2 310).filter fun p => (List.range' 2 16).all fun d => Nat.ble p d || !Nat.beq (p % d) 0

/-- The largest number below `2 ^ bits` above `r` in its set bits whose `k`-th power is at most `n`, bit by bit. -/
def rootFrom (k n : Nat) : Nat → Nat → Nat
  | 0, r => r
  | bits + 1, r => rootFrom k n bits (bif Nat.ble ((r + 2 ^ bits) ^ k) n then r + 2 ^ bits else r)

/-- The first 32 bits of the fractional part of the `k`-th root of `p`, for a root below 8. -/
def rootFraction (k p : Nat) : Quad := BitVec.ofNat 32 (rootFrom k (p * 2 ^ (32 * k)) 35 0)

/-- The round constants: the cube roots of the first sixty-four primes. -/
def constants : List Quad := primes.map (rootFraction 3)

/-- The eight working variables, and the intermediate hash value. -/
structure Working where
  (a b c d e f g h : Quad)
  deriving DecidableEq, Repr

/-- The initial hash value: the square roots of the first eight primes. -/
def initial : Working :=
  let r := rootFraction 2
  ⟨r 2, r 3, r 5, r 7, r 11, r 13, r 17, r 19⟩

/-! ## The rounds -/

def rotr (x : Quad) (n : Nat) : Quad := (x >>> n) ||| (x <<< (32 - n))
def choose (x y z : Quad) : Quad := (x &&& y) ^^^ (~~~x &&& z)
def majority (x y z : Quad) : Quad := (x &&& y) ^^^ (x &&& z) ^^^ (y &&& z)
def bigSigma0 (x : Quad) : Quad := rotr x 2 ^^^ rotr x 13 ^^^ rotr x 22
def bigSigma1 (x : Quad) : Quad := rotr x 6 ^^^ rotr x 11 ^^^ rotr x 25
def smallSigma0 (x : Quad) : Quad := rotr x 7 ^^^ rotr x 18 ^^^ (x >>> 3)
def smallSigma1 (x : Quad) : Quad := rotr x 17 ^^^ rotr x 19 ^^^ (x >>> 10)

/-- One round with its constant and schedule word. -/
def round (w : Working) (k m : Quad) : Working :=
  let t1 := w.h + bigSigma1 w.e + choose w.e w.f w.g + k + m
  let t2 := bigSigma0 w.a + majority w.a w.b w.c
  ⟨t1 + t2, w.a, w.b, w.c, w.d + t1, w.e, w.f, w.g⟩

/-- The schedule word after a window of the sixteen before it. -/
def nextWord (m : List Quad) : Quad :=
  smallSigma1 (m.getD 14 0) + m.getD 9 0 + smallSigma0 (m.getD 1 0) + m.getD 0 0

/-- One round per constant, the schedule kept as its next sixteen words. -/
def rounds : List Quad → List Quad → Working → Working
  | [], _, w => w
  | k :: ks, m, w => rounds ks (m.tail ++ [nextWord m]) (round w k (m.headD 0))

def Working.add (x y : Working) : Working :=
  ⟨x.a + y.a, x.b + y.b, x.c + y.c, x.d + y.d, x.e + y.e, x.f + y.f, x.g + y.g, x.h + y.h⟩

/-- The hash value after a block of sixteen words. -/
def compress (w : Working) (m : List Quad) : Working := w.add (rounds constants m w)

/-- The hash value after `n` blocks. -/
def blocks : Nat → List Quad → Working → Working
  | 0, _, w => w
  | n + 1, m, w => blocks n (m.drop 16) (compress w (m.take 16))

/-- Bytes as big-endian words. -/
def toWords : List Byte → List Quad
  | b0 :: b1 :: b2 :: b3 :: rest => (b0 ++ b1 ++ b2 ++ b3) :: toWords rest
  | _ => []

def ofWord (w : Quad) : List Byte :=
  [w.extractLsb' 24 8, w.extractLsb' 16 8, w.extractLsb' 8 8, w.extractLsb' 0 8]

/-- The padded message (FIPS 180-4, section 5.1.1). -/
def pad (m : List Byte) : List Byte :=
  m ++ 0x80 :: List.replicate ((119 - m.length % 64) % 64) 0 ++ ofWord (BitVec.ofNat 32 (m.length * 8 / 2 ^ 32)) ++
    ofWord (BitVec.ofNat 32 (m.length * 8))

/-- SHA-256 of a message. -/
def hash (m : List Byte) : List Byte :=
  let words := toWords (pad m)
  let w := blocks (words.length / 16) words initial
  [w.a, w.b, w.c, w.d, w.e, w.f, w.g, w.h].flatMap ofWord

/-- HMAC-SHA-256 (RFC 2104) for a key of at most 64 bytes. -/
def hmac (key m : List Byte) : List Byte :=
  let k := key ++ List.replicate (64 - key.length) 0
  hash (k.map (· ^^^ 0x5c) ++ hash (k.map (· ^^^ 0x36) ++ m))

end Sys2Proof.Machine.Sha256
end

