-- ==== Sys2Proof/Machine/Grants.lean ====
section
/-! DEFINITION. The grant table and the proof engine (section 5): requests and challenges, proofs and their results,
second events and ignition-off. -/

namespace Sys2Proof.Machine

/-! ## Levels (R105) -/

/-- The maximum rights of a level, as a rights byte. -/
def maxRights : Level → BitVec 6
  | .one => 0b000001
  | .two => 0b000111
  | .three => 0b111111

/-- The maximum lifetime of a level, in seconds. -/
def maxLifetime : Level → Nat
  | .one => 1800
  | .two => 3600
  | .three => 7200

/-- R110: the granted terms: rights and lifetime trimmed to the level's maximum. -/
def Grant.trim (g : Grant) : Grant :=
  { g with rights := g.rights &&& maxRights g.level, lifetime := min g.lifetime (maxLifetime g.level) }

/-! ## Requests (R109 to R111) -/

/-- R110: the lowest-numbered FREE slot. -/
def GrantTable.freeSlot? (g : GrantTable) : Option (Fin 4) := slotOrder.find? fun i => g.slots[i] == .free

/-- R109: the checks of REQUEST GRANT in order; the first that fails gives the reply, otherwise the slot to take. -/
def State.requestCheck (p : List Byte) (s : State) : Except Answer (Fin 4) :=
  if s.provisioned = false then .error (.plain .notProvisioned)
  else
    match firstBad (checkRequest p) with
    | some o => .error (.invalidAt o)
    | none =>
      if s.decision.lockdown = true ∧ (readRequest p).level ≠ .three then .error (.plain .locked)
      else if 0 < s.grants.backoff then .error { status := .wait, payload := toLe 2 s.grants.backoff }
      else
        match s.grants.freeSlot? with
        | none => .error (.plain .full)
        | some i => .ok i

/-- R111: the challenge of a request accepted now: the raised challenge counter and the challenge clock. -/
def GrantTable.nextChallenge (g : GrantTable) : Challenge := { counter := g.counter + 1, clock := g.clock }

/-- R110, R111: a request is accepted into slot `i`. -/
def State.acceptRequest (i : Fin 4) (g : Grant) (s : State) : State :=
  let c := s.grants.nextChallenge
  let s1 := { s with grants := { s.grants with counter := c.counter } }
  ((s1.queueItem (.challengeCounter c.counter)).setSlot i (.challenged g c 0)).reportSlot i

/-- The OK reply of REQUEST GRANT: slot, challenge, granted rights and lifetime (section 6.5). -/
def acceptedAnswer (i : Fin 4) (g : Grant) (c : Challenge) : Answer where
  status := .ok
  payload := BitVec.ofNat 8 i.val :: c.bytes ++ BitVec.ofNat 8 g.rights.toNat :: toLe 2 g.lifetime

/-! ## Proofs (R114 to R118) -/

/-- The serial, eight zero bytes while its item has never been written (R143, R190). -/
def Items.serialBytes (m : Items) : List Byte := m.serial.getD (zeros 8)

/-- The key of a level; free bytes where the item is missing (log entry 15). -/
def Items.keyBytes (m : Items) (l : Level) : List Byte :=
  (m.keys[Level.index l]).getD ((List.range 32).map (Config.missingKeyByte l.byteCode))

/-- R114, R115: the proof engine starts on a CHALLENGED slot. -/
def State.startProof (i : Fin 4) (g : Grant) (c : Challenge) (received : List Byte) (s : State) : State :=
  { s with
    engine := some
      { slot := i, challenge := c, received := received
        key := s.store.held.keyBytes g.level
        message := proofMessage s.store.held.serialBytes i g c } }

/-- R115: the expected proof, the first 16 bytes of the digest. -/
def ProofInFlight.expected (p : ProofInFlight) : List Byte := (Sha256.hmac p.key p.message).take 16

/-- R115: MATCH when all 16 bytes are equal. -/
def ProofInFlight.isMatch (p : ProofInFlight) : Bool := p.expected == p.received

def openedReport (i : Fin 4) (g : Grant) : Report where
  kind := .grantOpened
  key := some (.slot i)
  reason := some (.level g.level)
  address := none
  valueA := some g.toolId
  valueB := some (BitVec.ofNat 32 g.lifetime)

/-- R117 step 1: a failed-attempt count above 0 becomes 0 and is queued. -/
def State.clearFailed (s : State) : State :=
  if 0 < s.grants.failed then
    { s with grants := { s.grants with failed := 0 } }.queueItem (.failedCount 0)
  else s

/-- R117: on MATCH the slot becomes OPEN. -/
def State.openSlot (i : Fin 4) (g : Grant) (s : State) : State :=
  (((s.setSlot i (.opened g 0 s.time.seconds)).clearFailed).takeRecord (openedReport i g)).reportSlot i

/-- R106, R118: the backoff after `n` failed proofs. -/
def backoffFor (n : Nat) : Nat := if n = 0 then 0 else min (2 ^ (n - 1)) Config.backoffLimit

def refusedReport (i : Fin 4) (g : Grant) (n : Nat) : Report where
  kind := .grantRefused
  key := some (.slot i)
  reason := some .badProof
  address := none
  valueA := some g.toolId
  valueB := some (BitVec.ofNat 32 n)

/-- R118 steps 2 and 3: the failed-attempt count rises, saturating at 255, is queued, and sets the backoff. -/
def State.countFailure (s : State) : State :=
  let n := min (s.grants.failed + 1) 255
  { s with grants := { s.grants with failed := n, backoff := backoffFor n } }.queueItem (.failedCount (BitVec.ofNat 8 n))

/-- R118: on MISMATCH the slot becomes FREE; count, backoff, record and score follow. -/
def State.refuseProof (i : Fin 4) (g : Grant) (s : State) : State :=
  let s1 := (s.freeSlot i).countFailure
  (s1.takeRecord (refusedReport i g s1.grants.failed)).scoreIncrement 4 .proof

/-- R116: the result is acted on if the slot is CHALLENGED with the same challenge, otherwise discarded. -/
def State.settleProof (p : ProofInFlight) (s : State) : State × Status :=
  match s.grants.slots[p.slot] with
  | .challenged g c _ =>
    if c = p.challenge then
      if p.isMatch then (s.openSlot p.slot g, .ok) else (s.refuseProof p.slot g, .badProof)
    else (s, .notChallenged)
  | _ => (s, .notChallenged)

/-! ## Seconds (R113, R119, R121) and ignition-off (R124) -/

/-- R121, R113: a second event at one slot: the lifetime step of an OPEN slot, the challenge-age step of a CHALLENGED
one. -/
def State.secondSlot (i : Fin 4) (s : State) : State :=
  match s.grants.slots[i] with
  | .free => s
  | .challenged g c age =>
    if Config.challengeLimit ≤ age + 1 then s.freeSlot i else s.setSlot i (.challenged g c (age + 1))
  | .opened g tally at_ =>
    if g.lifetime ≤ 1 then s.closeSlot i .expired
    else s.setSlot i (.opened { g with lifetime := g.lifetime - 1 } tally at_)

/-- R119: the backoff remaining decreases by 1 while it is above 0. -/
def State.backoffStep (s : State) : State := { s with grants := { s.grants with backoff := s.grants.backoff - 1 } }

/-- R124: a slot without survive-ignition is freed at ignition-off. -/
def State.ignitionOffSlot (i : Fin 4) (s : State) : State :=
  match (s.grants.slots[i]).grant? with
  | none => s
  | some g => if g.survive then s else s.endSlot i .ignition

end Sys2Proof.Machine
end

