-- ==== Sys2Proof/Machine/Tables.lean ====
section
/-! DEFINITION. The window table's staging and applying (sections 2.3 to 2.5) and the load check (R30). -/

namespace Sys2Proof.Machine

/-! ## Authority and staging (R33, R37) -/

/-- R33: the authority of a staging or apply command: `none` is DENIED, `some none` the waiver on an unprovisioned
part, `some (some i)` the acting slot. -/
def State.configureAuthority (p : List Byte) (s : State) : Option (Option (Fin 4)) :=
  if s.provisioned = false then some none
  else
    match s.actingGrant (.read p) with
    | none => none
    | some (i, g) => if g.hasRight .configure then some (some i) else none

/-- R33, R37: authority, busy, fields, in that order; a value that passes replaces its entry of the staged copy. -/
def State.stage (p : List Byte) (checks : List (Nat × Bool)) (write : Staged → Staged) (s : State) :
    State × Option Answer :=
  match s.configureAuthority p with
  | none => (s, some (.plain .denied))
  | some _ =>
    if s.table.apply ≠ .idle then (s, some (.plain .busy))
    else
      match firstBad checks with
      | some o => (s, some (.invalidAt o))
      | none =>
        ({ s with table := { s.table with staged := write s.table.staged } }, some (.plain .ok))

/-- R34: the checks of STAGE WINDOW: the index, then the fields. -/
def stageWindowChecks (p : List Byte) : List (Nat × Bool) :=
  (6, decide (fieldAt p 6 1 ≤ 8)) :: if fieldAt p 6 1 = 8 then checkDefault p 7 else checkNumbered p 7

def stageWindowWrite (p : List Byte) (st : Staged) : Staged :=
  match WindowId.ofByteCode (fieldAt p 6 1) with
  | some (.numbered n) => { st with windows := st.windows.set n (some (readWindow p 7)) }
  | some .dflt => { st with dflt := some (readTerms p 7) }
  | none => st

/-- R35: the checks of STAGE CELL. -/
def stageCellChecks (p : List Byte) : List (Nat × Bool) := (6, decide (fieldAt p 6 1 ≤ 7)) :: checkCellDef p 7

def stageCellWrite (p : List Byte) (st : Staged) : Staged :=
  match finOf 8 (fieldAt p 6 1) with
  | some n => { st with cells := st.cells.set n (some (readCellDef p 7)) }
  | none => st

/-! ## The would-be table and its check (R40, R41) -/

/-- The entries of a table with the staged ones laid over them. -/
def overlay {α : Type} (live : Vector α 8) (staged : Vector (Option α) 8) : Vector α 8 :=
  octOrder.foldl (fun v n => match staged[n] with | some x => v.set n x | none => v) live

/-- Why a cell fails the check of R41: the window its first byte matched, or the lowest cell it shares a word with. -/
inductive CellFailure where
  | window (w : WindowId)
  | overlap (k : Fin 8)
  deriving DecidableEq, Repr

/-- R41 test 1: every byte of the cell matches the same window, of class OPEN or RECORDS. -/
def windowTest (windows : Vector (Option Window) 8) (dflt : WindowTerms) (d : CellDef) : Bool :=
  let first := matchWindow windows dflt d.address
  d.byteAddresses.all (fun a => (matchWindow windows dflt a).id == first.id) &&
    (first.terms.cls == .opn || first.terms.cls == .records)

/-- R41 test 2: the lowest-numbered enabled cell below `n` that shares a word with the cell. -/
def sharedWith (cells : Vector (Option CellDef) 8) (n : Fin 8) (d : CellDef) : Option (Fin 8) :=
  octOrder.find? fun k =>
    decide (k < n) &&
      match cells[k] with
      | some e => e.words.any fun a => decide (a ∈ d.words)
      | none => false

/-- R41: the window test and then the overlap test of one cell. -/
def testCell (windows : Vector (Option Window) 8) (dflt : WindowTerms) (cells : Vector (Option CellDef) 8)
    (n : Fin 8) (d : CellDef) : Option CellFailure :=
  if windowTest windows dflt d = false then some (.window (matchWindow windows dflt d.address).id)
  else (sharedWith cells n d).map .overlap

/-- The failure of cell `n` of a table, if it is enabled and fails. -/
def cellFailure (windows : Vector (Option Window) 8) (dflt : WindowTerms) (cells : Vector (Option CellDef) 8)
    (n : Fin 8) : Option CellFailure :=
  match cells[n] with
  | none => none
  | some d => testCell windows dflt cells n d

/-- R41: the first offending cell in cell order, with its failure. -/
def checkTable (windows : Vector (Option Window) 8) (dflt : WindowTerms) (cells : Vector (Option CellDef) 8) :
    Option (Fin 8 × CellFailure) :=
  octOrder.findSome? fun n => (cellFailure windows dflt cells n).map fun f => (n, f)

/-- R30: the load check: a cell that fails is held disabled, and counts for no overlap after it. -/
def loadCheck (windows : Vector (Option Window) 8) (dflt : WindowTerms) (cells : Vector (Option CellDef) 8) :
    Vector (Option CellDef) 8 :=
  octOrder.foldl
    (fun cs n => if (cellFailure windows dflt cs n).isSome then cs.set n none else cs) cells

/-- The live cell definitions (R72). -/
def CounterGuard.defns (g : CounterGuard) : Vector (Option CellDef) 8 :=
  octOrder.foldl (fun v (n : Fin 8) => v.set n (g.cells[n]).defn) #v[none, none, none, none, none, none, none, none]

/-- The item writes of the staged entries, in the order of R43 step 3. -/
def Staged.writes (st : Staged) : List ItemWrite :=
  octOrder.filterMap (fun n => (st.windows[n]).map (ItemWrite.window n)) ++ (st.dflt.map ItemWrite.dflt).toList ++
    octOrder.filterMap (fun n => (st.cells[n]).map (ItemWrite.cellDef n)) ++ (st.settings.map ItemWrite.settings).toList

/-- R146: the INVALID payload of APPLY STAGED: cell, reason, and window key or partner cell. -/
def failureAnswer (n : Fin 8) (f : CellFailure) : Answer where
  status := .invalid
  payload := BitVec.ofNat 8 n.val ::
    match f with
    | .window w => [1, BitVec.ofNat 8 w.byteCode]
    | .overlap k => [2, BitVec.ofNat 8 k.val]

/-- The check of the would-be table of a state (R40, R41). -/
def State.checkWouldBe (s : State) : Option (Fin 8 × CellFailure) :=
  checkTable (overlay s.table.windows s.table.staged.windows) (s.table.staged.dflt.getD s.table.dflt)
    (overlay s.guard.defns s.table.staged.cells)

/-- R40, R42: APPLY STAGED. -/
def State.applyStaged (p : List Byte) (s : State) : State × Option Answer :=
  match s.configureAuthority p with
  | none => (s, some (.plain .denied))
  | some slot =>
    if s.table.apply ≠ .idle then (s, some (.plain .busy))
    else if s.table.staged.writes = [] then (s, some { status := .ok, payload := [0] })
    else
      match s.checkWouldBe with
      | some (n, f) => (s, some (failureAnswer n f))
      | none =>
        ({ s with table := { s.table with apply := .pending, applyingSlot := slot } },
          some { status := .ok, payload := [BitVec.ofNat 8 s.table.staged.writes.length] })

/-! ## The tick of an apply (R43 to R45) -/

def configAppliedReport (slot : Option (Fin 4)) (count : Nat) : Report where
  kind := .configApplied
  key := slot.map .slot
  reason := none
  address := none
  valueA := some (BitVec.ofNat 32 count)
  valueB := none

/-- A live cell definition is replaced by a staged one. -/
def State.replaceDefn (st : Staged) (n : Fin 8) (s : State) : State :=
  match st.cells[n] with
  | none => s
  | some d => s.setCell n { s.cell n with defn := d }

/-- R43 steps 1 to 3 in the window table: staged entries replace the live ones, the staged copy is empty and the apply
is STORING the items it queues. -/
def WindowTable.applied (t : WindowTable) : WindowTable :=
  { t with
    windows := overlay t.windows t.staged.windows
    dflt := t.staged.dflt.getD t.dflt
    settings := t.staged.settings.getD t.settings
    staged := .empty
    apply := .storing
    applyItems := t.staged.writes.map ItemWrite.item }

/-- R43 step 5: the counter guard takes the change of one cell, for the definitions before and after. -/
def State.notifyCell (st : Staged) (old : Vector (Option CellDef) 8) (n : Fin 8) (s : State) : State :=
  match st.cells[n] with
  | none => s
  | some d => s.changeCell n old[n] d

/-- R43: the tick that takes effect on a PENDING apply. -/
def State.applyNow (s : State) : State :=
  let st := s.table.staged
  let s1 := forCells (State.replaceDefn st) { s with table := s.table.applied }
  let s2 := { s1 with store := st.writes.foldl (fun q w => q.queueItem w) s1.store }
  let s3 := s2.takeRecord (configAppliedReport s.table.applyingSlot st.writes.length)
  forCells (State.notifyCell st s.guard.defns) { s3 with table := { s3.table with applyingSlot := none } }

/-- R45: the apply leaves STORING when none of its items is queued or in flight. An item whose write has completed or is
in flight, and that PROVISION IDENTITY queues afresh while the apply is STORING, counts as one of its items again: R45
says so of an item that is still queued only, and the model's choice is to let it count (log entry 36). -/
def State.applyStored (s : State) : State :=
  if s.table.apply = .storing ∧ s.table.applyItems.any s.store.outstanding = false then
    { s with table := { s.table with apply := .idle, applyItems := [] } }
  else s

end Sys2Proof.Machine
end

