-- ==== Sys2Proof/Machine/Commands.lean ====
section
/-! DEFINITION. The commands of the service link (section 6.4): what each executing block does with a message that has
passed the checks of R139, and its reply. -/

namespace Sys2Proof.Machine

/-! ## IDENTIFY and STATUS (R143) -/

def bodyIdentify : Body := fun _ s =>
  s.answer
    { status := .ok
      payload := s.store.held.serialBytes ++ s.table.settings.nodeAddress ::
        toLe 4 (s.store.held.powerOnCount.getD 0).toNat ++ [flagByte s.provisioned] }

def execIdentify (s : State) : Host.Outcome State Fault Refusal := .next (s.runCommand codeIdentify 0 bodyIdentify)

/-- The states of the four slots, slot 0 first (section 6.5). -/
def GrantTable.stateBytes (g : GrantTable) : List Byte := slotOrder.map fun i => (g.slots[i]).stateCode

def bodyStatus : Body := fun _ s =>
  s.answer
    { status := .ok
      payload := [flagByte s.ignition.level, flagByte s.decision.lockdown, BitVec.ofNat 8 s.decision.score] ++
        s.grants.stateBytes ++ BitVec.ofNat 8 s.log.records.length :: toLe 2 s.log.dropped ++
        BitVec.ofNat 8 s.grants.failed :: toLe 2 s.grants.backoff ++ [flagByte (s.table.apply != .idle)] }

def execStatus (s : State) : Host.Outcome State Fault Refusal := .next (s.runCommand codeStatus 0 bodyStatus)

/-! ## The grant commands (R144) -/

def bodyRequestGrant : Body := fun p s =>
  match s.requestCheck p with
  | .error a => s.answer a
  | .ok i =>
    let g := (readRequest p).trim
    (s.acceptRequest i g, some (acceptedAnswer i g s.grants.nextChallenge))

def execRequestGrant (s : State) : Host.Outcome State Fault Refusal :=
  .next (s.runCommand codeRequestGrant 13 bodyRequestGrant)

/-- R114: the slot number, then the state; the command does not complete until the proof engine's result. -/
def bodyProveGrant : Body := fun p s =>
  match finOf 4 (fieldAt p 1 1) with
  | none => s.answer (.invalidAt 1)
  | some i =>
    match s.grants.slots[i] with
    | .challenged g c _ =>
      let s1 := s.startProof i g c (bytesAt p 2 16)
      ({ s1 with link := { s1.link with execution := some .proving } }, none)
    | _ => s.answer (.plain .notChallenged)

def execProveGrant (s : State) : Host.Outcome State Fault Refusal :=
  .next (s.runCommand codeProveGrant 17 bodyProveGrant)

/-- R116, R140: the proof engine's result is settled and the PROVE GRANT completes. -/
def State.takeResult (p : ProofInFlight) (s : State) : State :=
  let r := State.settleProof p { s with engine := none }
  if r.1.link.execution = some .proving then r.1.completeCommand (.plain r.2) else r.1

/-- PROOF_RESULT (R116). -/
def execProofResult (s : State) : Host.Outcome State Fault Refusal :=
  .next
    (match s.engine with
     | none => s
     | some p => s.takeResult p)

/-- R123: slot number, occupied, owner. -/
def bodyCloseGrant : Body := fun p s =>
  match finOf 4 (fieldAt p 1 1) with
  | none => s.answer (.invalidAt 1)
  | some i =>
    match (s.grants.slots[i]).grant? with
    | none => s.answer (.plain .notOpen)
    | some g =>
      if g.toolId = BitVec.ofNat 32 (fieldAt p 2 4) then (s.endSlot i .closed, some (.plain .ok))
      else s.answer (.plain .notOwner)

def execCloseGrant (s : State) : Host.Outcome State Fault Refusal :=
  .next (s.runCommand codeCloseGrant 5 bodyCloseGrant)

def bodyListGrants : Body := fun _ s =>
  s.answer { status := .ok, payload := slotOrder.flatMap fun i => (s.grants.slots[i]).entry }

def execListGrants (s : State) : Host.Outcome State Fault Refusal :=
  .next (s.runCommand codeListGrants 0 bodyListGrants)

/-! ## The log commands (R145, R159 to R163) -/

/-- R159: the number of records held, the number returned, and the records at the start position and the next. -/
def readLogAnswer (start : Nat) (l : Log) : Answer :=
  let found := (l.records.drop start).take 2
  { status := .ok
    payload := BitVec.ofNat 8 l.records.length :: BitVec.ofNat 8 found.length :: found.flatMap LogRecord.bytes }

def bodyReadLog : Body := fun p s =>
  if fieldAt p 1 1 ≤ 63 then s.answer (readLogAnswer (fieldAt p 1 1) s.log) else s.answer (.invalidAt 1)

def execReadLog (s : State) : Host.Outcome State Fault Refusal := .next (s.runCommand codeReadLog 1 bodyReadLog)

def releasedReport (i : Fin 4) (g : Grant) (removed : Nat) : Report where
  kind := .logReleased
  key := some (.slot i)
  reason := none
  address := none
  valueA := some (BitVec.ofNat 32 removed)
  valueB := some g.toolId

/-- R160 step 1: the oldest records are removed, and the alarm indication is recomputed. -/
def Log.release (count : Nat) (l : Log) : Log :=
  { l with
    records := l.records.drop count
    alarm := (l.records.drop count).any fun r => r.severity == .alarm }

/-- R163: a release that leaves nothing but its own record clears the mark copy, and queues the item if it was set. -/
def State.markAfterRelease (emptied : Bool) (s : State) : State :=
  if emptied = true ∧ s.log.markCopy = true then
    { s with log := { s.log with markCopy := false } }.queueItem (.logMark false)
  else s

/-- R160: remove, record, mark and indication, in one step. -/
def State.releaseLog (i : Fin 4) (g : Grant) (count : Nat) (s : State) : State :=
  let removed := min count s.log.records.length
  let s1 := { s with log := s.log.release removed }.takeRecord (releasedReport i g removed)
  s1.markAfterRelease (s.log.records.drop removed).isEmpty

def bodyReleaseLog : Body := fun p s =>
  match s.actingGrant (.read p) with
  | none => s.answer (.plain .denied)
  | some (i, g) =>
    if g.hasRight .clear = false then s.answer (.plain .denied)
    else if 1 ≤ fieldAt p 6 1 ∧ fieldAt p 6 1 ≤ 64 then
      (s.releaseLog i g (fieldAt p 6 1),
        some { status := .ok, payload := [BitVec.ofNat 8 (min (fieldAt p 6 1) s.log.records.length)] })
    else s.answer (.invalidAt 6)

def execReleaseLog (s : State) : Host.Outcome State Fault Refusal :=
  .next (s.runCommand codeReleaseLog 6 bodyReleaseLog)

/-! ## The table and cell commands (R146) -/

/-- The cell state byte: DISABLED 0, READING 1, LIVE 2 (R72, section 6.5). -/
def Cell.stateByte (c : Cell) : Byte :=
  match c.defn, c.live with
  | none, _ => 0
  | some _, none => 1
  | some _, some _ => 2

/-- The half, its value and its age; zeros where absent (section 6.5). -/
def pendingBytes (h : Option PendingHalf) : List Byte :=
  match h with
  | none => zeros 4
  | some p => p.half.byteCode :: toLe 2 p.value.toNat ++ [BitVec.ofNat 8 p.age]

/-- R103: the operation byte of a READING cell: SCAN-READ, NEW-READ or none. A read of its old definition is still in
flight (R73, R101); another operation of it is none of these (log entry 12). -/
def readByte : Option Operation → Byte
  | some .scanRead => 1
  | some (.newRead _) => 2
  | _ => 0

/-- R103: the state of a cell from its cell state byte on; what it lacks reads as zeros. -/
def Cell.stateBytes (c : Cell) : List Byte :=
  c.stateByte ::
    match c.defn, c.live with
    | none, _ => zeros 19
    | some _, none => readByte c.op :: zeros 18
    | some _, some v =>
      opByte c.op :: toLe 4 v.shadow ++ toLe 4 v.credit ++ toLe 4 v.floor ++ pendingBytes v.half ++
        [flagByte v.repair, flagByte v.due]

def bodyReadCell : Body := fun p s =>
  match finOf 8 (fieldAt p 1 1) with
  | none => s.answer (.invalidAt 1)
  | some n =>
    s.answer { status := .ok, payload := BitVec.ofNat 8 n.val :: cellBlock (s.cell n).defn ++ (s.cell n).stateBytes }

def execReadCell (s : State) : Host.Outcome State Fault Refusal := .next (s.runCommand codeReadCell 1 bodyReadCell)

/-- The present indication and value block of an entry: an empty staged entry reads as zeros (R146). -/
def presentBlock {α : Type} (size : Nat) (block : α → List Byte) (v : Option α) : List Byte :=
  match v with
  | none => 0 :: zeros size
  | some x => 1 :: block x

/-- R39: a live entry, by its entry code; it is always present. -/
def State.liveEntry (entry : Nat) (s : State) : List Byte :=
  match finOf 8 entry, finOf 8 (entry - 9) with
  | some n, _ => 1 :: windowBlock s.table.windows[n]
  | none, some n => if entry = 8 then 1 :: defaultBlock s.table.dflt else 1 :: cellBlock (s.cell n).defn
  | none, none => 1 :: settingsBlock s.table.settings

/-- R39: a staged entry, by its entry code. -/
def Staged.entry (entry : Nat) (st : Staged) : List Byte :=
  match finOf 8 entry, finOf 8 (entry - 9) with
  | some n, _ => presentBlock 17 windowBlock st.windows[n]
  | none, some n =>
    if entry = 8 then presentBlock 17 defaultBlock st.dflt else presentBlock 11 cellBlock st.cells[n]
  | none, none => presentBlock 14 settingsBlock st.settings

/-- READ TABLE (R39, R146). That the selector is examined before the entry, so that offset 1 is answered where both are
out of range, is the model's choice (DESIGN CHOICE, log entry 34). -/
def bodyReadTable : Body := fun p s =>
  match firstBad [(1, isFlag (fieldAt p 1 1)), (2, decide (fieldAt p 2 1 ≤ 17))] with
  | some o => s.answer (.invalidAt o)
  | none =>
    s.answer
      { status := .ok
        payload := bytesAt p 1 2 ++
          (if fieldAt p 1 1 = 0 then s.liveEntry (fieldAt p 2 1) else s.table.staged.entry (fieldAt p 2 1)) }

def execReadTable (s : State) : Host.Outcome State Fault Refusal := .next (s.runCommand codeReadTable 2 bodyReadTable)

def bodyStageWindow : Body := fun p s => s.stage p (stageWindowChecks p) (stageWindowWrite p)

def execStageWindow (s : State) : Host.Outcome State Fault Refusal :=
  .next (s.runCommand codeStageWindow 23 bodyStageWindow)

def bodyStageCell : Body := fun p s => s.stage p (stageCellChecks p) (stageCellWrite p)

def execStageCell (s : State) : Host.Outcome State Fault Refusal :=
  .next (s.runCommand codeStageCell 17 bodyStageCell)

def bodyStageSettings : Body := fun p s =>
  s.stage p (checkSettings p 6) fun st => { st with settings := some (readSettings p 6) }

def execStageSettings (s : State) : Host.Outcome State Fault Refusal :=
  .next (s.runCommand codeStageSettings 19 bodyStageSettings)

def execApplyStaged (s : State) : Host.Outcome State Fault Refusal :=
  .next (s.runCommand codeApplyStaged 5 State.applyStaged)

/-- R38: every entry of the staged copy is emptied. -/
def bodyDiscardStaged : Body := fun p s => s.stage p [] fun _ => .empty

def execDiscardStaged (s : State) : Host.Outcome State Fault Refusal :=
  .next (s.runCommand codeDiscardStaged 5 bodyDiscardStaged)

/-! ## RESET ECU and UNLOCK (R70, R147) -/

def bodyResetEcu : Body := fun p s =>
  match s.actingGrant (.read p) with
  | none => s.answer (.plain .denied)
  | some (_, g) => if g.level = .one then s.answer (.plain .denied) else (s.resetRequestCause, some (.plain .ok))

def execResetEcu (s : State) : Host.Outcome State Fault Refusal := .next (s.runCommand codeResetEcu 5 bodyResetEcu)

def unlockReport (i : Fin 4) (g : Grant) (score : Nat) : Report where
  kind := .unlock
  key := some (.slot i)
  reason := none
  address := none
  valueA := some (BitVec.ofNat 32 score)
  valueB := some g.toolId

/-- R70: lockdown ends: the state, the score, the mark and the record, in that order. -/
def State.endLockdown (i : Fin 4) (g : Grant) (s : State) : State :=
  let s1 := { s with decision := { s.decision with lockdown := false } }.reportLockdown
  let s2 := { s1 with decision := { s1.decision with score := 0 } }.reportScore
  (s2.queueItem (.lockdownMark false)).takeRecord (unlockReport i g s.decision.score)

def bodyUnlock : Body := fun p s =>
  match s.actingGrant (.read p) with
  | none => s.answer (.plain .denied)
  | some (i, g) =>
    if g.level ≠ .three then s.answer (.plain .denied)
    else if s.decision.lockdown then (s.endLockdown i g, some (.plain .ok))
    else s.answer (.plain .ok)

def execUnlock (s : State) : Host.Outcome State Fault Refusal := .next (s.runCommand codeUnlock 5 bodyUnlock)

/-! ## Provisioning (R148, R192, R193) -/

/-- R148: on a provisioned part a provisioning command is refused before any field is examined. -/
def ifUnprovisioned (body : Body) : Body := fun p s =>
  if s.provisioned then s.answer (.plain .alreadyProvisioned) else body p s

def bodyProvisionKey : Body :=
  ifUnprovisioned fun p s =>
    match Level.ofByteCode (fieldAt p 1 1) with
    | none => s.answer (.invalidAt 1)
    | some l => (s.queueItem (.key l (bytesAt p 2 32)), some (.plain .ok))

def execProvisionKey (s : State) : Host.Outcome State Fault Refusal :=
  .next (s.runCommand codeProvisionKey 33 bodyProvisionKey)

/-- R192: the live node address is set, and the serial and the settings as they then stand are queued. -/
def State.setIdentity (serial : List Byte) (node : Byte) (s : State) : State :=
  let st := { s.table.settings with nodeAddress := node }
  ({ s with table := { s.table with settings := st } }.queueItem (.serial serial)).queueItem (.settings st)

/-- PROVISION IDENTITY (R148, R192). That the serial is examined before the node address, so that offset 1 is answered
where both are out of range, is the model's choice (DESIGN CHOICE, log entry 34). -/
def bodyProvisionIdentity : Body :=
  ifUnprovisioned fun p s =>
    match firstBad [(1, bytesAt p 1 8 != zeros 8), (9, decide (1 ≤ fieldAt p 9 1 ∧ fieldAt p 9 1 ≤ 254))] with
    | some o => s.answer (.invalidAt o)
    | none => (s.setIdentity (bytesAt p 1 8) (BitVec.ofNat 8 (fieldAt p 9 1)), some (.plain .ok))

def execProvisionIdentity (s : State) : Host.Outcome State Fault Refusal :=
  .next (s.runCommand codeProvisionIdentity 9 bodyProvisionIdentity)

/-- R148: the lowest level whose key is missing. -/
def Items.missingKey (m : Items) : Option Level :=
  [Level.one, Level.two, Level.three].find? fun l => (m.keys[Level.index l]).isNone

def bodyFinishProvisioning : Body :=
  ifUnprovisioned fun _ s =>
    match s.store.held.missingKey with
    | some l => s.answer (.invalidAt l.byteCode)
    | none => (s.queueItem (.provisionedMark true), some (.plain .ok))

def execFinishProvisioning (s : State) : Host.Outcome State Fault Refusal :=
  .next (s.runCommand codeFinishProvisioning 0 bodyFinishProvisioning)

end Sys2Proof.Machine
end

