-- ==== Sys2Proof/Machine/GuardEvents.lean ====
section
/-! DEFINITION. The events the counter guard takes: ticks, hold expiry, the tick of an apply and ignition-off. -/

namespace Sys2Proof.Machine

/-- R75: the counter guard takes a tick, and the enabled cells in cell order. -/
def State.tickGuard (s : State) : State := forCells State.tickCell (s.withTime s.time.takeGuardTick)

/-- COUNTER_TICK (R75): a tick reaches the counter guard. -/
def execCounterTick (wide : Bool) (s : State) : Host.Outcome State Fault Refusal := .next (s.tickGuard.serve wide)

/-- HOLD_EXPIRY (R75, R87): the tick at which the pending half of cell `n` is evaluated, its age having reached the hold
limit. A tick that makes no such evaluation is none of this row, and there is nothing to take (log entry 4). -/
def execHoldExpiry (n : Fin 8) (wide : Bool) (s : State) : Host.Outcome State Fault Refusal :=
  .next ((if s.expires n 1 then s.tickGuard else s).serve wide)

/-- R46, R133: a tick that has made the live divisor 0 turns a link at rest OFF; a frame being received or sent finishes
first. The reply to the APPLY itself is no exception, where it has not all been sent by then (log entry 37). -/
def State.divisorTick (s : State) : State :=
  if s.table.settings.divisor = 0 then { s with link := s.link.turnOff } else s

/-- APPLY_TICK (R32, R43): a tick reaches the window table; only a PENDING apply is affected. -/
def execApplyTick (wide : Bool) (s : State) : Host.Outcome State Fault Refusal :=
  let s1 := s.withTime s.time.takeTableTick
  .next ((if s.table.apply = .pending then s1.applyNow.divisorTick else s1).serve wide)

/-- R90: every LIVE cell is marked due. -/
def State.markDue (n : Fin 8) (s : State) : State := s.modifyLive n fun x => { x with due := true }

/-- R90, R177: the counter guard takes an ignition-off that the filter has issued to it: every LIVE cell is marked, then
those with no operation in flight are settled in cell order. -/
def State.ignitionOffGuard (s : State) : State :=
  if s.ignition.guardOffs = 0 then s
  else
    forCells State.settle (forCells State.markDue
      { s with ignition := { s.ignition with guardOffs := s.ignition.guardOffs - 1 } })

/-- IGNITION_OFF_COUNTER_GUARD (R90); with no ignition-off issued there is nothing to take (log entry 3). -/
def execIgnitionOffCounterGuard (wide : Bool) (s : State) : Host.Outcome State Fault Refusal :=
  .next (s.ignitionOffGuard.serve wide)

end Sys2Proof.Machine
end

