-- ==== Sys2Proof/Machine/StoreEvents.lean ====
section
/-! DEFINITION. The audit log's and the store's events, power-on reset and the start-up sequence (R195). -/

namespace Sys2Proof.Machine

/-- LOG_RECORD (R154): a record reaches the audit log. -/
def execLogRecord (r : Report) (s : State) : Host.Outcome State Fault Refusal := .next (s.takeRecord r)

/-- STORE_WRITE_COMPLETE (R45, R191). -/
def execStoreWriteComplete (s : State) : Host.Outcome State Fault Refusal :=
  .next (State.applyStored { s with store := s.store.complete })

/-! ## Power-on reset -/

/-- R195 step 1: the power-on count, raised by 1 and wrapping. -/
def Items.nextPowerOn (m : Items) : Quad := m.powerOnCount.getD 0 + 1

/-- POWER_ON_RESET (R190, R195): the items keep their last completed writes, the state is reset and the power-on count
is raised and queued. The bus-reset level and a presented cycle are the engine controller's (log entry 7). -/
def execPowerOnReset (strap : Bool) (s : State) : Host.Outcome State Fault Refusal :=
  .next
    ({ State.fresh s.store.stored strap s.port.busReset s.port.presented with
        pending := s.pending, guardPeriods := s.guardPeriods }.queueItem
      (.powerOnCount s.store.stored.nextPowerOn))

/-! ## Load, defaults, evidence and scan (R195 steps 2 to 5) -/

/-- R194: the items that are loaded: all on a provisioned part; on an unprovisioned one no window, cell-definition,
settings or floor item, which its held values have as never written. -/
def Items.loaded (m : Items) : Items :=
  if m.provisionedMark = some true then m
  else
    { m with
      settings := none, windows := Items.blank.windows, dflt := none, cells := Items.blank.cells
      floors := Items.blank.floors }

/-- The held values after the load: the items loaded, and over them the writes that are in flight or queued (R190). -/
def Store.load (st : Store) : Store :=
  { st with held := (st.inFlight.toList ++ st.queue).foldl Items.write st.stored.loaded }

/-- The entries of a table of items, an entry never written reading as disabled (R28). -/
def loadEntries {α : Type} (v : Vector (Option (Option α)) 8) : Vector (Option α) 8 :=
  octOrder.foldl (fun acc (n : Fin 8) => acc.set n (v[n]).join) #v[none, none, none, none, none, none, none, none]

/-- Replace every live cell definition. -/
def State.setDefns (cells : Vector (Option CellDef) 8) (s : State) : State :=
  forCells (fun n s => s.setCell n { Cell.disabled with defn := cells[n] }) s

/-- R28, R30: a provisioned part loads its tables and makes the load check; an unprovisioned one takes the defaults of
R29. -/
def State.loadTables (s : State) : State :=
  let m := s.store.held
  let dflt := WindowTerms.unprovisioned s.start.strap
  if s.provisioned then
    let windows := loadEntries m.windows
    let d := m.dflt.getD dflt
    State.setDefns (loadCheck windows d (loadEntries m.cells))
      { s with
        table := { s.table with windows := windows, dflt := d, settings := m.settings.getD .unprovisioned } }
  else
    State.setDefns #v[none, none, none, none, none, none, none, none]
      { s with
        table :=
          { s.table with
            windows := #v[none, none, none, none, none, none, none, none], dflt := dflt, settings := .unprovisioned } }

/-- R106, R111: the grant table takes the failed count, its backoff and the challenge counter. -/
def State.loadGrants (s : State) : State :=
  let n := (s.store.held.failedCount.getD 0).toNat
  { s with
    grants := { s.grants with failed := n, backoff := backoffFor n, counter := s.store.held.challengeCounter.getD 0 } }

def evidenceReport (count : Quad) : Report :=
  { kind := .evidenceLost, key := none, reason := none, address := none, valueA := some count, valueB := none }

/-- R164: the evidence check. -/
def State.evidenceCheck (s : State) : State :=
  let mark := s.store.held.logMark.getD false
  let s1 := { s with log := { s.log with markCopy := mark } }
  if mark then s1.takeRecord (evidenceReport (s.store.held.powerOnCount.getD 0)) else s1

/-- R69: the lockdown state takes the value of the mark and is reported. -/
def State.loadLockdown (s : State) : State :=
  { s with decision := { s.decision with lockdown := s.store.held.lockdownMark.getD false } }.reportLockdown

/-- R94: the floor a cell loads: 0 where never written or cleared, at most 2^W - 1. -/
def loadedFloor (m : Items) (n : Fin 8) (d : CellDef) : Nat := min ((m.floors[n]).getD 0) (2 ^ d.width.bits - 1)

/-- R94: an enabled cell loads its floor and its scan read is requested. -/
def State.scanCell (n : Fin 8) (s : State) : State :=
  match (s.cell n).defn with
  | none => s
  | some d =>
    (s.setCell n { s.cell n with loadedFloor := some (loadedFloor s.store.held n d) }).startInternal n d .read 0 .scanRead

/-- R195 steps 2 to 5, as the load ends. -/
def State.finishLoad (s : State) : State :=
  let s1 := (State.loadTables { s with store := s.store.load }).loadGrants
  let s2 := s1.evidenceCheck.loadLockdown
  forCells State.scanCell { s2 with start := { s2.start with phase := .scanning } }

/-- STORE_LOAD_END (R195). -/
def execStoreLoadEnd (wide : Bool) (s : State) : Host.Outcome State Fault Refusal :=
  .next (if s.start.phase = .loading then s.finishLoad.serve wide else s)

/-! ## The end of the scan (R96) -/

/-- R96: every scanned cell is LIVE and none has an operation in flight. -/
def Cell.scanned (c : Cell) : Bool := c.defn.isNone || (c.live.isSome && c.op.isNone)

def State.scanDone (s : State) : Bool := octOrder.all fun n => (s.cell n).scanned

/-- R2: start-up ends: RESET-HELD with bus reset asserted, otherwise IDLE, and a waiting cycle is taken at once. -/
def State.openPort (s : State) : State :=
  if s.port.busReset then { s with port := { s.port with state := .resetHeld } }
  else State.takePresented { s with port := { s.port with state := .idle } }

/-- R195 step 6: the port opens, the output unit is started and the link listens, or stays OFF for a divisor of 0. -/
def State.openPart (s : State) : State :=
  let s1 := State.openPort { s with start := { s.start with phase := .running } }
  { s1 with
    out := s1.out.becomeStarted s1.table.settings
    link := { s1.link with receiver := if s1.table.settings.divisor = 0 then .off else .listening } }

/-- SCAN_END (R96, R195). -/
def execScanEnd (wide : Bool) (s : State) : Host.Outcome State Fault Refusal :=
  .next (if s.start.phase = .scanning ∧ s.scanDone = true then s.openPart.serve wide else s)

end Sys2Proof.Machine
end

