-- ==== Sys2Proof/Machine/TimeEvents.lean ====
section
/-! DEFINITION. Seconds, lamp steps, ignition samples and ignition events at the blocks that take them, and the events
of the pulse channels. -/

namespace Sys2Proof.Machine

/-- R121: the grant table takes a second: the slots in slot order, then the backoff. -/
def State.grantSecond (s : State) : State :=
  (forSlots State.secondSlot (s.withTime s.time.takeGrantSecond)).backoffStep

/-- GRANT_TABLE_SECOND (R121): a second reaches the grant table. -/
def execGrantTableSecond (s : State) : Host.Outcome State Fault Refusal := .next s.grantSecond

/-! The next three rows are the second that ends something: a challenge, a lifetime, the backoff. A second that does not
end it is none of the row, and there is nothing to take (log entry 4). -/

/-- R113: a second brings the challenge age to 30. -/
def Slot.challengeEnds : Slot → Bool
  | .challenged _ _ age => decide (Config.challengeLimit ≤ age + 1)
  | _ => false

/-- R121: a second brings the lifetime remaining to 0. -/
def Slot.lifetimeEnds : Slot → Bool
  | .opened g _ _ => decide (g.lifetime ≤ 1)
  | _ => false

/-- CHALLENGE_EXPIRY (R113): the second at which the challenge of slot `i` expires. -/
def execChallengeExpiry (i : Fin 4) (s : State) : Host.Outcome State Fault Refusal :=
  .next (if (s.grants.slots[i]).challengeEnds then s.grantSecond else s)

/-- LIFETIME_EXPIRED (R121): the second at which the grant of slot `i` expires. -/
def execLifetimeExpired (i : Fin 4) (s : State) : Host.Outcome State Fault Refusal :=
  .next (if (s.grants.slots[i]).lifetimeEnds then s.grantSecond else s)

/-- BACKOFF_END (R119): the second at which the backoff remaining becomes 0. -/
def execBackoffEnd (s : State) : Host.Outcome State Fault Refusal :=
  .next (if s.grants.backoff = 1 then s.grantSecond else s)

/-- R66: whether the next second event makes the decay count reach the decay interval. -/
def State.decayDue (s : State) : Bool := decide (s.table.settings.decayInterval ≤ s.decision.decayCount + 1)

/-- R66: the decay count returns to 0 and the score falls by 1 if it is above 0. -/
def State.decayScore (s : State) : State :=
  { s with decision := { s.decision with decayCount := 0, score := s.decision.score - 1 } }.reportScore

/-- DECAY_COUNT (R66): a second event reaches the decision unit. -/
def execDecayCount (s : State) : Host.Outcome State Fault Refusal :=
  let s1 := s.withTime s.time.takeDecisionSecond
  .next
    (if s.decayDue then s1.decayScore
     else { s1 with decision := { s.decision with decayCount := s.decision.decayCount + 1 } })

/-- SCORE_DECAY (R66): the second event at which the decay count reaches the decay interval (log entry 4). -/
def execScoreDecay (s : State) : Host.Outcome State Fault Refusal :=
  .next (if s.decayDue then State.decayScore (s.withTime s.time.takeDecisionSecond) else s)

/-- LAMP_STEP (R170, R185): a lamp step reaches the output unit with the number that the timebase gave it. An event with
any other number was not issued, and there is nothing to take (log entry 3). -/
def execLampStep (n : Fin 32) (s : State) : Host.Outcome State Fault Refusal :=
  .next
    (if n = s.time.nextLampStep then
       { s.withTime s.time.takeLampStep with out := s.out.takeLampStep s.table.settings n }
     else s)

/-- R173: the history with a sample, the most recent four at most. -/
def pushSample (line : Bool) (h : List Bool) : List Bool :=
  (h ++ [line]).drop ((h ++ [line]).length - 4)

/-- R174, R177: the filtered level takes a new level, and the event is issued to the blocks that take it. -/
def IgnitionFilter.change (on : Bool) (f : IgnitionFilter) : IgnitionFilter where
  history := f.history
  level := on
  grantOffs := if on then f.grantOffs else f.grantOffs + 1
  guardOffs := if on then f.guardOffs else f.guardOffs + 1
  mirrorEvents := f.mirrorEvents ++ [on]

/-- R174: four equal samples at a level other than the filtered one change it and issue the event. -/
def IgnitionFilter.sample (line : Bool) (f : IgnitionFilter) : IgnitionFilter :=
  let f1 := { f with history := pushSample line f.history }
  if f1.history = [line, line, line, line] ∧ line ≠ f.level then f1.change line else f1

/-- IGNITION_SAMPLE (R168, R173, R174): a sample reaches the ignition filter. -/
def execIgnitionSample (line : Bool) (s : State) : Host.Outcome State Fault Refusal :=
  .next { s.withTime s.time.takeSample with ignition := s.ignition.sample line }

/-- IGNITION_OFF_GRANT_TABLE (R124, R177): the grant table takes an ignition-off that the filter has issued to it, and the
slots in slot order; with none issued there is nothing to take (log entry 3). -/
def execIgnitionOffGrantTable (s : State) : Host.Outcome State Fault Refusal :=
  .next
    (if s.ignition.grantOffs = 0 then s
     else
       forSlots State.ignitionOffSlot
         { s with ignition := { s.ignition with grantOffs := s.ignition.grantOffs - 1 } })

/-- IGNITION_MIRROR (R177, R189): the output unit takes the oldest ignition event issued to it. An event of the other
kind, or one not issued, is none to take (log entry 3). -/
def execIgnitionMirror (on : Bool) (s : State) : Host.Outcome State Fault Refusal :=
  .next
    (if s.ignition.mirrorEvents.head? = some on then
       { s with
         ignition := { s.ignition with mirrorEvents := s.ignition.mirrorEvents.tail }
         out := s.out.takeIgnition s.table.settings on }
     else s)

/-- ALERT_PULSE_END (R180). -/
def execAlertPulseEnd (s : State) : Host.Outcome State Fault Refusal :=
  .next { s with out := { s.out with alert := s.out.alert.pulseEnd } }

/-- ALERT_GAP_END (R180). -/
def execAlertGapEnd (s : State) : Host.Outcome State Fault Refusal :=
  .next { s with out := { s.out with alert := s.out.alert.gapEnd } }

/-- RESET_REQUEST_PULSE_END (R182). -/
def execResetRequestPulseEnd (s : State) : Host.Outcome State Fault Refusal :=
  .next { s with out := { s.out with resetRequest := s.out.resetRequest.pulseEnd } }

/-- RESET_REQUEST_GAP_END (R182). -/
def execResetRequestGapEnd (s : State) : Host.Outcome State Fault Refusal :=
  .next { s with out := { s.out with resetRequest := s.out.resetRequest.gapEnd } }

end Sys2Proof.Machine
end

