-- ==== Sys2Proof/Machine/Dispatch.lean ====
section
/-! DEFINITION. The meaning of every command: one arm per constructor of Instr, in the table's order. -/

namespace Sys2Proof.Machine

def exec (i : Instr) (s : State) : Host.Outcome State Fault Refusal :=
  match i with
  | .processorCycle lines wide => Sys2Proof.Machine.execProcessorCycle lines wide s
  | .accessEnd data wide => Sys2Proof.Machine.execAccessEnd data wide s
  | .accessTimeout wide => Sys2Proof.Machine.execAccessTimeout wide s
  | .counterTick wide => Sys2Proof.Machine.execCounterTick wide s
  | .holdExpiry cell wide => Sys2Proof.Machine.execHoldExpiry cell wide s
  | .applyTick wide => Sys2Proof.Machine.execApplyTick wide s
  | .grantTableSecond => Sys2Proof.Machine.execGrantTableSecond s
  | .challengeExpiry slot => Sys2Proof.Machine.execChallengeExpiry slot s
  | .lifetimeExpired slot => Sys2Proof.Machine.execLifetimeExpired slot s
  | .backoffEnd => Sys2Proof.Machine.execBackoffEnd s
  | .decayCount => Sys2Proof.Machine.execDecayCount s
  | .scoreDecay => Sys2Proof.Machine.execScoreDecay s
  | .lampStep step => Sys2Proof.Machine.execLampStep step s
  | .ignitionSample line => Sys2Proof.Machine.execIgnitionSample line s
  | .ignitionOffGrantTable => Sys2Proof.Machine.execIgnitionOffGrantTable s
  | .ignitionOffCounterGuard wide => Sys2Proof.Machine.execIgnitionOffCounterGuard wide s
  | .ignitionMirror on => Sys2Proof.Machine.execIgnitionMirror on s
  | .alertPulseEnd => Sys2Proof.Machine.execAlertPulseEnd s
  | .alertGapEnd => Sys2Proof.Machine.execAlertGapEnd s
  | .resetRequestPulseEnd => Sys2Proof.Machine.execResetRequestPulseEnd s
  | .resetRequestGapEnd => Sys2Proof.Machine.execResetRequestGapEnd s
  | .logRecord report => Sys2Proof.Machine.execLogRecord report s
  | .storeWriteComplete => Sys2Proof.Machine.execStoreWriteComplete s
  | .powerOnReset strap => Sys2Proof.Machine.execPowerOnReset strap s
  | .scanEnd wide => Sys2Proof.Machine.execScanEnd wide s
  | .busResetAssert wide => Sys2Proof.Machine.execBusResetAssert wide s
  | .busResetDeassert wide => Sys2Proof.Machine.execBusResetDeassert wide s
  | .gapTimeout => Sys2Proof.Machine.execGapTimeout s
  | .linkOff => Sys2Proof.Machine.execLinkOff s
  | .replySent => Sys2Proof.Machine.execReplySent s
  | .lengthError => Sys2Proof.Machine.execLengthError s
  | .unknown => Sys2Proof.Machine.execUnknown s
  | .identify => Sys2Proof.Machine.execIdentify s
  | .status => Sys2Proof.Machine.execStatus s
  | .requestGrant => Sys2Proof.Machine.execRequestGrant s
  | .proveGrant => Sys2Proof.Machine.execProveGrant s
  | .proofResult => Sys2Proof.Machine.execProofResult s
  | .closeGrant => Sys2Proof.Machine.execCloseGrant s
  | .listGrants => Sys2Proof.Machine.execListGrants s
  | .readLog => Sys2Proof.Machine.execReadLog s
  | .releaseLog => Sys2Proof.Machine.execReleaseLog s
  | .readCell => Sys2Proof.Machine.execReadCell s
  | .readTable => Sys2Proof.Machine.execReadTable s
  | .stageWindow => Sys2Proof.Machine.execStageWindow s
  | .stageCell => Sys2Proof.Machine.execStageCell s
  | .stageSettings => Sys2Proof.Machine.execStageSettings s
  | .applyStaged => Sys2Proof.Machine.execApplyStaged s
  | .discardStaged => Sys2Proof.Machine.execDiscardStaged s
  | .resetEcu => Sys2Proof.Machine.execResetEcu s
  | .unlock => Sys2Proof.Machine.execUnlock s
  | .provisionKey => Sys2Proof.Machine.execProvisionKey s
  | .provisionIdentity => Sys2Proof.Machine.execProvisionIdentity s
  | .finishProvisioning => Sys2Proof.Machine.execFinishProvisioning s
  | .frameArrival frame => Sys2Proof.Machine.execFrameArrival frame s
  | .startBitConfirmed fall => Sys2Proof.Machine.execStartBitConfirmed fall s
  | .storeLoadEnd wide => Sys2Proof.Machine.execStoreLoadEnd wide s

end Sys2Proof.Machine
end

