-- ==== Sys2Proof/Safety.lean ====
section
/-! DEFINITION. The laws of the part, as decidable predicates on its state: what the manual's law sentences say a state
is like after every command. -/

namespace Sys2Proof.Machine

/-! ## Score, proof account and lockdown (R64, R68, R119) -/

/-- R64: the violation score holds a number 0..255. -/
abbrev State.ScoreLaw (s : State) : Prop := s.decision.score ≤ 255

/-- R119: the law of the proof account. -/
abbrev State.ProofAccountLaw (s : State) : Prop := s.grants.failed ≤ 255 ∧ s.grants.backoff ≤ 1024

/-- Before start-up has ended every slot is FREE, the link is OFF and it executes nothing (R106, R134). -/
abbrev State.StartUpLaw (s : State) : Prop :=
  s.start.phase ≠ .running →
    (∀ i : Fin 4, s.grants.slots[i] = .free) ∧ s.link.receiver = .off ∧ s.link.execution = none

/-- R68, the lockdown law: in lockdown every slot that is not FREE is of level 3. -/
abbrev State.LockdownLaw (s : State) : Prop :=
  s.decision.lockdown = true → ∀ i : Fin 4, (s.grants.slots[i]).lowLevel = false

/-! ## Grants (R104, R105) and the charge grant (R53) -/

/-- R104, R105: the fields of a grant are in their ranges and within its level. -/
def Grant.withinLevel (g : Grant) : Bool :=
  g.toolId != 0 && g.scope != 0 && g.rights &&& maxRights g.level == g.rights && decide (1 ≤ g.lifetime) &&
    decide (g.lifetime ≤ maxLifetime g.level) &&
    (match g.allowance with
     | none => true
     | some a => decide (1 ≤ a ∧ a ≤ 65535))

/-- R104: the fields of a slot are in their ranges. -/
def Slot.withinTerms : Slot → Bool
  | .free => true
  | .challenged g _ age => g.withinLevel && decide (age < 30)
  | .opened g tally _ => g.withinLevel && decide (tally ≤ 65535)

/-- R105, the law of grant terms, with the ranges of R104. -/
abbrev State.GrantTermsLaw (s : State) : Prop := ∀ i : Fin 4, (s.grants.slots[i]).withinTerms = true

/-- R53: a charge grant names a slot that is OPEN and holds the right the cycle needed for its window. -/
def State.chargeGrantHolds (s : State) : Bool :=
  match s.decision.record with
  | none => true
  | some d =>
    match d.chargeGrant, d.right with
    | none, _ => true
    | some i, some r => (s.grants.slots[i]).holds r d.window.id
    | some _, none => false

abbrev State.ChargeGrantLaw (s : State) : Prop := s.chargeGrantHolds = true

/-! ## Outputs (R158, R184 and section 9.1) -/

/-- R184: workshop-active is asserted exactly while a slot is OPEN; each mirror agrees with its owner. -/
abbrev State.OutputLaw (s : State) : Prop :=
  (∀ i : Fin 4, s.out.slotMirror[i] =
      match s.grants.slots[i] with
      | .free => .free
      | .challenged _ _ _ => .challenged
      | .opened _ _ _ => .opened) ∧
    (s.out.workshopActive = true ↔ ∃ i : Fin 4, s.out.slotMirror[i] = .opened) ∧
    s.out.lockdownMirror = s.decision.lockdown ∧ s.out.scoreMirror = s.decision.score ∧
    s.out.alarmMirror = s.log.alarm

/-- R185, R189: before started is yes both lamps are OFF, not lit and released. -/
abbrev OutputUnit.LampsDark (o : OutputUnit) : Prop := o.workshopLamp = .dark ∧ o.tamperLamp = .dark

/-- R186, R187: the patterns that the mirrors give. Whether a tamper lamp that is neither STEADY nor FAST is SLOW is
decided at an evaluation, by the alert threshold that is live then. -/
abbrev OutputUnit.PatternsShow (o : OutputUnit) : Prop :=
  o.workshopLamp.pattern =
      (if ∃ i : Fin 4, o.slotMirror[i] = .opened then .steady
       else if ∃ i : Fin 4, o.slotMirror[i] = .challenged then .slow
       else .off) ∧
    (o.lockdownMirror = true → o.tamperLamp.pattern = .steady) ∧
    (o.lockdownMirror = false → o.alarmMirror = true → o.tamperLamp.pattern = .fast) ∧
    (o.lockdownMirror = false → o.alarmMirror = false → o.tamperLamp.pattern = .slow ∨ o.tamperLamp.pattern = .off)

/-- R185, R188: each lamp is lit by its pattern and the lamp step counter, the tamper lamp in the opposite phase while
both are SLOW. R189: its driver is released exactly while the ignition mirror is OFF. -/
abbrev OutputUnit.LampsLit (o : OutputUnit) : Prop :=
  (o.workshopLamp.lit = true ↔
      o.workshopLamp.pattern = .steady ∨ (o.workshopLamp.pattern = .slow ∧ o.lampStep.val ≤ 15)) ∧
    (o.tamperLamp.lit = true ↔
      o.tamperLamp.pattern = .steady ∨
        (o.tamperLamp.pattern = .fast ∧
          o.lampStep.val ∈ [0, 1, 2, 3, 8, 9, 10, 11, 16, 17, 18, 19, 24, 25, 26, 27]) ∨
        (o.tamperLamp.pattern = .slow ∧
          if o.workshopLamp.pattern = .slow then 16 ≤ o.lampStep.val else o.lampStep.val ≤ 15)) ∧
    (o.workshopLamp.driver = .released ↔ o.ignitionMirror = false) ∧
    (o.tamperLamp.driver = .released ↔ o.ignitionMirror = false)

/-- R185 to R189: what the lamps are like in every state, since every change of an input of a pattern evaluates them. -/
abbrev State.LampLaw (s : State) : Prop :=
  (s.out.started = false → s.out.LampsDark) ∧ (s.out.started = true → s.out.PatternsShow ∧ s.out.LampsLit)

/-! ## The log (R150, R151, R158) -/

/-- R150, the law of the log, with the ranges of its fields (R150, R153, R157), the repeat counts of kinds that do not
coalesce (R151) and the alarm indication (R158). -/
abbrev Log.Law (l : Log) : Prop :=
  l.records.length ≤ 64 ∧ l.records.Pairwise (fun a b => a.sequence < b.sequence) ∧
    (∀ r ∈ l.records, 1 ≤ r.sequence ∧ r.sequence < l.nextSeq ∧ 1 ≤ r.repeats ∧ r.repeats ≤ 65535 ∧
      (r.report.kind.coalesces = false → r.repeats = 1)) ∧
    1 ≤ l.nextSeq ∧ l.nextSeq ≤ 4294967296 ∧ l.dropped ≤ 65535 ∧
    l.alarm = l.records.any fun r => r.severity == .alarm

/-! ## The store (R191) -/

/-- R191: the write queue holds at most one entry per item, and it waits only for a write in flight. -/
abbrev Store.Law (st : Store) : Prop := (st.queue.map ItemWrite.item).Nodup ∧ (st.inFlight = none → st.queue = [])

/-! ## The cells (R73, R74, R77, R91) -/

/-- R73, R74: the credit of a cell lies within its mode's range. -/
def CellMode.creditFits (m : CellMode) (credit : Nat) : Bool :=
  match m with
  | .monotonic => credit == 0
  | .rate _ cap => decide (credit ≤ cap * 65536)

/-- R73: only a 32-bit cell holds a pending half, of age 0..16. -/
def CellDef.halfFits (d : CellDef) (h : Option PendingHalf) : Bool :=
  match h with
  | none => true
  | some p => d.width == .w32 && decide (p.age ≤ 16)

/-- R77, R80: an evaluation's written value is a value of the cell, and above the shadow except under a set. -/
def Cell.writeFits (c : Cell) (d : CellDef) (v : LiveState) : Bool :=
  match c.op, c.stale with
  | some (.evaluation _ x isSet), false => decide (x < 2 ^ d.width.bits) && (isSet || decide (v.shadow ≤ x))
  | _, _ => true

/-- R72, R73, R91: the state of a cell is within its ranges and its floor is at or below its shadow; a LIVE cell holds no
loaded floor any more. -/
def Cell.lawful (c : Cell) : Bool :=
  match c.defn, c.live with
  | none, v => v.isNone
  | some d, none =>
    (match c.loadedFloor with
     | none => true
     | some f => decide (f < 2 ^ d.width.bits))
  | some d, some v =>
    decide (v.shadow < 2 ^ d.width.bits) && decide (v.floor ≤ v.shadow) && d.mode.creditFits v.credit &&
      d.halfFits v.half && c.writeFits d v && c.loadedFloor.isNone

abbrev State.CellLaw (s : State) : Prop := ∀ n : Fin 8, (s.cell n).lawful = true

/-! ## Traffic (R1, R2, R20, R23, R24, R73, R82) -/

/-- The processor-origin work at the memory port whose result is still wanted. -/
def MemPort.procJobs (m : MemPort) : List ProcJob :=
  (match m.transfer with
   | some t =>
     if t.dropped then []
     else
       match t.request.requester with
       | .processor j => [j]
       | .internal _ => []
   | none => []) ++
    match m.place with
    | some r =>
      (match r.requester with
       | .processor j => [j]
       | .internal _ => [])
    | none => []

/-- The jobs of a PASS or FILL-CHECK outcome, which complete or judge the cycle in progress. -/
def ProcJob.ofCycle : ProcJob → Bool
  | .pass | .fillRead | .fillWrite => true
  | .cellRead | .cellWrite _ => false

/-- The outcome of the decision record, if there is one. -/
def State.outcome? (s : State) : Option CycleOutcome := s.decision.record.map DecisionRecord.outcome

/-- R1, R2, R24, R47: the cycle in progress is present in ACTIVE only, with at most one piece of processor-origin work;
no cycle waits while one can be taken; under bus reset none is taken; the port is CLOSED until start-up ends; only the
transfer of a PASS or FILL-CHECK is dropped (R23). -/
abbrev State.PortLaw (s : State) : Prop :=
  (s.port.state = .active ↔ s.port.cycle.isSome = true) ∧
    (s.decision.record.isSome = true → s.port.state = .active) ∧
    (s.port.presented.isSome = true → s.port.state = .closed ∨ s.port.state = .resetHeld) ∧
    (s.port.busReset = true → s.port.state = .closed ∨ s.port.state = .resetHeld) ∧
    (s.port.state = .closed ↔ s.start.phase ≠ .running) ∧
    s.mem.procJobs.length ≤ 1 ∧
    (s.port.state = .idle ∨ s.port.state = .closed → s.mem.procJobs = []) ∧
    (s.mem.procJobs.any ProcJob.ofCycle = true → s.outcome? = some .pass ∨ s.outcome? = some .fillCheck) ∧
    (s.guard.waitingWrite.isSome = true → s.mem.procJobs = [] ∧ s.outcome? = some .counter) ∧
    (∀ t ∈ s.mem.transfer, t.dropped = true → t.request.requester.cutByReset = true)

/-- R20, R21: a free port leaves no request waiting. -/
abbrev State.PortServed (s : State) : Prop := s.mem.transfer = none → s.mem.queue = [] ∧ s.mem.place = none

/-- Every request at the arbiter: the one in progress, the processor place and the internal list. -/
def MemPort.requesters (m : MemPort) : List Requester :=
  (m.transfer.map fun t => t.request.requester).toList ++ (m.place.map Request.requester).toList ++
    m.queue.map Request.requester

/-- A transfer of an abandoned cycle is still at the memory port (R23). -/
def State.abandonedRemains (s : State) : Bool := s.mem.transfer.any Transfer.dropped

/-- R73: whether an operation is an internal one whose request is at the arbiter. -/
def Operation.isInternal : Operation → Bool
  | .newRead w => w == .requested
  | .evaluation .processor _ _ => false
  | _ => true

/-- R73: whether an operation is an evaluation of origin PROCESSOR. -/
def Operation.isProcessor : Operation → Bool
  | .evaluation .processor _ _ => true
  | _ => false

def Requester.isInternal : Requester → Bool
  | .internal _ => true
  | .processor _ => false

/-- R20, R73, R97: a cell's operation in flight has its one request at the arbiter, an internal one or that of a
processor write, and no cell has another; the internal list holds internal requests and the processor place none; an
operation belongs to a definition, live or gone; a new read waits only for a cycle. -/
abbrev State.RequestLaw (s : State) : Prop :=
  (∀ n : Fin 8, s.mem.requesters.count (.internal n) = if (s.cell n).op.any Operation.isInternal then 1 else 0) ∧
    (∀ n : Fin 8,
      s.mem.requesters.count (.processor (.cellWrite n)) = if (s.cell n).op.any Operation.isProcessor then 1 else 0) ∧
    (∀ r ∈ s.mem.queue, r.requester.isInternal = true) ∧
    (∀ r ∈ s.mem.place, r.requester.isInternal = false) ∧
    (∀ n : Fin 8, (s.cell n).op.isSome = true → (s.cell n).stale = true ∨ (s.cell n).defn.isSome = true) ∧
    (∀ n : Fin 8, (s.cell n).stale = true → (s.cell n).op.isSome = true ∧ (s.cell n).op.all Operation.atArbiter = true) ∧
    (∀ n : Fin 8, (s.cell n).op = some (.newRead .forCycle) → s.port.state = .active) ∧
    (∀ n : Fin 8, (s.cell n).op = some (.newRead .forTransfer) → s.abandonedRemains = true)

/-- Until the store has loaded there is no cell, no request and no apply (R25, R31, R94). -/
abbrev State.LoadingLaw (s : State) : Prop :=
  s.start.phase = .loading →
    s.mem.requesters = [] ∧ (∀ n : Fin 8, s.cell n = .disabled) ∧ s.table.apply = .idle

/-- The arbiter's law: the port's, with every request accounted for and none waiting at a free port (R20, R21). -/
abbrev State.TrafficLaw (s : State) : Prop :=
  s.StartUpLaw ∧ s.LoadingLaw ∧ s.PortLaw ∧ s.RequestLaw ∧ s.PortServed

/-! ## Tables, settings and clocks within their ranges (R30, R34 to R36, R41, R50, R66, R168) -/

/-- R36: the fields of a settings record are in their ranges. -/
def Settings.inRange (st : Settings) : Bool :=
  decide (1 ≤ st.nodeAddress.toNat ∧ st.nodeAddress.toNat ≤ 254 ∧ st.divisor ≤ 1023 ∧ 1 ≤ st.alertThreshold ∧
    st.alertThreshold ≤ 255 ∧ st.lockdownThreshold ≤ 255 ∧ 1 ≤ st.decayInterval ∧ st.decayInterval ≤ 3600 ∧
    16 ≤ st.readyLimit ∧ st.readyLimit ≤ 65535 ∧ 1 ≤ st.holdLimit ∧ st.holdLimit ≤ 16)

/-- R34: the size, the base and the device offset of an enabled window are in their ranges. -/
def Window.inRange (w : Window) : Bool :=
  isWindowSize w.size &&
    decide (w.size ∣ w.base.toNat ∧ w.offset.toNat % 256 = 0 ∧ w.offset.toNat + w.size ≤ 16777216)

/-- R35: the byte address and the mode of an enabled cell are in their ranges. -/
def CellDef.inRange (d : CellDef) : Bool :=
  decide (d.address.toNat % (match d.width with | .w16 => 2 | .w32 => 4) = 0) &&
    match d.mode with
    | .monotonic => true
    | .rate rate cap => decide (1 ≤ rate ∧ rate ≤ 16777215 ∧ 1 ≤ cap ∧ cap ≤ 65535)

/-- An item write of a settings record, a window or a cell definition is of one in range. -/
def ItemWrite.inRange : ItemWrite → Bool
  | .settings v => v.inRange
  | .window _ v => v.all Window.inRange
  | .cellDef _ v => v.all CellDef.inRange
  | _ => true

/-- The settings, windows and cell definitions among the items are in range. -/
def Items.inRange (m : Items) : Bool :=
  m.settings.all Settings.inRange && octOrder.all fun n =>
    (m.windows[n]).all (Option.all Window.inRange) && (m.cells[n]).all (Option.all CellDef.inRange)

/-- R34 to R37: the staged entries are in range. -/
def Staged.inRange (st : Staged) : Bool := st.writes.all ItemWrite.inRange

/-- R30, R41, R50: the live table passes the check of R41, and so does the would-be table of a PENDING apply; R34 to
R36: windows, cells and settings are in range, whether live, staged or in the store. -/
abbrev State.TableLaw (s : State) : Prop :=
  checkTable s.table.windows s.table.dflt s.guard.defns = none ∧
    (s.table.apply = .pending → s.checkWouldBe = none) ∧
    s.table.settings.inRange = true ∧
    (∀ (n : Fin 8) (w : Window), s.table.windows[n] = some w → w.inRange = true) ∧
    (∀ (n : Fin 8) (d : CellDef), (s.cell n).defn = some d → d.inRange = true) ∧
    s.table.staged.inRange = true ∧
    s.store.stored.inRange = true ∧ s.store.held.inRange = true ∧
    ∀ w ∈ s.store.inFlight.toList ++ s.store.queue, w.inRange = true

/-- R66, R168: the decay count and the period count are in their ranges. -/
abbrev State.ClockLaw (s : State) : Prop := s.decision.decayCount ≤ 3599 ∧ s.time.periodCount ≤ 32767

/-! ## The protected classes (R52) -/

/-- The processor-origin requests at the memory port whose result is still wanted. -/
def MemPort.procRequests (m : MemPort) : List Request :=
  ((m.transfer.filter fun t => !t.dropped).map Transfer.request).toList.filter (fun r => !r.requester.isInternal) ++
    m.place.toList

/-- R47 to R50: the cycle in progress has its decision record; one that passes a write to a window of a protected class
has held the right of that class; a FILL-CHECK is of a RECORDS window, and a COUNTER of no protected one. -/
abbrev State.DecisionLaw (s : State) : Prop :=
  (s.port.cycle.isSome = true ↔ s.decision.record.isSome = true) ∧
    ∀ (c : Cycle) (d : DecisionRecord), s.port.cycle = some c → s.decision.record = some d →
      (d.outcome = .pass → c.kind = .write → d.window.terms.cls.internalWriteBarred = true →
        d.held = true ∧ d.right = d.window.terms.cls.writeRight) ∧
      (d.outcome = .fillCheck → d.window.terms.cls = .records) ∧
      (d.outcome = .counter → d.window.terms.cls.internalWriteBarred = false)

/-- R52: a processor-origin write at the memory port for a window of class CODE, CALIBRATION or PRIVATE is that of the
cycle in progress, decided as a PASS in that window with the right of the class held; the read and the write of a
FILL-CHECK are those of a cycle decided so (R10). -/
abbrev State.ProtectedWriteLaw (s : State) : Prop :=
  s.DecisionLaw ∧
  (∀ r ∈ s.mem.procRequests,
    r.requester = .processor .fillRead ∨ r.requester = .processor .fillWrite → s.outcome? = some .fillCheck) ∧
  ∀ r ∈ s.mem.procRequests, r.direction = .write → ∃ w : MatchedWindow, r.window = some w ∧
    (w.terms.cls.internalWriteBarred = true →
      r.requester = .processor .pass ∧ ∃ (c : Cycle) (d : DecisionRecord),
        s.port.cycle = some c ∧ c.kind = .write ∧ s.decision.record = some d ∧ d.outcome = .pass ∧ d.window = w ∧
          d.held = true ∧ d.right = w.terms.cls.writeRight)

/-- R12, R52: an internal WRITE transfer in progress was granted in a window of class OPEN or RECORDS, and in none of
CODE, CALIBRATION or PRIVATE. -/
abbrev State.InternalWriteLaw (s : State) : Prop :=
  ∀ t ∈ s.mem.transfer, t.request.requester.isInternal = true → t.request.direction = .write →
    t.window.terms.cls ∉ [WindowClass.code, .calibration, .priv]

/-! ## The layouts of section 6.5

Written out here from the manual's tables for the statements, apart from the definitions by which the part reads and
writes its messages. A layout lists the fields in order, each as its number of bytes and its value. -/

/-- R149: a number in its bytes, least significant first. -/
def Layout.number (size n : Nat) : List Byte := (List.range size).map fun k => BitVec.ofNat 8 (n / 256 ^ k)

/-- The bytes of a layout. -/
def Layout.bytes (fields : List (Nat × Nat)) : List Byte := fields.flatMap fun f => Layout.number f.1 f.2

def Layout.flag (b : Bool) : Nat := if b then 1 else 0

def Layout.levelCode : Level → Nat
  | .one => 1 | .two => 2 | .three => 3

def Layout.classCode : WindowClass → Nat
  | .opn => 0 | .code => 1 | .calibration => 2 | .records => 3 | .priv => 4

def Layout.widthCode : WindowWidth → Nat
  | .wide16 => 0 | .narrow8 => 1 | .sensed => 2

def Layout.readyCode : ReadyMode → Nat
  | .fixed => 0 | .ready => 1

def Layout.denyCode : DenyResponse → Nat
  | .quiet => 0 | .flag => 1

def Layout.parityCode : ParityMode → Nat
  | .none => 0 | .even => 1 | .odd => 2

def Layout.stopCode : StopBits → Nat
  | .one => 1 | .two => 2

def Layout.polarityCode : LampPolarity → Nat
  | .activeHigh => 0 | .activeLow => 1

/-- A window value from its class on. -/
def Layout.terms (t : WindowTerms) (offset : Nat) : List (Nat × Nat) :=
  [(1, Layout.classCode t.cls), (1, t.deviceSelect.val), (3, offset), (1, Layout.widthCode t.width),
   (1, t.waitStates.val), (1, Layout.readyCode t.readyMode), (1, Layout.denyCode t.denyResponse)]

/-- A window value, 17 bytes; a disabled window is all zeros (R146). -/
def Layout.window : Option Window → List (Nat × Nat)
  | none => [(17, 0)]
  | some w => [(1, 1), (3, w.base.toNat), (4, w.size)] ++ Layout.terms w.terms w.offset.toNat

/-- The default window's value: zeros for enabled, base, size and device offset (R146). -/
def Layout.dflt (t : WindowTerms) : List (Nat × Nat) := (8, 0) :: Layout.terms t 0

/-- A cell definition, 11 bytes; a disabled cell is all zeros (R146). -/
def Layout.cell : Option CellDef → List (Nat × Nat)
  | none => [(11, 0)]
  | some d =>
    [(1, 1), (1, match d.width with | .w16 => 16 | .w32 => 32), (3, d.address.toNat)] ++
      (match d.mode with
       | .monotonic => [(1, 0), (5, 0)]
       | .rate rate cap => [(1, 1), (3, rate), (2, cap)])

/-- A settings record, 14 bytes. -/
def Layout.settings (v : Settings) : List (Nat × Nat) :=
  [(1, v.nodeAddress.toNat), (2, v.divisor), (1, Layout.parityCode v.parityMode), (1, Layout.stopCode v.stopBits),
   (1, v.alertThreshold), (1, v.lockdownThreshold), (2, v.decayInterval), (2, v.readyLimit), (1, v.holdLimit),
   (1, Layout.flag v.parityCheck), (1, Layout.polarityCode v.polarity)]

/-- An entry of LIST GRANTS, 21 bytes: state, tool id, level, rights, scope, lifetime, allowance, survive-ignition, write
tally, challenge age, opened-at. -/
def Layout.slot (x : Slot) : List (Nat × Nat) :=
  let terms (g : Grant) : List (Nat × Nat) :=
    [(4, g.toolId.toNat), (1, Layout.levelCode g.level), (1, g.rights.toNat), (2, g.scope.toNat), (2, g.lifetime),
     (2, g.allowance.getD 0), (1, Layout.flag g.survive)]
  match x with
  | .free => [(21, 0)]
  | .challenged g _ age => (1, 1) :: terms g ++ [(2, 0), (1, age), (4, 0)]
  | .opened g tally openedAt => (1, 2) :: terms g ++ [(2, tally), (1, 0), (4, openedAt.toNat)]

/-- The kind codes of the log record, and the severities NOTE 1, WARN 2, ALARM 3 of R151. -/
def Layout.kindCode : RecordKind → Nat × Nat
  | .grantOpened => (0x01, 1) | .grantClosed => (0x02, 1) | .configApplied => (0x03, 1) | .logReleased => (0x04, 1)
  | .writeDenied => (0x10, 2) | .fetchDenied => (0x11, 2) | .readDenied => (0x12, 2) | .grantRefused => (0x13, 2)
  | .counterClamped => (0x14, 2) | .counterRefused => (0x15, 2) | .counterSet => (0x16, 2) | .halfTorn => (0x17, 2)
  | .deviceTimeout => (0x18, 2) | .parityError => (0x19, 2)
  | .counterRegressed => (0x20, 3) | .lockdown => (0x21, 3) | .unlock => (0x22, 3) | .evidenceLost => (0x23, 3)

/-- The key byte; 0xFF where the kind has none. -/
def Layout.keyCode : Option RecordKey → Nat
  | none => 255
  | some (.window (.numbered n)) => n.val
  | some (.window .dflt) => 8
  | some (.cell n) => n.val
  | some (.slot n) => n.val
  | some (.device n) => n.val

/-- The reason codes 1 to 23 in the order of the table; the level for GRANT-OPENED, and for COUNTER-SET the slot charged,
0xFF where none was (R152). -/
def Layout.reasonCode (kind : RecordKind) : Option Reason → Nat
  | none => if kind = .counterSet then 255 else 0
  | some .parity => 1 | some .kind => 2 | some .read => 3 | some .write => 4 | some .noFetch => 5
  | some .program => 6 | some .calibrate => 7 | some .clear => 8 | some .priv => 9
  | some .denial => 10 | some .proof => 11 | some .refusal => 12 | some .regression => 13 | some .badProof => 14
  | some .closed => 15 | some .expired => 16 | some .ignition => 17 | some .lockdown => 18 | some .exhausted => 19
  | some .decrease => 20 | some .partialLanes => 21 | some .busReset => 22 | some .apply => 23
  | some (.level l) => Layout.levelCode l
  | some (.charged n) => n.val

/-- A log record as read out, 25 bytes. -/
def Layout.record (r : LogRecord) : List (Nat × Nat) :=
  [(4, r.sequence), (4, r.seconds.toNat), (1, (Layout.kindCode r.report.kind).1), (1, (Layout.kindCode r.report.kind).2),
   (1, Layout.keyCode r.report.key), (1, Layout.reasonCode r.report.kind r.report.reason),
   (3, (r.report.address.getD 0).toNat), (2, r.repeats), (4, (r.report.valueA.getD 0).toNat),
   (4, (r.report.valueB.getD 0).toNat)]

/-- A cell's state in READ CELL, 20 bytes: cell state, operation, S, C, F, pending half, value and age, repair-needed,
ignition-off due. A READING cell reports SCAN-READ, NEW-READ or none (R103). -/
def Layout.cellState (c : Cell) : List (Nat × Nat) :=
  match c.defn, c.live with
  | none, _ => [(20, 0)]
  | some _, none =>
    [(1, 1), (1, match c.op with | some .scanRead => 1 | some (.newRead _) => 2 | _ => 0), (18, 0)]
  | some _, some v =>
    [(1, 2),
     (1, match c.op with
       | none => 0 | some .scanRead => 1 | some (.newRead _) => 2 | some .correction => 3 | some .restore => 4
       | some (.evaluation _ _ _) => 5),
     (4, v.shadow), (4, v.credit), (4, v.floor)] ++
      (match v.half with
       | none => [(4, 0)]
       | some p => [(1, match p.half with | .low => 1 | .high => 2), (2, p.value.toNat), (1, p.age)]) ++
      [(1, Layout.flag v.repair), (1, Layout.flag v.due)]

/-! ## Terms of the statements -/

/-- The GRANT-CLOSED records of the OPEN slots whose grant meets a test, in slot order (R122). -/
def GrantTable.closeReports (reason : Reason) (ends : Grant → Bool) (g : GrantTable) : List Report :=
  slotOrder.filterMap fun i =>
    match g.slots[i] with
    | .opened gr tally _ =>
      if ends gr then
        some
          { kind := .grantClosed, key := some (.slot i), reason := some reason, address := none
            valueA := some gr.toolId, valueB := some (BitVec.ofNat 32 tally) }
      else none
    | _ => none

/-- The records reach the log one after the other. -/
def State.takeRecords (rs : List Report) (s : State) : State := rs.foldl (fun u r => u.takeRecord r) s

/-- A law that every step keeps, from every state that meets it. -/
abbrev Kept (law : State → Prop) : Prop := ∀ s t : State, law s → step s = .next t → law t

/-- R139: a complete message with this command and payload waits to be handed over, and its check is right. -/
abbrev State.Message (s : State) (code : Byte) (p : List Byte) : Prop :=
  ∃ m : MessageBuffer, s.message = some m ∧ m.command = some code ∧ m.payload = p ∧ m.sumIsZero = true

/-- R2, R47: the processor cycle has completed with this read data, and the decision record is discarded. -/
def State.completed (data : Option Word) (s : State) : State :=
  { s with
    port := { s.port with state := .idle, cycle := none, completion := some { data := data } }
    decision := { s.decision with record := none } }

/-- R1, R47: the port has taken a cycle and the decision unit has decided it. -/
def State.decided (c : Cycle) (s : State) : State :=
  { s with
    port := { s.port with state := .active, cycle := some c, completion := none }
    decision := { s.decision with record := some (s.decisionOf c) } }

/-- R3: the 28 lines that the parity check counts: the two kind lines, the two lane lines, the parity line and the 23
word-address lines. -/
def countedLines (l : CycleLines) : List Bool :=
  [l.kindA, l.kindB, l.laneLow, l.laneHigh, l.parity] ++ (List.range 23).map l.address.getLsbD

/-- R3, section 1.1: a cycle that passes the three checks, an enabled parity check with an odd number of asserted lines,
with the kind its two kind lines encode and the lanes its two lane lines enable. -/
abbrev State.PassesChecks (s : State) (l : CycleLines) (c : Cycle) : Prop :=
  (s.table.settings.parityCheck = true → (countedLines l).count true % 2 = 1) ∧
    (l.kindA, l.kindB, c.kind) ∈ [(true, false, Kind.fetch), (false, true, .read), (true, true, .write)] ∧
    (l.laneLow, l.laneHigh, c.lanes) ∈ [(true, false, Lanes.low), (false, true, .high), (true, true, .both)] ∧
    c.address = l.address ∧ c.data = l.data

end Sys2Proof.Machine
end

