-- ==== Sys2Proof/WellFormed.lean ====
section
/-! DEFINITION. The operands a command may carry: the record of LOG_RECORD has the shape R152 gives its kind. Every
other command's operands are in range by their types. -/

namespace Sys2Proof

/-- R152, column Key. -/
def RecordKind.keyFits (k : RecordKind) (key : Option RecordKey) : Bool :=
  match k, key with
  | .grantOpened, some (.slot _) | .grantClosed, some (.slot _) | .logReleased, some (.slot _)
  | .grantRefused, some (.slot _) | .unlock, some (.slot _) => true
  | .configApplied, none | .configApplied, some (.slot _) => true
  | .writeDenied, some (.window _) | .fetchDenied, some (.window _) | .readDenied, some (.window _) => true
  | .counterClamped, some (.cell _) | .counterRefused, some (.cell _) | .counterSet, some (.cell _)
  | .halfTorn, some (.cell _) | .counterRegressed, some (.cell _) => true
  | .deviceTimeout, some (.device _) => true
  | .parityError, none | .lockdown, none | .evidenceLost, none => true
  | _, _ => false

/-- R152, column Reason. -/
def RecordKind.reasonFits (k : RecordKind) (reason : Option Reason) : Bool :=
  match k, reason with
  | .grantOpened, some (.level _) => true
  | .grantClosed, some r => r ∈ [Reason.closed, .expired, .ignition, .lockdown, .exhausted]
  | .writeDenied, some r | .fetchDenied, some r | .readDenied, some r =>
    r ∈ [Reason.noFetch, .program, .calibrate, .clear, .priv]
  | .grantRefused, some r => r == .badProof
  | .counterRefused, some r => r ∈ [Reason.decrease, .partialLanes]
  | .counterSet, none | .counterSet, some (.charged _) => true
  | .halfTorn, some r => r ∈ [Reason.busReset, .apply]
  | .deviceTimeout, some r => r ∈ [Reason.read, .write]
  | .parityError, some r => r ∈ [Reason.parity, .kind]
  | .lockdown, some r => r ∈ [Reason.denial, .proof, .refusal, .regression]
  | .configApplied, none | .logReleased, none | .counterClamped, none | .counterRegressed, none | .unlock, none
  | .evidenceLost, none => true
  | _, _ => false

/-- R152, column Address: whether records of a kind hold an address. -/
def RecordKind.hasAddress : RecordKind → Bool
  | .writeDenied | .fetchDenied | .readDenied | .counterClamped | .counterRefused | .counterSet | .halfTorn
  | .deviceTimeout | .parityError | .counterRegressed => true
  | .grantOpened | .grantClosed | .configApplied | .logReleased | .grantRefused | .lockdown | .unlock
  | .evidenceLost => false

/-- R152, column Value A: whether records of a kind hold a value A. -/
def RecordKind.hasValueA : RecordKind → Bool
  | .fetchDenied | .readDenied | .deviceTimeout | .parityError => false
  | .grantOpened | .grantClosed | .configApplied | .logReleased | .writeDenied | .grantRefused | .counterClamped
  | .counterRefused | .counterSet | .halfTorn | .counterRegressed | .lockdown | .unlock | .evidenceLost => true

/-- R152, column Value B: whether records of a kind hold a value B; COUNTER-REFUSED does for DECREASE only. -/
def RecordKind.hasValueB (k : RecordKind) (reason : Option Reason) : Bool :=
  match k with
  | .grantOpened | .grantClosed | .logReleased | .grantRefused | .counterClamped | .counterSet | .counterRegressed
  | .lockdown | .unlock => true
  | .counterRefused => reason == some .decrease
  | .configApplied | .writeDenied | .fetchDenied | .readDenied | .halfTorn | .deviceTimeout | .parityError
  | .evidenceLost => false

/-- R152: a report has the fields of its kind and no others. -/
def Report.fits (r : Report) : Bool :=
  r.kind.keyFits r.key && r.kind.reasonFits r.reason && r.address.isSome == r.kind.hasAddress &&
    r.valueA.isSome == r.kind.hasValueA && r.valueB.isSome == r.kind.hasValueB r.reason

/-- The kinds that only the audit log itself makes (R161, R164): no other block reports them. -/
def RecordKind.fromTheLog : RecordKind → Bool
  | .logReleased | .evidenceLost => true
  | _ => false

/-- A command whose operands another block or the outside world can give. -/
def Instr.wellFormed : Instr → Bool
  | .logRecord r => r.fits && !r.kind.fromTheLog
  | _ => true

end Sys2Proof
end

