-- ==== Sys2Proof/Certificates/Slice0/Obligations.lean ====
section
/-! DEFINITION. The statements about the part, from the numbered rules of the manual. In a statement of the form
`exec c s = .next (u.serve wide)` the last call is the arbiter's grant at the end of the command (the model's
reading of R20, log entry 11), said once in `Obligations.ArbiterServesTheFreePort`. -/

open Sys2Proof Sys2Proof.Machine

/-! ## Step, queue and reset -/

/-- A step runs the command at the front of the queue with the queue's rest. -/
def Obligations.StepRunsTheFrontCommand : Prop :=
  ∀ (c : Instr) (rest : List Instr) (s : State),
    step { s with pending := c :: rest } = exec c { s with pending := rest }

/-- With no command waiting one guard-clock period passes: R106's challenge clock, the counts of R180 and R182, the gap
timer of R137 and the transmitter of R133 move. A reply's first frame begins when its lead has passed, a frame with the
framing of the settings at its start, the next one directly after it; after the last one the receiver is LISTENING
(R141), and at a boundary with a divisor made 0 the link goes OFF; that the end of the lead is such a boundary for a
frame received within it is the model's choice (log entry 33), and so is that a tick may bring a new framing before the
APPLY's own reply has all been sent (log entry 37). That an empty queue lets a period pass is the model's choice (log
entry 1); whether a timebase period falls in it is a free value (R167, log entry 22). -/
def Obligations.IdleStepIsOneGuardClockPeriod : Prop :=
  ∀ s : State, s.pending = [] → ∃ t : State,
    step s = .next t ∧
      t = { s with
        guardPeriods := s.guardPeriods + 1, grants := t.grants, out := t.out, link := t.link, time := t.time } ∧
      t.grants = { s.grants with clock := s.grants.clock + 1 } ∧
      t.out = { s.out with alert := s.out.alert.period 64, resetRequest := s.out.resetRequest.period 640000 } ∧
      t.time = (if Config.timebaseFalls s.guardPeriods then s.time.period else s.time) ∧
      (s.link.receiver ≠ .receiving → s.link.receiver ≠ .replying → t.link = s.link) ∧
      (∀ m : MessageBuffer, s.link.receiver = .receiving → s.link.buffer = some m →
        (m.gap + 1 < 640000 ∨ s.link.line.busy = true →
          t.link = { s.link with buffer := some { m with gap := m.gap + 1 } }) ∧
        (640000 ≤ m.gap + 1 → s.link.line.busy = false →
          t.link = { s.link with receiver := .listening, buffer := none })) ∧
      let framing : Framing :=
        { divisor := s.table.settings.divisor, parityMode := s.table.settings.parityMode
          stopBits := s.table.settings.stopBits }
      ∀ (x : Transmission) (waiting : List ReplyFrame),
        s.link.receiver = .replying → s.link.reply = some { transmission := x, waiting := waiting } →
        let goes (y : Transmission) : Prop :=
          t.link = { s.link with reply := some { transmission := y, waiting := waiting } }
        let boundary : Prop :=
          (s.link.offDue = true → t.link = { s.link with receiver := .off, reply := none, offDue := false }) ∧
          (s.link.offDue = false → waiting = [] → t.link = { s.link with receiver := .listening, reply := none }) ∧
          ∀ (f : ReplyFrame) (rest : List ReplyFrame), s.link.offDue = false → waiting = f :: rest →
            t.link = { s.link with
              line := .watching
              reply := some { transmission := .sending f framing 0, waiting := rest } }
        (∀ left : Nat, x = .lead left → if left ≤ 1 then boundary else goes (.lead (left - 1))) ∧
        ∀ (f : ReplyFrame) (fr : Framing) (elapsed : Nat), x = .sending f fr elapsed →
          if 16 * fr.divisor * (f.bits fr).length ≤ elapsed + 1 then boundary else goes (.sending f fr (elapsed + 1))

/-- Every command has a next state, and none touches the queue of waiting commands. -/
def Obligations.EveryCommandHasANextState : Prop :=
  ∀ (c : Instr) (s : State), ∃ t : State, exec c s = .next t ∧ t.pending = s.pending

/-- What power-on reset leaves (R2, R25, R31, R47, R64, R66, R106, R134, R164, R172, R175, R179, R191, R195), and
POWER_ON_RESET (R190, R195): it leaves that, but for the stored items, the strap and its default window width, the
power-on count raised from the stored one and its write in flight, and three things it keeps by the model's choice: the
bus-reset level and the presented cycle, which are the processor's (log entry 7), and the count of guard-clock periods,
the model's own field (log entry 22). Two things it sets by the model's choice: the receiver of the line is watching,
for which the manual gives no state at power-on (log entry 18), and the events issued and not yet taken are cleared (log
entry 9). That the count of an IDLE pulse channel is 0 is the model's choice too: R180 gives it none (log entry 38). The
queue of waiting commands is outside the part and stays. R29: the unprovisioned defaults. What the load brings is the
model's choice until it ends: the live tables, the lockdown state, the failed count, the backoff, the challenge counter
and the mark copy by log entry 8, and the held items, all but the power-on count as never written, by log entry 32. -/
def Obligations.PowerOnReset : Prop :=
  (∀ s : State, s = State.reset →
    let noneStaged : Staged :=
      { windows := #v[none, none, none, none, none, none, none, none], dflt := none
        cells := #v[none, none, none, none, none, none, none, none], settings := none }
    let quiet : Channel := { phase := .idle, count := 0, held := false }
    let dark : Lamp := { pattern := .off, lit := false, driver := .released }
    s.port.state = .closed ∧ s.port.cycle = none ∧ s.decision.record = none ∧ s.decision.score = 0 ∧
      s.decision.decayCount = 0 ∧ s.mem = { transfer := none, place := none, queue := [] } ∧
      s.table.staged = noneStaged ∧ s.table.apply = .idle ∧ s.table.applyingSlot = none ∧
      (∀ i : Fin 4, s.grants.slots[i] = .free) ∧ s.grants.clock = 0 ∧ s.engine = none ∧
      s.link.receiver = .off ∧ s.link.buffer = none ∧ s.link.reply = none ∧
      s.log.records = [] ∧ s.log.nextSeq = 1 ∧ s.log.dropped = 0 ∧ s.log.alarm = false ∧
      s.time =
        { periodCount := 0, seconds := 0, samples := 0, lampSteps := [], guardTicks := [], tableTicks := []
          grantSeconds := 0, decisionSeconds := 0 } ∧
      s.ignition.history = [] ∧ s.ignition.level = false ∧
      s.out.alert = quiet ∧ s.out.resetRequest = quiet ∧ s.out.started = false ∧ s.out.workshopActive = false ∧
      s.out.workshopLamp = dark ∧ s.out.tamperLamp = dark ∧ s.out.ignitionMirror = false ∧
      s.store.queue = [] ∧ s.store.inFlight = some (.powerOnCount 1)) ∧
  (Settings.unprovisioned =
      { nodeAddress := 254, divisor := 104, parityMode := .even, stopBits := .one, alertThreshold := 16
        lockdownThreshold := 64, decayInterval := 60, readyLimit := 4096, holdLimit := 4, parityCheck := true
        polarity := .activeHigh } ∧
    ∀ strap : Bool, WindowTerms.unprovisioned strap =
      { cls := .opn, deviceSelect := 0, width := if strap then .wide16 else .narrow8, waitStates := 15
        readyMode := .fixed, denyResponse := .quiet }) ∧
  Items.blank =
    { provisionedMark := none, serial := none, keys := #v[none, none, none], settings := none
      windows := #v[none, none, none, none, none, none, none, none], dflt := none
      cells := #v[none, none, none, none, none, none, none, none]
      floors := #v[none, none, none, none, none, none, none, none], failedCount := none, lockdownMark := none
      logMark := none, challengeCounter := none, powerOnCount := none } ∧
  ∀ (strap : Bool) (s : State),
    let count : Quad := s.store.stored.powerOnCount.getD 0 + 1
    exec (.powerOnReset strap) s =
      .next { State.reset with
        pending := s.pending
        guardPeriods := s.guardPeriods
        start := { phase := .loading, strap := strap }
        port :=
          { state := .closed, cycle := none, presented := s.port.presented, completion := none
            busReset := s.port.busReset }
        table := { State.reset.table with dflt := .unprovisioned strap }
        store :=
          { stored := s.store.stored, held := { Items.blank with powerOnCount := some count }, queue := []
            inFlight := some (.powerOnCount count) } }

/-- The state right after reset meets every law of Sys2Proof/Safety.lean. -/
def Obligations.ResetMeetsTheLaws : Prop :=
  State.reset.ScoreLaw ∧ State.reset.ProofAccountLaw ∧ State.reset.LockdownLaw ∧ State.reset.GrantTermsLaw ∧
    State.reset.ChargeGrantLaw ∧ State.reset.OutputLaw ∧ State.reset.log.Law ∧ State.reset.store.Law ∧
    State.reset.CellLaw ∧ State.reset.TrafficLaw ∧ State.reset.TableLaw ∧ State.reset.ClockLaw ∧
    State.reset.ProtectedWriteLaw ∧ State.reset.InternalWriteLaw ∧ State.reset.LampLaw

/-! ## The laws every step keeps -/

/-- R64: the violation score stays within 0..255; R119, the law of the proof account: the failed count stays within
0..255 and the backoff within 1024 s; R68, the lockdown law: while the part is in lockdown, every slot that is not FREE
is of level 3. -/
def Obligations.ScoreAndLockdownLawsKept : Prop :=
  Kept fun s => s.ScoreLaw ∧ s.ProofAccountLaw ∧ s.StartUpLaw ∧ s.LockdownLaw

/-- R105, the law of grant terms, with the field ranges of R104. -/
def Obligations.GrantTermsLawKept : Prop := Kept State.GrantTermsLaw

/-- R53: the charge grant of the cycle in progress always names an OPEN slot that holds the right the cycle needed; a
slot that becomes FREE, for any reason, is no charge grant. -/
def Obligations.ChargeGrantLawKept : Prop := Kept State.ChargeGrantLaw

/-- R184, the law of the workshop-active output, and section 9.1: each mirror agrees with its owner. R185 to R189: while
started the lamps show the patterns that the mirrors give at every moment, and not only at a lamp step, lit by the
counter, with their drivers released exactly while the ignition mirror is OFF; before, they are dark. Whether the tamper
lamp of a part that is NORMAL and holds no ALARM record is SLOW or OFF was decided at the last evaluation, by the
threshold that was live then (`LampsAreEvaluated`). -/
def Obligations.OutputLawKept : Prop := (Kept State.OutputLaw) ∧ Kept State.LampLaw

/-- R150, the law of the log; R151: a kind that does not coalesce keeps repeat count 1; R158: the alarm indication;
R191: the write queue holds at most one entry per item, and waits only for a write in flight. -/
def Obligations.LogAndStoreLawsKept : Prop := Kept fun s => s.log.Law ∧ s.store.Law

/-- R73, R74, R91: every cell's state is within its ranges, its credit within its cap and its floor at or below its
shadow. R30, R41, R50: every enabled cell lies in one OPEN or RECORDS window and shares no word with another, and a
PENDING apply has passed its check; R34 to R36: windows, cells and settings are in range, live, staged and in the store;
R66, R168: so are the decay count and the period count. -/
def Obligations.CellLawKept : Prop :=
  Kept State.CellLaw ∧
  ∀ s t : State, s.TrafficLaw → s.TableLaw → s.ClockLaw → step s = .next t → t.TableLaw ∧ t.ClockLaw

/-- R1, R2, R20, R21, R24, R47, R73: the law of the ports: the cycle in progress, the decision record and the
processor-origin work agree with the port state; each operation in flight has its one request, and none waits at a
free port. -/
def Obligations.TrafficLawKept : Prop := Kept State.TrafficLaw

/-! ## Windows, accesses and the arbiter -/

/-- R26: the lowest-numbered enabled window whose range contains the address, otherwise the default window; and two
addresses of one 256-aligned block match the same window where every enabled window is aligned to its size. The range of
a window is the byte addresses from its base up to base plus size, less one. R27: a live match is one against the live
table. -/
def Obligations.MatchIsTheLowestEnabledWindow : Prop :=
  (∀ (w : Window) (a : Addr), w.covers a = true ↔ w.base.toNat ≤ a.toNat ∧ a.toNat < w.base.toNat + w.size) ∧
  (∀ (s : State) (a : Addr), s.matchLive a = matchWindow s.table.windows s.table.dflt a) ∧
  ∀ (windows : Vector (Option Window) 8) (dflt : WindowTerms) (a : Addr),
    (∀ (n : Fin 8) (w : Window), windows[n] = some w → w.covers a = true →
      (∀ (k : Fin 8) (v : Window), k < n → windows[k] = some v → v.covers a = false) →
      matchWindow windows dflt a = { id := .numbered n, base := w.base, offset := w.offset, terms := w.terms }) ∧
    ((∀ (n : Fin 8) (w : Window), windows[n] = some w → w.covers a = false) →
      matchWindow windows dflt a = { id := .dflt, base := 0, offset := 0, terms := dflt }) ∧
    ∀ b : Addr, b.toNat / 256 = a.toNat / 256 →
      (∀ (n : Fin 8) (w : Window), windows[n] = some w → 256 ∣ w.size ∧ 256 ∣ w.base.toNat) →
      matchWindow windows dflt b = matchWindow windows dflt a

/-- R11: the device address of a byte of a numbered window is its byte address minus the window base plus the device
offset; in the default window it is the byte address. R16, R17, R19: a wide device takes one access per word; a narrow
one a byte access per enabled byte, even before odd and the low word's before the high word's. R11, R16, R17: during an
access the part asserts the one device select of the window and drives the device address of the access, the strobe of
the direction and the byte strobes, and in a write the word or, to a narrow device, the byte on the low eight lines;
while the port is free it drives nothing. R12, R16 to R18: the transfer that is granted has the width of its window,
WIDE for WIDE16, NARROW for NARROW8, and for SENSED the level of the wide input as it starts; its accesses are those of
that width, all still to be made, the first with the ready limit of that moment. -/
def Obligations.AccessesOfATransfer : Prop :=
  (∀ (r : Request) (w : MatchedWindow) (wide : Bool) (limit : Nat),
    let width : ResolvedWidth :=
      match w.terms.width, wide with
      | .wide16, _ => .wide
      | .narrow8, _ => .narrow
      | .sensed, true => .wide
      | .sensed, false => .narrow
    r.start w wide limit =
      { request := r, window := w, width := width, ended := [], remaining := r.accesses width w, readyLimit := limit
        timedOut := none, read0 := 0xFFFF, read1 := 0xFFFF, dropped := false }) ∧
  (∀ (n : Fin 8) (w : Window) (dflt : WindowTerms) (a : Addr),
    w.covers a = true → w.offset.toNat + w.size ≤ 16777216 →
    (MatchedWindow.translate { id := .numbered n, base := w.base, offset := w.offset, terms := w.terms } a).toNat =
        a.toNat - w.base.toNat + w.offset.toNat ∧
      MatchedWindow.translate { id := .dflt, base := 0, offset := 0, terms := dflt } a = a) ∧
  (∀ (r : Request) (w : MatchedWindow),
    r.accesses .wide w =
        { second := false, even := decide (r.lanes ≠ .high), odd := decide (r.lanes ≠ .low)
          deviceAddress := w.translate r.address } ::
          (if r.twoWords then
            [{ second := true, even := decide (r.lanes ≠ .high), odd := decide (r.lanes ≠ .low)
               deviceAddress := w.translate (r.address + 2) }]
           else []) ∧
      (r.lanes = .both → r.twoWords = true → r.accesses .narrow w =
        [{ second := false, even := true, odd := false, deviceAddress := w.translate r.address },
         { second := false, even := false, odd := true, deviceAddress := w.translate r.address + 1 },
         { second := true, even := true, odd := false, deviceAddress := w.translate (r.address + 2) },
         { second := true, even := false, odd := true, deviceAddress := w.translate (r.address + 2) + 1 }]) ∧
      (r.twoWords = false → r.accesses .narrow w =
        match r.lanes with
        | .low => [{ second := false, even := true, odd := false, deviceAddress := w.translate r.address }]
        | .high => [{ second := false, even := false, odd := true, deviceAddress := w.translate r.address + 1 }]
        | .both =>
          [{ second := false, even := true, odd := false, deviceAddress := w.translate r.address },
           { second := false, even := false, odd := true, deviceAddress := w.translate r.address + 1 }])) ∧
  ∀ s : State,
    (s.mem.transfer = none → s.memoryPins = none) ∧
    ∀ (t : Transfer) (a : Access) (rest : List Access), s.mem.transfer = some t → t.remaining = a :: rest →
      let word : Word := if a.second then t.request.data1 else t.request.data0
      ∃ p : MemoryPins, s.memoryPins = some p ∧ p.deviceSelect = t.window.terms.deviceSelect ∧
        p.deviceAddress = a.deviceAddress ∧ (p.write = true ↔ t.request.direction = .write) ∧
        (t.width = .wide → p.lowStrobe = a.even ∧ p.highStrobe = a.odd) ∧
        (t.width = .narrow → p.lowStrobe = true ∧ p.highStrobe = false) ∧
        (t.request.direction = .read → p.lowData = none ∧ p.highData = none) ∧
        (t.request.direction = .write → t.width = .wide →
          p.lowData = some (lowByte word) ∧ p.highData = some (highByte word)) ∧
        (t.request.direction = .write → t.width = .narrow →
          p.lowData = some (if a.odd then highByte word else lowByte word))

/-- R12, R20, R21: a busy port grants nothing; a free one is granted to the oldest internal request and to the processor
place only when the internal list is empty; a free port with nothing waiting stays free. A request has the window of its
cycle, and an internal one the live match of its address at that moment. R12: an internal write whose window is CODE,
CALIBRATION or PRIVATE is not made: it leaves the list, its requester is told, and the arbiter goes on with the requests
that wait, those that the requester then makes among them. R20 grants a free port at once and leaves the order of two
requests of one moment open; the model's reading, log entry 11 (deduced), is that in a command a request only joins its
waiting place, an internal one at the end of the list and a processor-origin one in its place, and that the arbiter
grants once, at the end of the command, so that an internal request of the same step goes first: the clauses on `serve`
and on joining rest on it. Being told ends the operation (`OperationsEnd`; R101 for one of a definition that is gone);
that the end of a restore, a correction or an evaluation of an unchanged cell then changes nothing else is the model's
choice (log entry 13). -/
def Obligations.ArbiterServesTheFreePort : Prop :=
  (∀ (wide : Bool) (s : State),
    let window (r : Request) : MatchedWindow := r.window.getD (s.matchLive r.address)
    let barred (r : Request) : Prop :=
      r.direction = .write ∧ (window r).terms.cls ∈ [WindowClass.code, .calibration, .priv]
    (s.mem.transfer ≠ none → s.serve wide = s) ∧
    (s.mem.transfer = none → s.mem.queue = [] → s.mem.place = none → s.serve wide = s) ∧
    (∀ (r : Request) (rest : List Request), s.mem.transfer = none → s.mem.queue = r :: rest → ¬ barred r →
      s.serve wide =
        { s with
          mem :=
            { transfer := some (r.start (window r) wide s.table.settings.readyLimit)
              place := s.mem.place
              queue := rest } }) ∧
    (∀ r : Request, s.mem.transfer = none → s.mem.queue = [] → s.mem.place = some r →
      s.serve wide =
        { s with
          mem := { transfer := some (r.start (window r) wide s.table.settings.readyLimit), place := none, queue := [] } }) ∧
    (∀ (r : Request) (rest : List Request) (n : Fin 8), s.mem.transfer = none → s.mem.queue = r :: rest → barred r →
      r.requester = .internal n →
      s.serve wide =
        State.serve wide
          (State.opEnd n { made := false, timedOut := false, word0 := 0xFFFF, word1 := 0xFFFF }
            { s with mem := { s.mem with queue := rest } }))) ∧
  (∀ (n : Fin 8) (r : TransferResult) (s : State),
    r.made = false → (s.cell n).stale = false → (s.cell n).defn.isSome = true → s.guard.waitingWrite ≠ some n →
    (∀ v, (s.cell n).live = some v → v.due = false) →
    ((s.cell n).op = some .restore ∨ (s.cell n).op = some .correction ∨
      ∃ (o : Origin) (x : Nat) (isSet : Bool), (s.cell n).op = some (.evaluation o x isSet)) →
    s.opEnd n r = s.setOp n none) ∧
  ∀ (r : Request) (s : State),
    s.enqueueInternal r = { s with mem := { s.mem with queue := s.mem.queue ++ [r] } } ∧
      s.enqueueProcessor r = { s with mem := { s.mem with place := some r } }

/-- R1, R2: a cycle presented to a CLOSED or RESET-HELD port waits; where one waits already, the newer one replaces it,
which is the model's choice (log entry 14). R3 to R6: a cycle that fails parity or has the invalid kind completes with
0xFFFF, or absorbed for a WRITE, with a PARITY-ERROR record and one alert cause; one without a lane completes with
neither. None is decided or forwarded. An enabled parity check passes when the number of asserted lines among the two
kind lines, the two lane lines, the parity line and the 23 word-address lines is odd; both kind lines are a WRITE's,
neither the invalid kind; with neither lane line there is no lane (section 1.1). -/
def Obligations.UndecidedCyclesCompleteAtOnce : Prop :=
  ∀ (l : CycleLines) (wide : Bool) (s : State),
    (s.port.state = .closed ∨ s.port.state = .resetHeld →
      exec (.processorCycle l wide) s =
        .next (State.serve wide { s with port := { s.port with presented := some l } })) ∧
    (s.port.state = .idle →
    let lines : List Bool :=
      [l.kindA, l.kindB, l.laneLow, l.laneHigh, l.parity] ++ (List.range 23).map l.address.getLsbD
    let passes : Prop := s.table.settings.parityCheck = false ∨ lines.count true % 2 = 1
    let data : Option Word := if l.kindA = true ∧ l.kindB = true then none else some 0xFFFF
    let told (r : Reason) : State := State.alertCause
      (s.takeRecord
        { kind := .parityError, key := none, reason := some r, address := some (byteAddress l.address)
          valueA := none, valueB := none })
    (¬ passes →
      exec (.processorCycle l wide) s = .next (((told .parity).completed data).releaseReads.serve wide)) ∧
    (passes → l.kindA = false → l.kindB = false →
      exec (.processorCycle l wide) s = .next (((told .kind).completed (some 0xFFFF)).releaseReads.serve wide)) ∧
    (passes → l.kindA = true ∨ l.kindB = true →
      l.laneLow = false → l.laneHigh = false →
      exec (.processorCycle l wide) s = .next ((s.completed data).releaseReads.serve wide)))

/-- R51: a right is held for a window when some slot is OPEN with that window in its scope and that right among
its rights; the grant table names the lowest-numbered such slot. R149: the bits of a scope and of a set of rights. -/
def Obligations.HolderIsTheLowestOpenSlot : Prop :=
  (∀ (g : GrantTable) (r : Right) (w : WindowId),
    let holds (i : Fin 4) : Prop := ∃ (gr : Grant) (tally : Nat) (openedAt : Quad),
      g.slots[i] = .opened gr tally openedAt ∧ gr.inScope w = true ∧ gr.hasRight r = true
    (∀ i : Fin 4, g.holder r w = some i ↔ holds i ∧ ∀ j : Fin 4, j < i → ¬ holds j) ∧
    (g.holder r w = none ↔ ∀ i : Fin 4, ¬ holds i)) ∧
  ∀ gr : Grant,
    (∀ n : Fin 8, gr.inScope (.numbered n) = gr.scope.getLsbD n.val) ∧ gr.inScope .dflt = gr.scope.getLsbD 8 ∧
      gr.hasRight .clear = gr.rights.getLsbD 0 ∧ gr.hasRight .calibrate = gr.rights.getLsbD 1 ∧
      gr.hasRight .program = gr.rights.getLsbD 2 ∧ gr.hasRight .priv = gr.rights.getLsbD 3 ∧
      gr.hasRight .counterSet = gr.rights.getLsbD 4 ∧ gr.hasRight .configure = gr.rights.getLsbD 5

/-- R48, R49, R51, R53: the outcome of a cycle at a word that is no cell word, from the class, the kind and whether the
right needed is held; R50: at a cell word. The held field and the charge grant are those of the lowest-numbered slot
that holds the right needed for the window. R50: a word is a cell word of cell n when cell n is enabled in the live
definitions and the word is the one at its byte address or, for a 32-bit cell, the next; the model names the lowest such
cell, and under the law of the live table, which the check of R41 keeps, there is no other. Section 1.1: the byte
address of a word is twice its word address. -/
def Obligations.ClassTable : Prop :=
  (∀ (c : Cycle) (s : State),
    let d := s.decisionOf c
    d.window = s.matchLive (byteAddress c.address) ∧ d.cell = s.guard.cellAt (byteAddress c.address) ∧
      (d.right = none → d.held = false ∧ d.chargeGrant = none) ∧
      (∀ r : Right, d.right = some r →
        d.held = (s.grants.holder r d.window.id).isSome ∧ d.chargeGrant = s.grants.holder r d.window.id) ∧
      (d.cell = none →
        (c.kind = .fetch → d.right = none ∧
          d.outcome = if d.window.terms.cls = .opn ∨ d.window.terms.cls = .code then .pass else .substitute) ∧
        (c.kind = .read →
          (d.window.terms.cls ≠ .priv → d.outcome = .pass ∧ d.right = none) ∧
          (d.window.terms.cls = .priv → d.right = some .priv ∧ d.outcome = if d.held then .pass else .substitute)) ∧
        (c.kind = .write →
          (d.window.terms.cls = .opn → d.outcome = .pass ∧ d.right = none) ∧
          (d.window.terms.cls = .code → d.right = some .program ∧ d.outcome = if d.held then .pass else .absorb) ∧
          (d.window.terms.cls = .calibration →
            d.right = some .calibrate ∧ d.outcome = if d.held then .pass else .absorb) ∧
          (d.window.terms.cls = .priv → d.right = some .priv ∧ d.outcome = if d.held then .pass else .absorb) ∧
          (d.window.terms.cls = .records →
            d.right = some .clear ∧ d.outcome = .fillCheck ∧ d.fill = some .reading))) ∧
      (d.cell ≠ none →
        (c.kind = .write → d.outcome = .counter ∧ d.right = some .counterSet) ∧
        (c.kind = .read → d.outcome = .counter ∧ d.right = none) ∧
        (c.kind = .fetch → d.right = none ∧
          (d.window.terms.cls = .opn → d.outcome = .counter) ∧
          (d.window.terms.cls = .records → d.outcome = .substitute)))) ∧
  (∀ (a : Addr) (s : State),
    let isWord (n : Fin 8) : Prop :=
      ∃ d : CellDef, (s.cell n).defn = some d ∧ (a = d.address ∨ (d.width = .w32 ∧ a = d.address + 2))
    (∀ n : Fin 8, s.guard.cellAt a = some n ↔ isWord n ∧ ∀ m : Fin 8, m < n → ¬ isWord m) ∧
    (s.guard.cellAt a = none ↔ ∀ n : Fin 8, ¬ isWord n) ∧
    (s.TableLaw → ∀ n : Fin 8, s.guard.cellAt a = some n ↔ isWord n)) ∧
  (∀ (d : CellDef) (a : Addr),
    (a ∈ d.words ↔ a = d.address ∨ (d.width = .w32 ∧ a = d.address + 2)) ∧
      (a ∈ d.byteAddresses ↔ ∃ b ∈ d.words, a = b ∨ a = b + 1)) ∧
  ∀ w : WordAddr, (byteAddress w).toNat = 2 * w.toNat

/-- R8, R10, R54, R58: a PASS requests its transfer and is charged if it is a write; a FILL-CHECK requests its read. The
cycle is one that passes the checks of R3, with the kind and the lanes that its lines encode (section 1.1):
`State.PassesChecks` writes out the 28 lines counted, the kind of each pair of kind lines and the lanes of each pair of
lane lines. -/
def Obligations.PassedCyclesRequestTheirTransfer : Prop :=
  ∀ (l : CycleLines) (c : Cycle) (wide : Bool) (s : State), s.port.state = .idle → s.PassesChecks l c →
    let d := s.decisionOf c
    let request (job : ProcJob) (direction : Direction) : Request :=
      { requester := .processor job, direction := direction, address := byteAddress c.address, twoWords := false
        lanes := c.lanes, data0 := c.data, data1 := 0, window := some d.window }
    (d.outcome = .pass →
      exec (.processorCycle l wide) s =
        .next (State.serve wide
          ((if c.kind = .write then (s.decided c).chargeOpt d.chargeGrant else s.decided c).enqueueProcessor
            (request .pass (if c.kind = .write then .write else .read))))) ∧
    (d.outcome = .fillCheck →
      exec (.processorCycle l wide) s =
        .next (((s.decided c).enqueueProcessor (request .fillRead .read)).serve wide))

/-- R9, R62, R63: a denied cycle completes at once with 0xFFFF or absorbed; its record, an increment of 1 with cause
DENIAL and, in a FLAG window, one alert cause follow in that order. -/
def Obligations.DeniedCyclesCompleteAtOnce : Prop :=
  ∀ (l : CycleLines) (c : Cycle) (wide : Bool) (s : State), s.port.state = .idle → s.PassesChecks l c →
    let d := s.decisionOf c
    d.outcome = .substitute ∨ d.outcome = .absorb →
    let told := ((((s.decided c).completed (if c.kind = .write then none else some 0xFFFF)).releaseReads.takeRecord
      { kind := match c.kind with | .fetch => .fetchDenied | .read => .readDenied | .write => .writeDenied
        key := some (.window d.window.id)
        reason := some (match d.right with
          | none => .noFetch | some .program => .program | some .calibrate => .calibrate | some .clear => .clear
          | some _ => .priv)
        address := some (byteAddress c.address)
        valueA := if c.kind = .write then some (c.data.setWidth 32) else none
        valueB := none }).scoreIncrement 1 .denial)
    exec (.processorCycle l wide) s =
      .next ((if d.window.terms.denyResponse = .flag then told.alertCause else told).serve wide)

/-- R81 to R84, R98: a processor WRITE to a cell word: refused for its lanes; waiting for the operation in flight; or
taken. A write that is taken is absorbed by a READING cell; made the pending half of a 32-bit cell; or evaluated, the
cycle completing at once when nothing is written. -/
def Obligations.CounterWrites : Prop :=
  (∀ (l : CycleLines) (c : Cycle) (wide : Bool) (n : Fin 8) (s : State), s.port.state = .idle → s.PassesChecks l c →
      c.kind = .write → s.guard.cellAt (byteAddress c.address) = some n →
      let s1 := s.decided c
      (c.lanes ≠ .both →
        exec (.processorCycle l wide) s =
          .next ((State.completed none
            (((s1.takeRecord
              { kind := .counterRefused, key := some (.cell n), reason := some .partialLanes
                address := some (byteAddress c.address), valueA := some (c.data.setWidth 32), valueB := none
              }).scoreIncrement 1 .refusal).alertCause)).releaseReads.serve wide)) ∧
      (c.lanes = .both → (s.cell n).op ≠ none →
        exec (.processorCycle l wide) s =
          .next (State.serve wide { s1 with guard := { s1.guard with waitingWrite := some n } })) ∧
      (c.lanes = .both → (s.cell n).op = none →
        exec (.processorCycle l wide) s = .next ((s1.takeWrite n).serve wide))) ∧
  ∀ (n : Fin 8) (c : Cycle) (s : State), s.port.cycle = some c →
    ((s.cell n).live = none → s.takeWrite n = (s.completed none).releaseReads) ∧
    ∀ (d : CellDef) (v : LiveState), (s.cell n).live = some v → (s.cell n).defn = some d →
      let h : Half := if byteAddress c.address = d.address then .low else .high
      let answer (u : State) : State := if (u.cell n).op = none then (u.completed none).releaseReads else u
      (d.width = .w16 → s.takeWrite n = answer (s.evaluate n .processor c.data.toNat)) ∧
      (d.width = .w32 → (∀ p, v.half = some p → p.half = h) →
        s.takeWrite n =
          ((s.setCell n { s.cell n with
            live := some { v with half := some { half := h, value := c.data, age := 0 } } }).completed none).releaseReads) ∧
      (∀ p : PendingHalf, d.width = .w32 → v.half = some p → p.half ≠ h →
        s.takeWrite n =
          answer (s.evaluate n .processor
            (match h with
             | .low => c.data.toNat + 65536 * p.value.toNat
             | .high => p.value.toNat + 65536 * c.data.toNat)))

/-- R50, R85: a READ of a cell word, or a FETCH of one in an OPEN window. Where the word is the half of a LIVE 32-bit
cell that is pending, it is answered at once from the pending value, its byte on an enabled lane and 0xFF on the other;
otherwise by a read of the word under the window of its decision. -/
def Obligations.CounterReads : Prop :=
  ∀ (l : CycleLines) (c : Cycle) (wide : Bool) (n : Fin 8) (s : State), s.port.state = .idle → s.PassesChecks l c →
    s.guard.cellAt (byteAddress c.address) = some n →
    let w := s.matchLive (byteAddress c.address)
    let pending (v : Word) : Prop := ∃ (d : CellDef) (x : LiveState) (p : PendingHalf),
      (s.cell n).defn = some d ∧ (s.cell n).live = some x ∧ x.half = some p ∧ p.value = v ∧ d.width = .w32 ∧
        ((p.half = .low ∧ byteAddress c.address = d.address) ∨
          (p.half = .high ∧ byteAddress c.address = d.address + 2))
    c.kind = .read ∨ (c.kind = .fetch ∧ w.terms.cls = .opn) →
    (∀ v : Word, pending v →
      let data : Word :=
        match c.lanes with | .both => v | .low => 0xFF#8 ++ lowByte v | .high => highByte v ++ 0xFF#8
      exec (.processorCycle l wide) s = .next (((s.decided c).completed (some data)).releaseReads.serve wide)) ∧
    ((∀ v : Word, ¬ pending v) →
      exec (.processorCycle l wide) s =
        .next (((s.decided c).enqueueProcessor
          { requester := .processor .cellRead, direction := .read, address := byteAddress c.address, twoWords := false
            lanes := c.lanes, data0 := 0, data1 := 0, window := some w }).serve wide))

/-- R52, the law of the protected classes, as an invariant that every step keeps: a processor-origin write at the memory
port for a window of class CODE, CALIBRATION or PRIVATE is that of the cycle in progress, whose decision record passed
it in that window with the right of the class held. And that right was held as the cycle began: where PROCESSOR_CYCLE
brings such a write to an IDLE port, an OPEN grant has the window in its scope and the matching right. The word is no
cell word, which R50 keeps out of these classes. R12, R52: nor does the part itself write there: an internal WRITE
transfer in progress was granted in a window of none of these classes. -/
def Obligations.ProtectedWriteNeedsItsRight : Prop :=
  (∀ s t : State, s.TrafficLaw → s.TableLaw → s.ProtectedWriteLaw → step s = .next t → t.ProtectedWriteLaw) ∧
  (∀ s t : State, s.TrafficLaw → s.InternalWriteLaw → step s = .next t → t.InternalWriteLaw) ∧
  (∀ cls : WindowClass, (cls.internalWriteBarred = true ↔ cls ∈ [WindowClass.code, .calibration, .priv]) ∧
    WindowClass.code.writeRight = some .program ∧ WindowClass.calibration.writeRight = some .calibrate ∧
    WindowClass.priv.writeRight = some .priv) ∧
  ∀ (l : CycleLines) (wide : Bool) (s t : State) (r : Request) (w : MatchedWindow),
    s.port.state = .idle → s.PortServed → s.guard.cellAt (byteAddress l.address) = none →
    exec (.processorCycle l wide) s = .next t →
    r ∈ (t.mem.transfer.map Transfer.request).toList ++ t.mem.place.toList →
    r ∉ (s.mem.transfer.map Transfer.request).toList ++ s.mem.place.toList →
    r.requester.isInternal = false → r.direction = .write → r.window = some w →
    w.terms.cls ∈ [WindowClass.code, .calibration, .priv] →
    w = s.matchLive (byteAddress l.address) ∧
      ∃ (i : Fin 4) (g : Grant) (tally : Nat) (openedAt : Quad), s.grants.slots[i] = .opened g tally openedAt ∧
        g.inScope w.id = true ∧
        (w.terms.cls = .code → g.hasRight .program = true) ∧
        (w.terms.cls = .calibration → g.hasRight .calibrate = true) ∧
        (w.terms.cls = .priv → g.hasRight .priv = true)

/-! ## The ends of accesses and transfers -/

/-- What the end of a transfer's last access does. R15: where any access of the transfer timed out, one DEVICE-TIMEOUT
record with the device address of the first that did, one alert cause, and read data of 0xFF. Then, for a PASS (R8): the
cycle completes with the bytes read or with nothing for a write; for the write of a FILL-CHECK (R10, R59): it completes;
for the read of one (R10, R59): the write is judged, with the timed-out field and the word read (`FillCheckIsJudged`);
for a dropped transfer (R23, R97): the result is discarded, and the new reads that waited for it are requested; for an
internal transfer or a cell's processor write: the operation has its result (`OperationsEnd`), and R83, R85: that
write's cycle, and a read of a cell word, complete with it, or, where the cycle was abandoned, the port leaves
RESET-HELD as at the deassertion of bus reset (R24, `BusResetDeasserts`); that the operation's end, with the settling of
a due mark, comes before that is the model's choice (log entry 35). R13, R14, R46: after an access that is not the
transfer's last, the next starts at once with the live ready limit, and nothing else changes. R13: a FIXED access does
not time out, whether it is the transfer's last or not, and R14: a READY one whose limit comes before its base duration
of 2 periods plus the wait states does not end normally; that ACCESS_TIMEOUT and ACCESS_END then change nothing, and
that with no transfer in progress they are the arbiter's moment only, is the model's choice (log entries 3 and 26). -/
def Obligations.AccessesAndTransfersEnd : Prop :=
  (∀ (wide : Bool) (s : State) (t : Transfer) (a : Access), s.mem.transfer = some t → t.remaining = [a] →
      let settles (c : Instr) (timed : Option Addr) (w0 w1 : Word) : Prop :=
        let free : State := { s with mem := { s.mem with transfer := none } }
        let told : State :=
          match timed with
          | none => free
          | some at_ =>
            (free.takeRecord
              { kind := .deviceTimeout, key := some (.device t.window.terms.deviceSelect)
                reason := some (match t.request.direction with | .read => .read | .write => .write)
                address := some at_, valueA := none, valueB := none }).alertCause
        let result : TransferResult := { made := true, timedOut := timed.isSome, word0 := w0, word1 := w1 }
        let settled (u : State) (data : Option Word) : Prop :=
          (s.port.state = .active → exec c s = .next ((u.completed data).releaseReads.serve wide)) ∧
          (s.port.state = .resetHeld → s.port.busReset = true → exec c s = .next (u.serve wide)) ∧
          (s.port.state = .resetHeld → s.port.busReset = false → exec c s = exec (.busResetDeassert wide) u)
        (t.request.requester = .processor .pass → t.dropped = false →
          exec c s =
            .next ((told.completed (match t.request.direction with | .read => some w0 | .write => none)).releaseReads.serve
              wide)) ∧
        (t.request.requester = .processor .fillWrite → t.dropped = false →
          exec c s = .next ((told.completed none).releaseReads.serve wide)) ∧
        (t.request.requester = .processor .fillRead → t.dropped = false →
          exec c s = .next ((told.judgeFill timed.isSome w0).serve wide)) ∧
        (t.request.requester ∈ [.processor .pass, .processor .fillRead, .processor .fillWrite] →
          t.dropped = true → exec c s = .next (told.releaseAbandoned.serve wide)) ∧
        (∀ n : Fin 8, t.request.requester = .internal n → exec c s = .next ((told.opEnd n result).serve wide)) ∧
        (t.request.requester = .processor .cellRead → settled told (some w0)) ∧
        ∀ n : Fin 8, t.request.requester = .processor (.cellWrite n) → s.guard.waitingWrite = none →
          settled (told.opEnd n result) none
      (∀ data : Word, t.window.terms.readyMode = .fixed ∨ 2 + t.window.terms.waitStates.val ≤ t.readyLimit →
        settles (.accessEnd data wide) t.timedOut (if t.timedOut = none then (t.gather a data).read0 else 0xFFFF)
          (if t.timedOut = none then (t.gather a data).read1 else 0xFFFF)) ∧
      (t.window.terms.readyMode = .ready →
        settles (.accessTimeout wide) (some (t.timedOut.getD a.deviceAddress)) 0xFFFF 0xFFFF)) ∧
  (∀ (wide : Bool) (s : State) (t : Transfer) (a b : Access) (rest : List Access),
      s.mem.transfer = some t → t.remaining = a :: b :: rest →
      (∀ data : Word, t.window.terms.readyMode = .fixed ∨ 2 + t.window.terms.waitStates.val ≤ t.readyLimit →
        exec (.accessEnd data wide) s =
          .next { s with
            mem := { s.mem with
              transfer := some { t.gather a data with
                ended := t.ended ++ [a], remaining := b :: rest, readyLimit := s.table.settings.readyLimit } } }) ∧
      (t.window.terms.readyMode = .ready →
        exec (.accessTimeout wide) s =
          .next { s with
            mem := { s.mem with
              transfer := some { t with
                ended := t.ended ++ [a], remaining := b :: rest, readyLimit := s.table.settings.readyLimit
                timedOut := some (t.timedOut.getD a.deviceAddress) } } })) ∧
  ∀ (wide : Bool) (s : State),
    (s.mem.transfer = none →
      (∀ data : Word, exec (.accessEnd data wide) s = .next (s.serve wide)) ∧
        exec (.accessTimeout wide) s = .next (s.serve wide)) ∧
    ∀ t : Transfer, s.mem.transfer = some t →
      (t.window.terms.readyMode = .fixed → exec (.accessTimeout wide) s = .next s) ∧
      (t.window.terms.readyMode = .ready → t.readyLimit < 2 + t.window.terms.waitStates.val →
        ∀ data : Word, exec (.accessEnd data wide) s = .next s)

/-- R8, R16, R17: the word a PASS read returns: a wide device's bytes, and a narrow device's one after the other, on the
enabled lanes, and 0xFF on a lane not enabled. What a READ gathers at the normal end of an access, of any transfer: the
even byte from the low data lines, the odd one from the high lines of a wide device and the low lines of a narrow one;
the bytes of the access change, in the word it belongs to, and no other. A word is its odd, high byte and its even, low
one. -/
def Obligations.ReadDataIsAssembledPerLane : Prop :=
  (∀ (wide : Bool) (s : State) (r : Request) (w : MatchedWindow) (limit : Nat),
    s.mem.transfer = some (r.start w wide limit) → s.mem.queue = [] → s.mem.place = none →
    (∀ n : Fin 8, (s.cell n).op ≠ some (.newRead .forCycle)) → r.requester = .processor .pass → r.direction = .read →
    r.twoWords = false → w.terms.readyMode = .fixed →
    let isWide : Prop := w.terms.width = .wide16 ∨ (w.terms.width = .sensed ∧ wide = true)
    (∀ data : Word, isWide →
      let word : Word :=
        match r.lanes with | .both => data | .low => 0xFF#8 ++ lowByte data | .high => highByte data ++ 0xFF#8
      ∃ t : State, exec (.accessEnd data wide) s = .next t ∧ t.port.state = .idle ∧
        t.port.completion = some { data := some word }) ∧
    (∀ data : Word, ¬ isWide → r.lanes = .low →
      ∃ t : State, exec (.accessEnd data wide) s = .next t ∧
        t.port.completion = some { data := some (0xFF#8 ++ lowByte data) }) ∧
    (∀ data : Word, ¬ isWide → r.lanes = .high →
      ∃ t : State, exec (.accessEnd data wide) s = .next t ∧
        t.port.completion = some { data := some (lowByte data ++ 0xFF#8) }) ∧
    (∀ d0 d1 : Word, ¬ isWide → r.lanes = .both →
      ∃ u t : State, exec (.accessEnd d0 wide) s = .next u ∧ u.port = s.port ∧ exec (.accessEnd d1 wide) u = .next t ∧
        t.port.completion = some { data := some (lowByte d1 ++ lowByte d0) })) ∧
  (∀ (t : Transfer) (a : Access) (data : Word),
    let taken (old : Word) : Word :=
      (if a.odd = false then highByte old else match t.width with | .wide => highByte data | .narrow => lowByte data) ++
        (if a.even = false then lowByte old else lowByte data)
    (t.request.direction = .write → t.gather a data = t) ∧
    (t.request.direction = .read → a.second = false → t.gather a data = { t with read0 := taken t.read0 }) ∧
    (t.request.direction = .read → a.second = true → t.gather a data = { t with read1 := taken t.read1 })) ∧
  ∀ w : Word, highByte w ++ lowByte w = w

/-- R59, R60: the fill check is judged as its read ends. Where any access of the read timed out, the write is dropped
and the cycle completes, absorbed, with no test, charge, record or score of the decision unit's: the one DEVICE-TIMEOUT
record, with the device address of the first access that timed out, and the one alert cause are the memory port's (R15).
Otherwise a fill, every written lane of which holds 0xFF, is written uncharged; an overwrite with CLEAR held is written
and charged; and one without is denied with reason CLEAR. The write is one of the cycle's byte address, lanes and data
under its window. -/
def Obligations.FillCheckIsJudged : Prop :=
  ∀ (c : Cycle) (d : DecisionRecord), c.kind = .write →
    let judges (s : State) (timed : Bool) (word : Word) (goes : State → Prop) : Prop :=
      let judged : State := { s with decision := { s.decision with record := some { d with fill := some .judged } } }
      let isErased : Prop := (c.lanes ≠ .high → lowByte word = 0xFF) ∧ (c.lanes ≠ .low → highByte word = 0xFF)
      let written : State := { judged with
        mem := { judged.mem with
          place := some
            { requester := .processor .fillWrite, direction := .write, address := byteAddress c.address
              twoWords := false, lanes := c.lanes, data0 := c.data, data1 := 0, window := some d.window } } }
      let denied : State := State.scoreIncrement 1 .denial
        ((s.completed none).releaseReads.takeRecord
          { kind := .writeDenied, key := some (.window d.window.id), reason := some .clear
            address := some (byteAddress c.address), valueA := some (c.data.setWidth 32), valueB := none })
      (timed = true → goes (s.completed none).releaseReads) ∧
      (timed = false → isErased → goes written) ∧
      (timed = false → ¬ isErased → d.held = true → goes (written.chargeOpt d.chargeGrant)) ∧
      (timed = false → ¬ isErased → d.held = false → d.right = some .clear →
        goes (if d.window.terms.denyResponse = .flag then denied.alertCause else denied))
    (∀ (timed : Bool) (word : Word) (s : State), s.port.cycle = some c → s.decision.record = some d →
      judges s timed word fun u => s.judgeFill timed word = u) ∧
    ∀ (wide : Bool) (s : State) (t : Transfer) (a : Access),
      s.mem.transfer = some t → t.request.requester = .processor .fillRead → t.dropped = false →
      t.request.direction = .read → t.remaining = [a] → s.port.cycle = some c → s.decision.record = some d →
      let free : State := { s with mem := { s.mem with transfer := none } }
      let told (address : Addr) : State := State.alertCause
        (free.takeRecord
          { kind := .deviceTimeout, key := some (.device t.window.terms.deviceSelect), reason := some .read
            address := some address, valueA := none, valueB := none })
      (∀ data : Word, t.window.terms.readyMode = .fixed ∨ 2 + t.window.terms.waitStates.val ≤ t.readyLimit →
        let goes (u : State) : Prop := exec (.accessEnd data wide) s = .next (u.serve wide)
        (t.timedOut = none → judges free false (t.gather a data).read0 goes) ∧
        ∀ x : Addr, t.timedOut = some x → judges (told x) true 0xFFFF goes) ∧
      (t.window.terms.readyMode = .ready →
        judges (told (t.timedOut.getD a.deviceAddress)) true 0xFFFF fun u =>
          exec (.accessTimeout wide) s = .next (u.serve wide))

/-! ## Bus reset -/

/-- R22, R23, R24, R92, R93: bus reset asserts. A cycle in progress is abandoned without completion, its waiting write
is removed, a PASS or FILL-CHECK transfer is cut after the access in progress and a waiting request of one is removed;
requests and transfers of the counter guard, and the internal list, stay; a cycle presented to the port waits (R24);
grants, score, table, link and clocks are untouched. R93: the definitions and states of the cells stay, with their
loaded floors and operations: a LIVE cell loses its pending half alone, a READING one changes in nothing but what its
new read waits for. R97: a new read that waited for the abandoned cycle waits for its transfer, or is requested, in cell
order, where none is at the memory port; a transfer that an earlier bus reset dropped is not its own. R92, R93, R152:
every pending half is discarded, with one HALF-TORN record for each, in cell order, of the word of the half, the reason
BUS-RESET and the value; nothing else reaches the log. R92, R97, R100: the tearing of one half. -/
def Obligations.BusResetAsserts : Prop :=
  (∀ (wide : Bool) (s : State), ∃ u : State, exec (.busResetAssert wide) s = .next (u.serve wide) ∧
      u = { s with
        port := u.port, decision := u.decision, guard := u.guard, mem := u.mem, log := u.log, out := u.out
        store := u.store } ∧
      u.port = { s.port with
        busReset := true, state := if s.port.state = .closed then .closed else .resetHeld
        cycle := u.port.cycle, completion := u.port.completion } ∧
      u.decision = { s.decision with record := u.decision.record } ∧
      (∀ n : Fin 8,
        u.cell n = { s.cell n with live := (u.cell n).live, op := (u.cell n).op } ∧
          ((s.cell n).defn = none ∨ (s.cell n).live = none → (u.cell n).live = (s.cell n).live) ∧
          ((s.cell n).op ≠ some (.newRead .forCycle) → (u.cell n).op = (s.cell n).op)) ∧
      (s.port.state ≠ .active →
        u.mem = s.mem ∧ u.port.cycle = s.port.cycle ∧ u.port.completion = s.port.completion ∧
          u.decision = s.decision ∧ u.guard.waitingWrite = s.guard.waitingWrite ∧
          ∀ n : Fin 8, (u.cell n).op = (s.cell n).op) ∧
      (s.port.state = .active →
        let cut (q : Requester) : Prop := q ∈ [.processor .pass, .processor .fillRead, .processor .fillWrite]
        let remains : Prop :=
          ∃ t, s.mem.transfer = some t ∧ cut t.request.requester ∧ t.dropped = false
        let waits (n : Fin 8) : Prop := (s.cell n).op = some (.newRead .forCycle) ∧ (s.cell n).defn.isSome = true
        u.port.cycle = none ∧ u.port.completion = none ∧ u.decision.record = none ∧ u.guard.waitingWrite = none ∧
          (∀ r, u.mem.place = some r ↔ s.mem.place = some r ∧ ¬ cut r.requester) ∧
          (remains → u.mem.queue = s.mem.queue ∧
            ∀ n : Fin 8, waits n → (u.cell n).op = some (.newRead .forTransfer)) ∧
          (¬ remains →
            u.mem.queue = s.mem.queue ++ (octOrder.filterMap fun n =>
                match (s.cell n).defn, (s.cell n).op with
                | some d, some (.newRead .forCycle) =>
                  some
                    { requester := .internal n, direction := .read, address := d.address
                      twoWords := decide (d.width = .w32), lanes := .both, data0 := 0, data1 := 0, window := none }
                | _, _ => none) ∧
              ∀ n : Fin 8, waits n → (u.cell n).op = some (.newRead .requested)) ∧
          (s.mem.transfer = none → u.mem.transfer = none) ∧
          (∀ t, s.mem.transfer = some t → cut t.request.requester →
            u.mem.transfer = some { t with remaining := t.remaining.take 1, dropped := true }) ∧
          (∀ t, s.mem.transfer = some t → ¬ cut t.request.requester → u.mem.transfer = some t)) ∧
      (∀ (n : Fin 8) (v : LiveState), (s.cell n).defn.isSome = true → (s.cell n).live = some v →
        (u.cell n).live = some { v with half := none }) ∧
      let torn : State := s.takeRecords (octOrder.filterMap fun n =>
        match (s.cell n).defn, (s.cell n).live.bind LiveState.half with
        | some d, some p =>
          some
            { kind := .halfTorn, key := some (.cell n), reason := some .busReset
              address := some (match p.half with | .low => d.address | .high => d.address + 2)
              valueA := some (p.value.setWidth 32), valueB := none }
        | _, _ => none)
      u.log = torn.log ∧ u.out = torn.out ∧ u.store = torn.store) ∧
  (∀ (n : Fin 8) (d : CellDef) (reason : Reason) (v : LiveState) (p : PendingHalf) (s : State),
      (s.cell n).live = some v → v.half = some p →
      s.tearHalf n d reason =
        (s.setCell n { s.cell n with live := some { v with half := none } }).takeRecord
          { kind := .halfTorn, key := some (.cell n), reason := some reason
            address := some (match p.half with | .low => d.address | .high => d.address + 2)
            valueA := some (p.value.setWidth 32), valueB := none })

/-- R2, R24: bus reset deasserts. A RESET-HELD port with no counter guard transfer of the abandoned cycle waiting or in
progress becomes IDLE and takes the cycle then presented; otherwise the port stays as it is. -/
def Obligations.BusResetDeasserts : Prop :=
  ∀ (wide : Bool) (s : State),
    let low : ProcPort := { s.port with busReset := false }
    let forCell (r : Request) : Prop :=
      r.requester = .processor .cellRead ∨ ∃ n : Fin 8, r.requester = .processor (.cellWrite n)
    let remains : Prop :=
      (∃ t : Transfer, s.mem.transfer = some t ∧ forCell t.request) ∨ ∃ r : Request, s.mem.place = some r ∧ forCell r
    (s.port.state ≠ .resetHeld ∨ remains →
      exec (.busResetDeassert wide) s = .next (State.serve wide { s with port := low })) ∧
    (s.port.state = .resetHeld → ¬ remains → s.port.presented = none →
      exec (.busResetDeassert wide) s = .next (State.serve wide { s with port := { low with state := .idle } })) ∧
    (∀ l : CycleLines, s.port.state = .resetHeld → ¬ remains → s.port.presented = some l →
      exec (.busResetDeassert wide) s =
        exec (.processorCycle l wide) { s with port := { low with state := .idle, presented := none } })

/-! ## Cells -/

/-- R76, R77, R78, R80: what an evaluation does to its cell and at the memory port: the pending half goes; a set writes
P; P at or below the shadow writes nothing; a MONOTONIC rise writes P; a RATE rise writes the shadow plus the lesser of
the rise and the whole units of credit, which are spent. V is written by one request for all the cell's words with BOTH
lanes, the LOW half first: processor-origin under the window of the decision for origin PROCESSOR, internal otherwise.
No other cell changes. R56, R57, R76: COUNTER-SET is held, and a set charged, for origin PROCESSOR by the held field and
the charge grant of the decision record, and for HOLD and IGNITION by the OPEN slots that hold it at that moment for the
live window of the cell's address, the lowest of them. R56, R57, R77, R78, R79: what it records, charges and signals: a
refused decrease gives COUNTER-REFUSED, an increment of 1 with cause REFUSAL and one alert cause; a clamp gives
COUNTER-CLAMPED with P and V and one alert cause; a counter set charges its charge grant and gives COUNTER-SET; a rise
within the credit gives nothing. -/
def Obligations.Evaluations : Prop :=
  (∀ (n : Fin 8) (o : Origin) (p : Nat) (d : CellDef) (v : LiveState) (s : State),
      (s.cell n).defn = some d → (s.cell n).live = some v → (s.cell n).op = none →
      let t := s.evaluate n o p
      let bare : Cell := { s.cell n with live := some { v with half := none } }
      let request (x : Nat) (who : Requester) (w : Option MatchedWindow) : Request :=
        { requester := who, direction := .write, address := d.address, twoWords := decide (d.width = .w32), lanes := .both
          data0 := BitVec.ofNat 16 x, data1 := BitVec.ofNat 16 (x / 65536), window := w }
      let sent (x : Nat) : MemPort :=
        match o with
        | .processor =>
          { s.mem with
            place := some (request x (.processor (.cellWrite n)) (s.decision.record.map DecisionRecord.window)) }
        | .hold | .ignition => { s.mem with queue := s.mem.queue ++ [request x (.internal n) none] }
      (∀ m : Fin 8, m ≠ n → t.cell m = s.cell m) ∧
      (s.setHeld d o = true → p ≠ v.shadow →
        t.cell n = { bare with op := some (.evaluation o p true) } ∧ t.mem = sent p) ∧
      (p = v.shadow → t = s.setCell n bare) ∧
      (s.setHeld d o = false → p < v.shadow → t.cell n = bare ∧ t.mem = s.mem) ∧
      (s.setHeld d o = false → v.shadow < p → d.mode = .monotonic →
        t.cell n = { bare with op := some (.evaluation o p false) } ∧ t.mem = sent p) ∧
      (∀ rate cap : Nat, s.setHeld d o = false → v.shadow < p → d.mode = .rate rate cap →
        let units := min (p - v.shadow) (v.credit / 65536)
        (units = 0 → t.cell n = bare ∧ t.mem = s.mem) ∧
        (0 < units →
          t.mem = sent (v.shadow + units) ∧
          t.cell n = { bare with
            live := some { v with half := none, credit := v.credit - units * 65536 }
            op := some (.evaluation o (v.shadow + units) false) }))) ∧
  (∀ (n : Fin 8) (o : Origin) (p : Nat) (d : CellDef) (v : LiveState) (s : State),
      (s.cell n).defn = some d → (s.cell n).live = some v →
      let t := s.evaluate n o p
      let report (k : RecordKind) (reason : Option Reason) (b : Nat) : Report :=
        { kind := k, key := some (.cell n), reason := reason, address := some d.address
          valueA := some (BitVec.ofNat 32 p), valueB := some (BitVec.ofNat 32 b) }
      let same (a b : State) : Prop :=
        a.grants = b.grants ∧ a.decision = b.decision ∧ a.log = b.log ∧ a.out = b.out ∧ a.store = b.store
      (s.setHeld d o = false → p < v.shadow →
        same t ((s.takeRecord (report .counterRefused (some .decrease) v.shadow)).scoreIncrement 1 .refusal).alertCause) ∧
      (s.setHeld d o = true → p ≠ v.shadow →
        same t ((s.chargeOpt (s.setCharge d o)).takeRecord
          (report .counterSet ((s.setCharge d o).map .charged) v.shadow))) ∧
      (∀ rate cap : Nat, s.setHeld d o = false → v.shadow < p → d.mode = .rate rate cap →
        (v.credit / 65536 < p - v.shadow →
          same t (s.takeRecord (report .counterClamped none (v.shadow + v.credit / 65536))).alertCause) ∧
        (p - v.shadow ≤ v.credit / 65536 → same t s)) ∧
      (s.setHeld d o = false → v.shadow < p → d.mode = .monotonic → same t s)) ∧
  ∀ (d : CellDef) (s : State),
    (s.setHeld d .processor = true ↔ ∃ x : DecisionRecord, s.decision.record = some x ∧ x.held = true) ∧
    (∀ i : Fin 4, s.setCharge d .processor = some i ↔
      ∃ x : DecisionRecord, s.decision.record = some x ∧ x.chargeGrant = some i) ∧
    let holds (i : Fin 4) : Prop := ∃ (g : Grant) (tally : Nat) (openedAt : Quad),
      s.grants.slots[i] = .opened g tally openedAt ∧ g.inScope (s.matchLive d.address).id = true ∧
        g.hasRight .counterSet = true
    ∀ o ∈ [Origin.hold, .ignition],
      (s.setHeld d o = true ↔ ∃ i : Fin 4, holds i) ∧
      ∀ i : Fin 4, s.setCharge d o = some i ↔ holds i ∧ ∀ j : Fin 4, j < i → ¬ holds j

/-- R80, R88, R89, R95, R98: what the end of a cell's operation does to a cell that has no waiting write and no due
mark. R82, R90: where it has them, the waiting write is taken once no operation is in flight, and then the due mark is
settled (`IgnitionOffTakesFloors`). R101: the end of an operation of a MOVED or REMOVED cell's old definition, made or
not: its result is discarded, a write that waits for the cell is absorbed by it, and R97: a cell that is READING starts
a new read; that the waiting write is taken before the new read starts is the model's order (log entry 12). The request
of a new read waits while the cycle in progress uses one of the cell's words; it is made as that cycle completes or,
where bus reset has abandoned the cycle and its transfer remained, as that transfer ends. -/
def Obligations.OperationsEnd : Prop :=
  (∀ (n : Fin 8) (r : TransferResult) (d : CellDef) (s : State),
      (s.cell n).defn = some d → (s.cell n).stale = false → s.guard.waitingWrite = none → r.made = true →
      let t := s.opEnd n r
      let ended (v : LiveState) : Cell := { s.cell n with live := some v, op := none }
      let fresh (v : LiveState) : Cell := { s.cell n with live := some v, op := none, loadedFloor := none }
      (∀ v : LiveState, (s.cell n).live = some v → v.due = false →
        (∀ (o : Origin) (x : Nat) (isSet : Bool), (s.cell n).op = some (.evaluation o x isSet) →
          (r.timedOut = true → t = s.setCell n (ended { v with repair := true })) ∧
          (r.timedOut = false → isSet = false → t = s.setCell n (ended { v with shadow := x, repair := false })) ∧
          (r.timedOut = false → isSet = true →
            t = (s.setCell n (ended { v with shadow := x, repair := false, floor := x })).queueItem
              (.floor n (some x)))) ∧
        ((s.cell n).op = some .restore →
          t = s.setCell n (ended (if r.timedOut then v else { v with repair := false }))) ∧
        ((s.cell n).op = some .correction → t = s.setCell n (ended { v with repair := r.timedOut }))) ∧
      ((s.cell n).live = none →
        let f := (s.cell n).loadedFloor.getD 0
        let x := match d.width with | .w16 => r.word0.toNat | .w32 => r.word0.toNat + 65536 * r.word1.toNat
        let begun (shadow : Nat) (repair : Bool) : Cell :=
          fresh { shadow := shadow, credit := 0, floor := shadow, half := none, repair := repair, due := false }
        let correction : Request :=
          { requester := .internal n, direction := .write, address := d.address, twoWords := decide (d.width = .w32)
            lanes := .both, data0 := BitVec.ofNat 16 f, data1 := BitVec.ofNat 16 (f / 65536), window := none }
        ((s.cell n).op = some .scanRead →
          (r.timedOut = true → t = s.setCell n (begun f true)) ∧
          (r.timedOut = false → f ≤ x → t = s.setCell n (fresh
            { shadow := x, credit := 0, floor := f, half := none, repair := false, due := false })) ∧
          (r.timedOut = false → x < f →
            t = State.enqueueInternal correction
              (((((s.setCell n (begun f false)).takeRecord
                { kind := .counterRegressed, key := some (.cell n), reason := none, address := some d.address
                  valueA := some (BitVec.ofNat 32 x), valueB := some (BitVec.ofNat 32 f)
                }).scoreIncrement 8 .regression).alertCause).setOp n (some .correction)))) ∧
        ((s.cell n).op = some (.newRead .requested) →
          (r.timedOut = true → t = s.setOp n none) ∧
          (r.timedOut = false → t = (s.setCell n (begun x false)).queueItem (.floor n (some x)))))) ∧
  (∀ (n : Fin 8) (r : TransferResult) (d : CellDef) (o : Operation) (s : State),
      (s.cell n).defn = some d → (s.cell n).stale = false → (s.cell n).op = some o →
      ((s.cell n).live.isSome = true → o ≠ .scanRead ∧ ∀ held, o ≠ .newRead held) →
      let due : Bool := (s.cell n).live.any LiveState.due
      let alone : State := s.modifyLive n fun v => { v with due := false }
      let bare : State := State.opEnd n r { alone with guard := { alone.guard with waitingWrite := none } }
      let ended : State := bare.modifyLive n fun v => { v with due := due }
      (s.guard.waitingWrite = some n → (ended.cell n).op = none → s.opEnd n r = (ended.takeWrite n).settle n) ∧
      (s.guard.waitingWrite ≠ some n ∨ (ended.cell n).op ≠ none →
        s.opEnd n r =
          State.settle n { ended with guard := { ended.guard with waitingWrite := s.guard.waitingWrite } })) ∧
  (∀ (n : Fin 8) (r : TransferResult) (s : State),
      (s.cell n).stale = true → (s.cell n).live = none → (s.guard.waitingWrite = some n → s.port.cycle ≠ none) →
      let gone : State := s.setCell n { s.cell n with op := none, stale := false }
      s.opEnd n r =
        State.startNewRead n
          (if s.guard.waitingWrite = some n then
             (State.completed none { gone with guard := { gone.guard with waitingWrite := none } }).releaseReads
           else gone)) ∧
  (∀ (n : Fin 8) (s : State),
      ((s.cell n).defn = none → s.startNewRead n = s) ∧
      ∀ d : CellDef, (s.cell n).defn = some d →
        let uses : Prop := ∃ (c : Cycle) (x : DecisionRecord), s.port.cycle = some c ∧ s.decision.record = some x ∧
          (x.outcome = .pass ∨ x.outcome = .fillCheck) ∧ byteAddress c.address ∈ d.words
        (uses → s.startNewRead n = s.setOp n (some (.newRead .forCycle))) ∧
        (¬ uses →
          s.startNewRead n =
            (s.setOp n (some (.newRead .requested))).enqueueInternal
              { requester := .internal n, direction := .read, address := d.address
                twoWords := decide (d.width = .w32), lanes := .both, data0 := 0, data1 := 0, window := none })) ∧
  ∀ s : State, ∀ row ∈ [(ReadWait.forCycle, s.releaseReads), (ReadWait.forTransfer, s.releaseAbandoned)],
    let u := row.2
    u = { s with guard := u.guard, mem := u.mem } ∧ u.guard.waitingWrite = s.guard.waitingWrite ∧
      u.mem =
        { s.mem with
          queue := s.mem.queue ++ octOrder.filterMap fun n =>
            match (s.cell n).defn with
            | some d =>
              if (s.cell n).op = some (.newRead row.1) then
                some
                  { requester := .internal n, direction := .read, address := d.address
                    twoWords := decide (d.width = .w32), lanes := .both, data0 := 0, data1 := 0, window := none }
              else none
            | none => none } ∧
      ∀ n : Fin 8, u.cell n =
        if (s.cell n).op = some (.newRead row.1) ∧ (s.cell n).defn.isSome = true then
          { s.cell n with op := some (.newRead .requested) }
        else s.cell n

/-- R74, R75: a tick at the counter guard, which takes its cells in cell order. Credit accrues by the rate up to the cap
while the filtered level is ON, and the age of a pending half rises by 1, stopping at 16; with nothing in flight and no
half at the hold limit, a cell that needs repair starts a restore, an internal write of its shadow to all its words
(R88); a cell with an operation in flight starts nothing; a READING cell with none starts a new read; a DISABLED cell is
passed over. R75 step 3, R86, R87: a half whose age reaches the hold limit at this tick, on a cell with no operation in
flight, is joined with the other half of the shadow and evaluated with origin HOLD, and no restore starts there in this
tick; HOLD_EXPIRY is a tick that makes this evaluation in its cell, and nothing where it would not (log entry 4). The
tick taken is the oldest one issued, or the next one to be issued (log entry 1, `IgnitionSampleIsFiltered`). -/
def Obligations.TicksAtACell : Prop :=
  (∀ (wide : Bool) (s : State), ∃ u : State, exec (.counterTick wide) s = .next (u.serve wide) ∧
      u = forCells State.tickCell { s with time := s.time.takeGuardTick } ∧
      u.port = s.port ∧ u.table = s.table ∧ u.link = s.link ∧ u.time = s.time.takeGuardTick ∧
      u.ignition = s.ignition ∧
      u.start = s.start ∧ u.engine = s.engine ∧ u.guard.waitingWrite = s.guard.waitingWrite ∧
      (∀ n : Fin 8, (s.cell n).defn = none → (s.cell n).live = none → u.cell n = s.cell n) ∧
      (∀ n : Fin 8, (s.cell n).defn ≠ none → (s.cell n).live = none → (s.cell n).op = none →
        let uses : Prop := ∃ (c : Cycle) (x : DecisionRecord) (d : CellDef), s.port.cycle = some c ∧
          s.decision.record = some x ∧ (x.outcome = .pass ∨ x.outcome = .fillCheck) ∧ (s.cell n).defn = some d ∧
          byteAddress c.address ∈ d.words
        (uses → u.cell n = { s.cell n with op := some (.newRead .forCycle) }) ∧
        (¬ uses → u.cell n = { s.cell n with op := some (.newRead .requested) })) ∧
      ∀ (n : Fin 8) (d : CellDef) (v : LiveState), (s.cell n).defn = some d → (s.cell n).live = some v →
        let credit :=
          match d.mode with
          | .rate rate cap => if s.ignition.level then min (v.credit + rate) (cap * 65536) else v.credit
          | .monotonic => v.credit
        let aged : LiveState :=
          { v with credit := credit, half := v.half.map fun p => { p with age := min (p.age + 1) 16 } }
        ((s.cell n).op ≠ none → u.cell n = { s.cell n with live := some aged }) ∧
        ((s.cell n).op = none → (∀ p, v.half = some p → min (p.age + 1) 16 < s.table.settings.holdLimit) →
          u.cell n = { s.cell n with live := some aged, op := if v.repair then some .restore else none } ∧
            (v.repair = true →
              { requester := .internal n, direction := .write, address := d.address
                twoWords := decide (d.width = .w32), lanes := .both, data0 := BitVec.ofNat 16 v.shadow
                data1 := BitVec.ofNat 16 (v.shadow / 65536), window := none : Request } ∈ u.mem.queue)) ∧
        ∀ p : PendingHalf, (s.cell n).op = none → v.half = some p →
          s.table.settings.holdLimit ≤ min (p.age + 1) 16 →
          s.tickCell n =
            State.evaluate n .hold
              (match p.half with
               | .low => p.value.toNat + 65536 * (v.shadow / 65536 % 65536)
               | .high => v.shadow % 65536 + 65536 * p.value.toNat)
              (s.setCell n { s.cell n with live := some aged })) ∧
  (∀ (wide : Bool) (n : Fin 8) (s : State),
      (∀ (v : LiveState) (p : PendingHalf), (s.cell n).live = some v → v.half = some p → (s.cell n).op = none →
        s.table.settings.holdLimit ≤ min (p.age + 1) 16 →
        exec (.holdExpiry n wide) s =
          .next ((forCells State.tickCell { s with time := s.time.takeGuardTick }).serve wide)) ∧
      ((s.cell n).op ≠ none ∨
          (∀ (v : LiveState) (p : PendingHalf), (s.cell n).live = some v → v.half = some p →
            min (p.age + 1) 16 < s.table.settings.holdLimit) →
        exec (.holdExpiry n wide) s = .next (s.serve wide)))

/-- R90, R91, R177: an ignition-off issued to the counter guard, which takes it: every LIVE cell is marked due, and then
they are settled in cell order; with none issued there is nothing to take (log entry 3). A
LIVE cell with nothing in flight and no pending half takes its shadow as its floor, which is queued if it changed; one
with an operation in flight stays due; a READING cell is left. A due cell with a pending half and nothing in flight is
evaluated with origin IGNITION; where that writes nothing it is settled at once, and otherwise when the evaluation ends
(`OperationsEnd`). -/
def Obligations.IgnitionOffTakesFloors : Prop :=
  (∀ (wide : Bool) (s : State),
    s.ignition.guardOffs = 0 → exec (.ignitionOffCounterGuard wide) s = .next (s.serve wide)) ∧
  (∀ (wide : Bool) (s : State), s.ignition.guardOffs ≠ 0 →
    ∃ u : State, exec (.ignitionOffCounterGuard wide) s = .next (u.serve wide) ∧
    u = forCells State.settle (forCells (fun n v => v.modifyLive n fun x => { x with due := true })
      { s with ignition := { s.ignition with guardOffs := s.ignition.guardOffs - 1 } }) ∧
    u.port = s.port ∧ u.table = s.table ∧ u.link = s.link ∧ u.guard.waitingWrite = s.guard.waitingWrite ∧
    ∀ n : Fin 8,
      ((s.cell n).live = none → u.cell n = s.cell n) ∧
      ∀ v : LiveState, (s.cell n).live = some v →
        ((s.cell n).op ≠ none → u.cell n = { s.cell n with live := some { v with due := true } }) ∧
        ((s.cell n).op = none → v.half = none →
          u.cell n = { s.cell n with live := some { v with floor := v.shadow, due := false } } ∧
            (v.floor ≠ v.shadow → u.store.held.floors[n] = some v.shadow))) ∧
  ∀ (n : Fin 8) (s : State),
    ((s.cell n).live = none → s.settle n = s) ∧
    ∀ v : LiveState, (s.cell n).live = some v →
      let settled (u : State) (x : LiveState) : State :=
        let kept := u.setCell n { u.cell n with live := some { x with floor := x.shadow, due := false } }
        if x.floor = x.shadow then kept else kept.queueItem (.floor n (some x.shadow))
      (v.due = false ∨ (s.cell n).op ≠ none → s.settle n = s) ∧
      (v.due = true → (s.cell n).op = none → v.half = none → s.settle n = settled s v) ∧
      ∀ p : PendingHalf, v.due = true → (s.cell n).op = none → (s.cell n).defn ≠ none → v.half = some p →
        let e := s.evaluate n .ignition
          (match p.half with
           | .low => p.value.toNat + 65536 * (v.shadow / 65536 % 65536)
           | .high => v.shadow % 65536 + 65536 * p.value.toNat)
        ((e.cell n).op ≠ none → s.settle n = e) ∧
        ((e.cell n).op = none → ∃ x : LiveState, (e.cell n).live = some x ∧ x.half = none ∧ s.settle n = settled e x)

/-! ## The staged copy and the apply -/

/-- R33 to R38, R142, R149: the staging commands. The authority: waived on an unprovisioned part, and otherwise an
acting grant that passes its check and holds CONFIGURE. DENIED without authority; then BUSY while an apply is
outstanding; then INVALID with the offset of the first field out of range, the fields examined in the order of their
tables; otherwise the entry is staged, or the staged copy emptied, and the reply is OK. Nothing but the staged copy and
the link changes. That a base is judged before its size, and so named where both are bad, is log entry 20. -/
def Obligations.StagingCommands : Prop :=
  ∀ (p : List Byte) (s : State),
    let authority := s.configureAuthority p
    let st := s.table.staged
    let timing : List (Nat × Prop) :=
      [(20, fieldAt p 20 1 ≤ 2), (21, fieldAt p 21 1 ≤ 15), (22, fieldAt p 22 1 ≤ 1), (23, fieldAt p 23 1 ≤ 1)]
    let windowRanges : List (Nat × Prop) :=
      (6, fieldAt p 6 1 ≤ 8) ::
        if fieldAt p 6 1 = 8 then [(15, fieldAt p 15 1 ≤ 4), (16, fieldAt p 16 1 ≤ 5)] ++ timing
        else
          (7, fieldAt p 7 1 ≤ 1) ::
            if fieldAt p 7 1 = 0 then []
            else
              [(8, fieldAt p 11 4 ∣ fieldAt p 8 3), (11, ∃ k : Nat, 8 ≤ k ∧ k ≤ 24 ∧ fieldAt p 11 4 = 2 ^ k),
               (15, fieldAt p 15 1 ≤ 4), (16, fieldAt p 16 1 ≤ 5),
               (17, 256 ∣ fieldAt p 17 3 ∧ fieldAt p 17 3 + fieldAt p 11 4 ≤ 16777216)] ++ timing
    let cellRanges : List (Nat × Prop) :=
      (6, fieldAt p 6 1 ≤ 7) :: (7, fieldAt p 7 1 ≤ 1) ::
        if fieldAt p 7 1 = 0 then []
        else
          [(8, fieldAt p 8 1 = 16 ∨ fieldAt p 8 1 = 32),
           (9, (if fieldAt p 8 1 = 16 then 2 else 4) ∣ fieldAt p 9 3), (12, fieldAt p 12 1 ≤ 1)] ++
            if fieldAt p 12 1 = 1 then [(13, 1 ≤ fieldAt p 13 3), (16, 1 ≤ fieldAt p 16 2)] else []
    let settingsRanges : List (Nat × Prop) :=
      [(6, 1 ≤ fieldAt p 6 1 ∧ fieldAt p 6 1 ≤ 254), (7, fieldAt p 7 2 ≤ 1023), (9, fieldAt p 9 1 ≤ 2),
       (10, 1 ≤ fieldAt p 10 1 ∧ fieldAt p 10 1 ≤ 2), (11, 1 ≤ fieldAt p 11 1),
       (13, 1 ≤ fieldAt p 13 2 ∧ fieldAt p 13 2 ≤ 3600), (15, 16 ≤ fieldAt p 15 2),
       (17, 1 ≤ fieldAt p 17 1 ∧ fieldAt p 17 1 ≤ 16), (18, fieldAt p 18 1 ≤ 1), (19, fieldAt p 19 1 ≤ 1)]
    let hasTerms (t : WindowTerms) : Prop :=
      Layout.classCode t.cls = fieldAt p 15 1 ∧ t.deviceSelect.val = fieldAt p 16 1 ∧
        Layout.widthCode t.width = fieldAt p 20 1 ∧ t.waitStates.val = fieldAt p 21 1 ∧
        Layout.readyCode t.readyMode = fieldAt p 22 1 ∧ Layout.denyCode t.denyResponse = fieldAt p 23 1
    let takesWindow (u : Staged) : Prop :=
      (fieldAt p 6 1 = 8 → ∃ t : WindowTerms, hasTerms t ∧ u = { st with dflt := some t }) ∧
      ∀ n : Fin 8, fieldAt p 6 1 = n.val →
        (fieldAt p 7 1 = 0 → u = { st with windows := st.windows.set n (some none) }) ∧
        (fieldAt p 7 1 = 1 → ∃ w : Window, w.base.toNat = fieldAt p 8 3 ∧ w.size = fieldAt p 11 4 ∧
          w.offset.toNat = fieldAt p 17 3 ∧ hasTerms w.terms ∧
            u = { st with windows := st.windows.set n (some (some w)) })
    let takesCell (u : Staged) : Prop :=
      ∀ n : Fin 8, fieldAt p 6 1 = n.val →
        (fieldAt p 7 1 = 0 → u = { st with cells := st.cells.set n (some none) }) ∧
        (fieldAt p 7 1 = 1 → ∃ d : CellDef,
          (match d.width with | .w16 => 16 | .w32 => 32) = fieldAt p 8 1 ∧ d.address.toNat = fieldAt p 9 3 ∧
          d.mode =
            (if fieldAt p 12 1 = 1 then .rate (fieldAt p 13 3) (fieldAt p 16 2) else .monotonic) ∧
            u = { st with cells := st.cells.set n (some (some d)) })
    let takesSettings (u : Staged) : Prop :=
      ∃ v : Settings, u = { st with settings := some v } ∧ v.nodeAddress.toNat = fieldAt p 6 1 ∧
        v.divisor = fieldAt p 7 2 ∧ Layout.parityCode v.parityMode = fieldAt p 9 1 ∧
        Layout.stopCode v.stopBits = fieldAt p 10 1 ∧ v.alertThreshold = fieldAt p 11 1 ∧
        v.lockdownThreshold = fieldAt p 12 1 ∧ v.decayInterval = fieldAt p 13 2 ∧ v.readyLimit = fieldAt p 15 2 ∧
        v.holdLimit = fieldAt p 17 1 ∧ Layout.flag v.parityCheck = fieldAt p 18 1 ∧
        Layout.polarityCode v.polarity = fieldAt p 19 1
    let rows : List (Instr × Byte × Nat × List (Nat × Prop) × (Staged → Prop)) :=
      [(.stageWindow, 0x31, 23, windowRanges, takesWindow), (.stageCell, 0x32, 17, cellRanges, takesCell),
       (.stageSettings, 0x33, 19, settingsRanges, takesSettings), (.discardStaged, 0x35, 5, [], fun u => u = .empty)]
    (s.store.held.provisionedMark ≠ some true → authority = some none) ∧
    (s.store.held.provisionedMark = some true →
      authority ≠ some none ∧
      ∀ i : Fin 4, authority = some (some i) ↔
        fieldAt p 1 1 = i.val ∧ ∃ g tally openedAt, s.grants.slots[i] = .opened g tally openedAt ∧
          g.toolId = BitVec.ofNat 32 (fieldAt p 2 4) ∧ g.hasRight .configure = true) ∧
    ∀ row ∈ rows, s.Message row.2.1 p → p.length = row.2.2.1 →
      (authority = none → exec row.1 s = .next (s.completeCommand { status := .denied, payload := [] })) ∧
      (authority ≠ none → s.table.apply ≠ .idle →
        exec row.1 s = .next (s.completeCommand { status := .busy, payload := [] })) ∧
      (∀ (before after : List (Nat × Prop)) (offset : Nat) (inRange : Prop), authority ≠ none → s.table.apply = .idle →
        row.2.2.2.1 = before ++ (offset, inRange) :: after → (∀ x ∈ before, x.2) → ¬ inRange →
        exec row.1 s = .next (s.completeCommand { status := .invalid, payload := [BitVec.ofNat 8 offset] })) ∧
      (authority ≠ none → s.table.apply = .idle → (∀ x ∈ row.2.2.2.1, x.2) →
        ∃ u : Staged, row.2.2.2.2 u ∧
          exec row.1 s =
            .next (State.completeCommand { status := .ok, payload := [] }
              { s with table := { s.table with staged := u } }))

/-- R40, R42: APPLY STAGED. With nothing staged the reply is OK with count 0; a would-be table that fails R41 is
answered INVALID with the cell, the reason and the window or partner; one that passes makes the apply PENDING with the
acting slot, or none where the check was waived, and the reply counts the staged entries. -/
def Obligations.ApplyStagedCommand : Prop :=
  ∀ (p : List Byte) (s : State), s.Message 0x34 p → p.length = 5 →
    (s.configureAuthority p = none →
      exec .applyStaged s = .next (s.completeCommand { status := .denied, payload := [] })) ∧
    ∀ slot : Option (Fin 4), s.configureAuthority p = some slot →
      (s.table.apply ≠ .idle → exec .applyStaged s = .next (s.completeCommand { status := .busy, payload := [] })) ∧
      (s.table.apply = .idle → s.table.staged.writes = [] →
        exec .applyStaged s = .next (s.completeCommand { status := .ok, payload := [0] })) ∧
      (∀ (n : Fin 8) (f : CellFailure), s.table.apply = .idle → s.table.staged.writes ≠ [] →
        s.checkWouldBe = some (n, f) →
        exec .applyStaged s =
          .next (s.completeCommand
            { status := .invalid
              payload := BitVec.ofNat 8 n.val ::
                match f with
                | .window (.numbered k) => [1, BitVec.ofNat 8 k.val]
                | .window .dflt => [1, 8]
                | .overlap k => [2, BitVec.ofNat 8 k.val] })) ∧
      (s.table.apply = .idle → s.table.staged.writes ≠ [] → s.checkWouldBe = none →
        exec .applyStaged s =
          .next (State.completeCommand { status := .ok, payload := [BitVec.ofNat 8 s.table.staged.writes.length] }
            { s with table := { s.table with apply := .pending, applyingSlot := slot } }))

/-- R41, for a table of windows, default window and cells. It passes when every enabled cell has all its bytes in one
window of class OPEN or RECORDS and shares no word with a lower-numbered enabled cell. Otherwise the offending cell is
the lowest-numbered one that fails, the window test before the overlap test: the reason is the window its first byte
matches, or the lowest-numbered enabled cell it shares a word with. R40: the would-be table is the live one with each
staged entry in the place of the live one of its name. -/
def Obligations.WouldBeTableIsChecked : Prop :=
  (∀ (windows : Vector (Option Window) 8) (dflt : WindowTerms) (cells : Vector (Option CellDef) 8),
    let inOne (d : CellDef) : Prop := ∃ w : MatchedWindow, (w.terms.cls = .opn ∨ w.terms.cls = .records) ∧
      matchWindow windows dflt d.address = w ∧ ∀ a ∈ d.byteAddresses, (matchWindow windows dflt a).id = w.id
    let apart (n : Fin 8) (d : CellDef) : Prop := ∀ (k : Fin 8) (e : CellDef), k < n → cells[k] = some e →
      ∀ a ∈ d.words, a ∉ e.words
    (checkTable windows dflt cells = none ↔ ∀ (n : Fin 8) (d : CellDef), cells[n] = some d → inOne d ∧ apart n d) ∧
    ∀ (n : Fin 8) (f : CellFailure), checkTable windows dflt cells = some (n, f) →
      (∀ (m : Fin 8) (d : CellDef), m < n → cells[m] = some d → inOne d ∧ apart m d) ∧
      ∃ d : CellDef, cells[n] = some d ∧
        ((¬ inOne d ∧ f = .window (matchWindow windows dflt d.address).id) ∨
          (inOne d ∧ ∃ (k : Fin 8) (e : CellDef), f = .overlap k ∧ k < n ∧ cells[k] = some e ∧
            (∃ a ∈ d.words, a ∈ e.words) ∧
            ∀ (j : Fin 8) (x : CellDef), j < k → cells[j] = some x → ∀ a ∈ d.words, a ∉ x.words))) ∧
  ∀ s : State, ∃ (windows : Vector (Option Window) 8) (cells : Vector (Option CellDef) 8),
    (∀ n : Fin 8, windows[n] = (s.table.staged.windows[n]).getD s.table.windows[n]) ∧
      (∀ n : Fin 8, cells[n] = (s.table.staged.cells[n]).getD (s.cell n).defn) ∧
      s.checkWouldBe = checkTable windows (s.table.staged.dflt.getD s.table.dflt) cells

/-- R32, R43, R44, R46, R133: a tick at the window table. One that finds no PENDING apply changes nothing there. A
PENDING apply, in order: every staged entry replaces the live one of its name and the staged copy is empty; an item
write is queued for each entry, in the order window 0 to 7, default window, cell 0 to 7, settings, and the apply is
STORING them; CONFIG-APPLIED is recorded and the applying slot cleared; the counter guard takes the change of each
staged cell (`ChangedCells`). The tick taken is the oldest one issued, or the next one to be issued (log entry 1,
`IgnitionSampleIsFiltered`). A live divisor made 0 turns a link at rest OFF, and one within a frame OFF at that frame's
end: that a link at rest goes OFF in the tick's own step, and that it is at rest before the first frame of a reply, is
the model's reading (log entry 19); that a tick may come before the APPLY's own reply has all been sent is its choice
(log entry 37). -/
def Obligations.ApplyTick : Prop :=
  ∀ (wide : Bool) (s : State),
    let st := s.table.staged
    let s1 : State := { s with time := s.time.takeTableTick }
    (s.table.apply ≠ .pending → exec (.applyTick wide) s = .next (s1.serve wide)) ∧
    (∀ w : ItemWrite, w ∈ st.writes ↔
      (∃ (n : Fin 8) (x : Option Window), st.windows[n] = some x ∧ w = .window n x) ∨
      (∃ x : WindowTerms, st.dflt = some x ∧ w = .dflt x) ∨
      (∃ (n : Fin 8) (x : Option CellDef), st.cells[n] = some x ∧ w = .cellDef n x) ∨
      ∃ x : Settings, st.settings = some x ∧ w = .settings x) ∧
    (st.writes.map ItemWrite.item).Sublist
      (octOrder.map (fun n => Item.window (.numbered n)) ++ Item.window .dflt :: octOrder.map Item.cellDef ++
        [Item.settings]) ∧
    (s.table.apply = .pending →
      ∃ (windows : Vector (Option Window) 8) (cells : Vector Cell 8),
        (∀ n : Fin 8, windows[n] = (st.windows[n]).getD s.table.windows[n]) ∧
        (∀ n : Fin 8, cells[n] = { s.cell n with defn := (st.cells[n]).getD (s.cell n).defn }) ∧
        let live : WindowTable :=
          { windows := windows
            dflt := st.dflt.getD s.table.dflt
            settings := st.settings.getD s.table.settings
            staged := .empty
            apply := .storing
            applyingSlot := none
            applyItems := st.writes.map ItemWrite.item }
        let told : State := State.takeRecord
          { kind := .configApplied, key := s.table.applyingSlot.map .slot, reason := none, address := none
            valueA := some (BitVec.ofNat 32 st.writes.length), valueB := none }
          { s1 with
            table := live
            guard := { s.guard with cells := cells }
            store := st.writes.foldl (fun q w => q.queueItem w) s.store }
        let changed : State := octOrder.foldl
          (fun u n => match st.cells[n] with | none => u | some d => u.changeCell n (s.cell n).defn d) told
        let link : Link :=
          if live.settings.divisor ≠ 0 ∨ s.link.receiver = .off then s.link
          else if s.link.line.busy = true ∨ s.link.sending = true then { s.link with offDue := true }
          else { s.link with
            receiver := .off, buffer := if s.link.receiver = .receiving then none else s.link.buffer, reply := none
            offDue := false }
        exec (.applyTick wide) s = .next (State.serve wide { changed with link := link }))

/-- R44, R97, R99, R100, R101: the counter guard's reaction to the change of a cell, its new definition being live. A
pending half of a MOVED or REMOVED cell gives a HALF-TORN record of reason APPLY, and the write that waits for it
completes absorbed at once. An ADDED, MOVED or REMOVED cell drops its live state, with its due mark, and its loaded
floor; an operation of the old definition at the arbiter runs on as one whose result is discarded, and a new read still
waiting for a cycle falls away (log entry 12). An ADDED or MOVED cell with nothing in flight starts its new read
(`OperationsEnd`); a REMOVED one has its floor item queued as cleared; a RETUNED one keeps its state with the credit of
the new mode; an unchanged one is left. -/
def Obligations.ChangedCells : Prop :=
  ∀ (n : Fin 8) (old new : Option CellDef) (s : State),
    let t := s.changeCell n old new
    let torn (d : CellDef) : State :=
      match (s.cell n).live.bind LiveState.half with
      | none => s
      | some p =>
        s.takeRecord
          { kind := .halfTorn, key := some (.cell n), reason := some .apply
            address := some (match p.half with | .low => d.address | .high => d.address + 2)
            valueA := some (p.value.setWidth 32), valueB := none }
    let absorbed (u : State) : State :=
      if u.guard.waitingWrite = some n then
        (State.completed none { u with guard := { u.guard with waitingWrite := none } }).releaseReads
      else u
    let dropped (u : State) : State :=
      let gone : Cell := { u.cell n with live := none, loadedFloor := none, op := none, stale := false }
      match (u.cell n).op with
      | none | some (.newRead .forCycle) | some (.newRead .forTransfer) => u.setCell n gone
      | some o => u.setCell n { gone with op := some o, stale := true }
    let renewed (u : State) : State :=
      if ((dropped u).cell n).op = none then (dropped u).startNewRead n else dropped u
    (∀ e : CellDef, old = none → new = some e → t = renewed s) ∧
    (∀ d : CellDef, old = some d → new = none → t = (dropped (absorbed (torn d))).queueItem (.floor n none)) ∧
    (∀ d e : CellDef, old = some d → new = some e → d.address ≠ e.address ∨ d.width ≠ e.width →
      t = renewed (absorbed (torn d))) ∧
    (∀ d e : CellDef, old = some d → new = some e → d.address = e.address → d.width = e.width → d.mode ≠ e.mode →
      ((s.cell n).live = none → t = s) ∧
      ∀ v : LiveState, (s.cell n).live = some v →
        t = s.setCell n { s.cell n with
          live := some { v with
            credit :=
              match d.mode, e.mode with
              | .rate _ _, .rate _ cap => min v.credit (cap * 65536)
              | .rate _ _, .monotonic => 0
              | .monotonic, _ => 0 } }) ∧
    (old = new → t = s)

/-! ## Grants -/

/-- R55, R122, R129: a charge raises the tally, saturating at 65535, lowers an allowance, and closes the grant EXHAUSTED
when the allowance reaches 0; a slot that is not OPEN drops it. R122: closing an OPEN slot frees it, records
GRANT-CLOSED with the tool id and the write tally, clears a charge grant that names it and reports it to the output
unit; the other slots are untouched, the held field, the score, the lockdown state and the decay count stay, and the log
and the store are those of the record taken (`LogTakesARecord`). R53, R107: so does the freeing of a slot, without a
record. R56: a charge to no grant does nothing. -/
def Obligations.ChargesAndCloses : Prop :=
  let forgotten (i : Fin 4) (record : Option DecisionRecord) : Option DecisionRecord :=
    record.map fun d => if d.chargeGrant = some i then { d with chargeGrant := none } else d
  (∀ (i : Fin 4) (s : State),
      ((∀ g tally openedAt, s.grants.slots[i] ≠ .opened g tally openedAt) → s.charge i = s) ∧
      ∀ (g : Grant) (tally : Nat) (openedAt : Quad), s.grants.slots[i] = .opened g tally openedAt →
        (g.allowance = none → s.charge i = s.setSlot i (.opened g (min (tally + 1) 65535) openedAt)) ∧
        (∀ a : Nat, g.allowance = some a → 1 < a →
          s.charge i = s.setSlot i (.opened { g with allowance := some (a - 1) } (min (tally + 1) 65535) openedAt)) ∧
        (g.allowance = some 1 →
          (s.charge i).grants.slots = s.grants.slots.set i .free ∧
            (s.charge i).log = (s.takeRecord
              { kind := .grantClosed, key := some (.slot i), reason := some .exhausted, address := none
                valueA := some g.toolId, valueB := some (BitVec.ofNat 32 (min (tally + 1) 65535)) }).log ∧
            s.charge i = State.closeSlot i .exhausted
              (s.setSlot i (.opened { g with allowance := some 0 } (min (tally + 1) 65535) openedAt)))) ∧
  (∀ (i : Fin 4) (reason : Reason) (g : Grant) (tally : Nat) (openedAt : Quad) (s : State),
      s.grants.slots[i] = .opened g tally openedAt →
      let t := s.closeSlot i reason
      let recorded := s.takeRecord
        { kind := .grantClosed, key := some (.slot i), reason := some reason, address := none
          valueA := some g.toolId, valueB := some (BitVec.ofNat 32 tally) }
      t = State.reportSlot i { recorded with
        grants := { s.grants with slots := s.grants.slots.set i .free }
        decision := { s.decision with record := forgotten i s.decision.record } } ∧
        t.grants = { s.grants with slots := s.grants.slots.set i .free } ∧
        t.decision = { s.decision with record := forgotten i s.decision.record } ∧
        t.log = recorded.log ∧ t.store = recorded.store ∧ t.out.slotMirror = s.out.slotMirror.set i .free ∧
        (∀ d, t.decision.record = some d → d.chargeGrant ≠ some i) ∧
        t.decision.record.map DecisionRecord.held = s.decision.record.map DecisionRecord.held ∧
        t = { s with grants := t.grants, decision := t.decision, log := t.log, out := t.out, store := t.store }) ∧
  (∀ (i : Fin 4) (s : State),
      let t := s.freeSlot i
      t = State.reportSlot i { s with
        grants := { s.grants with slots := s.grants.slots.set i .free }
        decision := { s.decision with record := forgotten i s.decision.record } } ∧
        t.grants = { s.grants with slots := s.grants.slots.set i .free } ∧
        t.decision = { s.decision with record := forgotten i s.decision.record } ∧
        t.out.slotMirror = s.out.slotMirror.set i .free ∧
        t = { s with grants := t.grants, decision := t.decision, out := t.out }) ∧
  (∀ (i : Fin 4) (x : Slot) (s : State),
      s.setSlot i x = { s with grants := { s.grants with slots := s.grants.slots.set i x } }) ∧
  ∀ s : State, s.chargeOpt none = s ∧ ∀ i : Fin 4, s.chargeOpt (some i) = s.charge i

/-- R105, R108 to R111, R144: REQUEST GRANT. The five checks in order, each with its reply and no effect: the part is
provisioned; the first field out of range in the order of R108 is INVALID with its offset; a level 1 or 2 in lockdown is
LOCKED; the backoff is WAIT; no FREE slot is FULL. A request that passes takes the lowest FREE slot with the terms of
its fields, rights and lifetime trimmed to the level's, and the challenge of the raised counter and the clock sample,
queues the counter, and is answered with slot, challenge, rights and lifetime. -/
def Obligations.RequestGrantCommand : Prop :=
  ∀ (p : List Byte) (s : State), s.Message 0x10 p → p.length = 13 →
    let refused (a : Answer) : Prop := exec .requestGrant s = .next (s.completeCommand a)
    let ranges : List (Nat × Prop) :=
      [(1, fieldAt p 1 4 ≠ 0), (5, 1 ≤ fieldAt p 5 1 ∧ fieldAt p 5 1 ≤ 3), (6, fieldAt p 6 1 ≤ 63),
       (7, 1 ≤ fieldAt p 7 2 ∧ fieldAt p 7 2 ≤ 511), (9, 1 ≤ fieldAt p 9 2 ∧ fieldAt p 9 2 ≤ 7200),
       (13, fieldAt p 13 1 ≤ 1)]
    (s.store.held.provisionedMark ≠ some true → refused { status := .notProvisioned, payload := [] }) ∧
    (s.store.held.provisionedMark = some true →
      (∀ (before after : List (Nat × Prop)) (offset : Nat) (inRange : Prop),
        ranges = before ++ (offset, inRange) :: after → (∀ x ∈ before, x.2) → ¬ inRange →
        refused { status := .invalid, payload := [BitVec.ofNat 8 offset] }) ∧
      ((∀ x ∈ ranges, x.2) →
        (s.decision.lockdown = true → fieldAt p 5 1 ≠ 3 → refused { status := .locked, payload := [] }) ∧
        (s.decision.lockdown = false ∨ fieldAt p 5 1 = 3 →
          (0 < s.grants.backoff →
            refused { status := .wait, payload := Layout.number 2 s.grants.backoff }) ∧
          (s.grants.backoff = 0 →
            ((∀ i : Fin 4, s.grants.slots[i] ≠ .free) → refused { status := .full, payload := [] }) ∧
            ∀ i : Fin 4, s.grants.slots[i] = .free → (∀ j : Fin 4, j < i → s.grants.slots[j] ≠ .free) →
              ∃ terms : Grant,
                let most : BitVec 6 × Nat :=
                  match terms.level with
                  | .one => (0b000001, 1800) | .two => (0b000111, 3600) | .three => (0b111111, 7200)
                terms.toolId.toNat = fieldAt p 1 4 ∧ Layout.levelCode terms.level = fieldAt p 5 1 ∧
                  terms.rights = BitVec.ofNat 6 (fieldAt p 6 1) &&& most.1 ∧ terms.scope.toNat = fieldAt p 7 2 ∧
                  terms.lifetime = min (fieldAt p 9 2) most.2 ∧
                  terms.allowance = (if fieldAt p 11 2 = 0 then none else some (fieldAt p 11 2)) ∧
                  Layout.flag terms.survive = fieldAt p 13 1 ∧
                  let counter := s.grants.counter + 1
                  exec .requestGrant s =
                    .next (State.completeCommand
                      { status := .ok
                        payload := Layout.bytes
                          [(1, i.val), (4, counter.toNat), (4, s.grants.clock.toNat), (1, terms.rights.toNat),
                           (2, terms.lifetime)] }
                      (State.reportSlot i
                        { s with
                          grants := { s.grants with
                            counter := counter
                            slots := s.grants.slots.set i
                              (.challenged terms { counter := counter, clock := s.grants.clock } 0) }
                          store := s.store.queueItem (.challengeCounter counter) }))))))

/-- R114, R115: PROVE GRANT. INVALID for a slot outside 0..3, NOT-CHALLENGED for one that is not CHALLENGED; otherwise
the proof engine starts with the slot's challenge and the received proof, its key and the 31 bytes of the proof message
(section 6.5) read at that moment (log entry 17), and the command does not complete yet. R115 to R118, R140:
PROOF_RESULT, which compares the first 16 bytes of the HMAC; HMAC and SHA-256 are written from their standards (log
entry 16). A slot no longer CHALLENGED with the engine's challenge discards the result; on MATCH the slot opens with the
granted terms, tally 0 and the seconds as they stand, a failed count above 0 is cleared and queued and GRANT-OPENED
recorded; on MISMATCH the slot is freed, the failed count rises and is queued, the backoff is set, GRANT-REFUSED
recorded and the score raised by 4 with cause PROOF. -/
def Obligations.ProofsAreSettled : Prop :=
  (∀ (p : List Byte) (s : State), s.Message 0x11 p → p.length = 17 →
      (4 ≤ fieldAt p 1 1 → exec .proveGrant s = .next (s.completeCommand { status := .invalid, payload := [1] })) ∧
      ∀ i : Fin 4, fieldAt p 1 1 = i.val →
        ((∀ g c age, s.grants.slots[i] ≠ .challenged g c age) →
          exec .proveGrant s = .next (s.completeCommand { status := .notChallenged, payload := [] })) ∧
        ∀ (g : Grant) (c : Challenge) (age : Nat), s.grants.slots[i] = .challenged g c age →
          ∃ e : ProofInFlight,
            exec .proveGrant s =
              .next { s with engine := some e, link := { s.link with execution := some .proving } } ∧
            e.slot = i ∧ e.challenge = c ∧ e.received = bytesAt p 2 16 ∧
            e.message =
              s.store.held.serial.getD (zeros 8) ++
                Layout.bytes
                  [(4, c.counter.toNat), (4, c.clock.toNat), (1, i.val), (4, g.toolId.toNat),
                   (1, Layout.levelCode g.level), (1, g.rights.toNat), (2, g.scope.toNat), (2, g.lifetime),
                   (1, Layout.flag g.allowance.isSome), (2, g.allowance.getD 0), (1, Layout.flag g.survive)] ∧
            ∀ k : List Byte, s.store.held.keys[Level.index g.level] = some k → e.key = k) ∧
  (∀ (e : ProofInFlight) (s : State), s.engine = some e → s.link.execution = some .proving →
      let idle : State := { s with engine := none }
      let answered (st : Status) (t : State) : Prop :=
        exec .proofResult s = .next (t.completeCommand { status := st, payload := [] })
      ((∀ g age, s.grants.slots[e.slot] ≠ .challenged g e.challenge age) → answered .notChallenged idle) ∧
      ∀ (g : Grant) (age : Nat), s.grants.slots[e.slot] = .challenged g e.challenge age →
        ((Sha256.hmac e.key e.message).take 16 = e.received →
          let opened := idle.setSlot e.slot (.opened g 0 s.time.seconds)
          let cleared : State :=
            if 0 < s.grants.failed then
              State.queueItem (.failedCount 0) { opened with grants := { opened.grants with failed := 0 } }
            else opened
          answered .ok ((cleared.takeRecord
            { kind := .grantOpened, key := some (.slot e.slot), reason := some (.level g.level), address := none
              valueA := some g.toolId, valueB := some (BitVec.ofNat 32 g.lifetime) }).reportSlot e.slot)) ∧
        ((Sha256.hmac e.key e.message).take 16 ≠ e.received →
          let n := min (s.grants.failed + 1) 255
          let freed := idle.freeSlot e.slot
          let counted : State := State.queueItem (.failedCount (BitVec.ofNat 8 n))
            { freed with grants := { freed.grants with failed := n, backoff := min (2 ^ (n - 1)) 1024 } }
          answered .badProof ((counted.takeRecord
            { kind := .grantRefused, key := some (.slot e.slot), reason := some .badProof, address := none
              valueA := some g.toolId, valueB := some (BitVec.ofNat 32 n) }).scoreIncrement 4 .proof)))

/-- R123: CLOSE GRANT. INVALID, NOT-OPEN and NOT-OWNER, in that order, with no effect; otherwise a CHALLENGED slot is
freed without a record and an OPEN one closes with reason CLOSED. -/
def Obligations.CloseGrantCommand : Prop :=
  ∀ (p : List Byte) (s : State), s.Message 0x12 p → p.length = 5 →
    (4 ≤ fieldAt p 1 1 → exec .closeGrant s = .next (s.completeCommand { status := .invalid, payload := [1] })) ∧
    ∀ i : Fin 4, fieldAt p 1 1 = i.val →
      (s.grants.slots[i] = .free →
        exec .closeGrant s = .next (s.completeCommand { status := .notOpen, payload := [] })) ∧
      ∀ g : Grant, (s.grants.slots[i]).grant? = some g →
        (g.toolId ≠ BitVec.ofNat 32 (fieldAt p 2 4) →
          exec .closeGrant s = .next (s.completeCommand { status := .notOwner, payload := [] })) ∧
        (g.toolId = BitVec.ofNat 32 (fieldAt p 2 4) →
          (∀ c age, s.grants.slots[i] = .challenged g c age →
            exec .closeGrant s = .next ((s.freeSlot i).completeCommand { status := .ok, payload := [] })) ∧
          (∀ tally openedAt, s.grants.slots[i] = .opened g tally openedAt →
            exec .closeGrant s = .next ((s.closeSlot i .closed).completeCommand { status := .ok, payload := [] })))

/-- R113, R119, R121, R122, R169: a second at the grant table: the oldest one issued to it, or the next one to be
issued, which raises the seconds count before it reaches any block (log entry 1). A CHALLENGED slot ages and is FREE at
30; an OPEN one loses a second of lifetime and is FREE at 0, each with its GRANT-CLOSED record of reason EXPIRED, in
slot order; a FREE one stays; the backoff falls by 1 while above 0. CHALLENGE_EXPIRY, LIFETIME_EXPIRED and BACKOFF_END
are that second where it frees their CHALLENGED slot, closes their OPEN one or ends the backoff, and nothing where it
does not (log entry 4). -/
def Obligations.SecondsOfTheGrantTable : Prop :=
  ∀ s : State, ∃ t : State, exec .grantTableSecond s = .next t ∧
      t = { s with
        time := t.time, grants := t.grants, decision := t.decision, log := t.log, out := t.out, store := t.store } ∧
      t.time = s.time.takeGrantSecond ∧
      t.grants = { s.grants with slots := t.grants.slots, backoff := s.grants.backoff - 1 } ∧
      t.decision.score = s.decision.score ∧ t.decision.lockdown = s.decision.lockdown ∧
      (∀ i : Fin 4,
        (s.grants.slots[i] = .free → t.grants.slots[i] = .free) ∧
        (∀ g c age, s.grants.slots[i] = .challenged g c age →
          t.grants.slots[i] = if age + 1 < 30 then .challenged g c (age + 1) else .free) ∧
        (∀ g tally openedAt, s.grants.slots[i] = .opened g tally openedAt →
          t.grants.slots[i] =
            if 1 < g.lifetime then .opened { g with lifetime := g.lifetime - 1 } tally openedAt else .free)) ∧
      t.log =
        (State.takeRecords (s.grants.closeReports .expired fun g => decide (g.lifetime ≤ 1))
          { s with time := t.time }).log ∧
      (∀ i : Fin 4,
        (∀ g c age, s.grants.slots[i] = .challenged g c age →
          exec (.challengeExpiry i) s = .next (if 30 ≤ age + 1 then t else s)) ∧
        ((∀ g c age, s.grants.slots[i] ≠ .challenged g c age) → exec (.challengeExpiry i) s = .next s) ∧
        (∀ g tally openedAt, s.grants.slots[i] = .opened g tally openedAt →
          exec (.lifetimeExpired i) s = .next (if g.lifetime ≤ 1 then t else s)) ∧
        ((∀ g tally openedAt, s.grants.slots[i] ≠ .opened g tally openedAt) →
          exec (.lifetimeExpired i) s = .next s)) ∧
      exec .backoffEnd s = .next (if s.grants.backoff = 1 then t else s)

/-- R122, R124, R177: an ignition-off issued to the grant table, which takes it: every slot without survive-ignition is
freed and the others stay; each OPEN one it closes gives its GRANT-CLOSED record of reason IGNITION, in slot order, and
nothing else is recorded. With none issued there is nothing to take (log entry 3). -/
def Obligations.IgnitionOffFreesSlots : Prop :=
  ∀ s : State,
    (s.ignition.grantOffs = 0 → exec .ignitionOffGrantTable s = .next s) ∧
    (s.ignition.grantOffs ≠ 0 → ∃ t : State, exec .ignitionOffGrantTable s = .next t ∧
      t = { s with
        ignition := { s.ignition with grantOffs := s.ignition.grantOffs - 1 }
        grants := t.grants, decision := t.decision, log := t.log, out := t.out, store := t.store } ∧
      t.grants = { s.grants with slots := t.grants.slots } ∧ t.decision.score = s.decision.score ∧
      (∀ i : Fin 4, t.grants.slots[i] =
        match (s.grants.slots[i]).grant? with
        | some g => if g.survive then s.grants.slots[i] else .free
        | none => .free) ∧
      t.log = (s.takeRecords (s.grants.closeReports .ignition fun g => !g.survive)).log)

/-- R126: the acting-grant check passes exactly when the slot number is 0..3, the slot is OPEN and the tool ids are
equal; a command that needs an acting grant and finds none is answered DENIED and has no effect (R127). R70, R147:
UNLOCK needs level 3; on a NORMAL part it is OK and changes nothing; in lockdown the state becomes NORMAL, the score 0,
the lockdown mark is queued cleared, which its held value then is (R190), and UNLOCK is recorded with the score before;
the decay count and the pulse channels stay. RESET ECU needs level 2 or 3 and signals one reset-request cause (R147). -/
def Obligations.ActingGrantsUnlockAndReset : Prop :=
  (∀ (p : List Byte) (s : State),
      (∀ (i : Fin 4) (g : Grant), s.actingGrant (.read p) = some (i, g) ↔
        fieldAt p 1 1 = i.val ∧ ∃ tally openedAt, s.grants.slots[i] = .opened g tally openedAt ∧
          g.toolId = BitVec.ofNat 32 (fieldAt p 2 4)) ∧
      (s.actingGrant (.read p) = none →
        ∀ row ∈ ([(.releaseLog, 0x21, 6), (.resetEcu, 0x40, 5), (.unlock, 0x41, 5)] : List (Instr × Byte × Nat)),
          s.Message row.2.1 p → p.length = row.2.2 →
            exec row.1 s = .next (s.completeCommand { status := .denied, payload := [] }))) ∧
  (∀ (p : List Byte) (i : Fin 4) (g : Grant) (s : State), p.length = 5 → s.actingGrant (.read p) = some (i, g) →
      (s.Message 0x41 p →
        (g.level ≠ .three → exec .unlock s = .next (s.completeCommand { status := .denied, payload := [] })) ∧
        (g.level = .three → s.decision.lockdown = false →
          exec .unlock s = .next (s.completeCommand { status := .ok, payload := [] })) ∧
        (g.level = .three → s.decision.lockdown = true → ∃ t : State,
          let recorded : State := State.takeRecord
            { kind := .unlock, key := some (.slot i), reason := none, address := none
              valueA := some (BitVec.ofNat 32 s.decision.score), valueB := some g.toolId }
            { s with store := s.store.queueItem (.lockdownMark false) }
          exec .unlock s = .next t ∧ t.decision = { s.decision with lockdown := false, score := 0 } ∧
            t.link = s.link.complete s.table.settings.divisor { status := .ok, payload := [] } ∧
            t.store = recorded.store ∧ t.store.held.lockdownMark = some false ∧ t.log = recorded.log ∧
            t = { s with decision := t.decision, link := t.link, log := t.log, out := t.out, store := t.store } ∧
            t.out.alert = s.out.alert ∧ t.out.resetRequest = s.out.resetRequest)) ∧
      (s.Message 0x40 p →
        (g.level = .one → exec .resetEcu s = .next (s.completeCommand { status := .denied, payload := [] })) ∧
        (g.level ≠ .one →
          exec .resetEcu s =
            .next (State.completeCommand { status := .ok, payload := [] }
              { s with out := { s.out with resetRequest := s.out.resetRequest.signal s.out.started } }))))

/-! ## Score, decay and lockdown -/

/-- R64, R65, R67, R68, R125: an increment. The score saturates at 255; crossing the alert threshold upward signals one
alert cause; a part not in lockdown whose score is then at or above a nonzero lockdown threshold enters lockdown, in
order: the mark is queued to the store, before any item that a record queues; every slot of level 1 or 2 is freed, an
OPEN one with its GRANT-CLOSED record of reason LOCKDOWN; the LOCKDOWN record holds the cause, the score and the number
of slots freed; one alert and one reset-request cause are signalled. -/
def Obligations.ScoreIncrement : Prop :=
  ∀ (n : Nat) (cause : Reason) (s : State),
    let t := s.scoreIncrement n cause
    let score := min (s.decision.score + n) 255
    let st := s.table.settings
    let enters : Prop := s.decision.lockdown = false ∧ st.lockdownThreshold ≠ 0 ∧ st.lockdownThreshold ≤ score
    let alerted : Channel :=
      if s.decision.score < st.alertThreshold ∧ st.alertThreshold ≤ score then s.out.alert.signal s.out.started
      else s.out.alert
    t.decision.score = score ∧ t.decision.decayCount = s.decision.decayCount ∧
      t = { s with grants := t.grants, decision := t.decision, log := t.log, out := t.out, store := t.store } ∧
      (¬ enters →
        t.decision = { s.decision with score := score } ∧ t.grants = s.grants ∧ t.log = s.log ∧ t.store = s.store ∧
          t.out.resetRequest = s.out.resetRequest ∧ t.out.alert = alerted ∧
          t.out =
            { (State.reportScore { s with decision := { s.decision with score := score } }).out with alert := alerted }) ∧
      (enters →
        let low (i : Fin 4) : Prop := ∃ g : Grant, (s.grants.slots[i]).grant? = some g ∧ g.level ≠ .three
        t.decision.lockdown = true ∧ t.store.held.lockdownMark = some true ∧
          t.out.alert = alerted.signal s.out.started ∧
          t.out.resetRequest = s.out.resetRequest.signal s.out.started ∧
          t.grants = { s.grants with slots := t.grants.slots } ∧
          (∀ i : Fin 4, (low i → t.grants.slots[i] = .free) ∧ (¬ low i → t.grants.slots[i] = s.grants.slots[i])) ∧
          ∃ freed : List (Fin 4), freed.Nodup ∧ (∀ i : Fin 4, i ∈ freed ↔ low i) ∧
            let recorded : State := State.takeRecords
              (s.grants.closeReports .lockdown (fun g => decide (g.level ≠ .three)) ++
                [{ kind := .lockdown, key := none, reason := some cause, address := none
                   valueA := some (BitVec.ofNat 32 score), valueB := some (BitVec.ofNat 32 freed.length) }])
              { s with store := s.store.queueItem (.lockdownMark true) }
            t.log = recorded.log ∧ t.store = recorded.store)

/-- R66: a second at the decision unit: the oldest one issued to it, or the next one to be issued (log entry 1). The
decay count rises by 1; where it then reaches the decay interval it returns to 0, the score falls by 1 if above 0, and
is reported. SCORE_DECAY is that second where it reaches the interval, and nothing where it does not (log entry 4). -/
def Obligations.DecaySteps : Prop :=
  ∀ s : State,
    let s1 : State := { s with time := s.time.takeDecisionSecond }
    let decayed : State := State.reportScore
      { s1 with decision := { s.decision with decayCount := 0, score := s.decision.score - 1 } }
    (s.decision.decayCount + 1 < s.table.settings.decayInterval →
      exec .decayCount s = .next { s1 with decision := { s.decision with decayCount := s.decision.decayCount + 1 } } ∧
        exec .scoreDecay s = .next s) ∧
    (s.table.settings.decayInterval ≤ s.decision.decayCount + 1 →
      exec .decayCount s = .next decayed ∧ exec .scoreDecay s = .next decayed)

/-! ## The service link -/

/-- R46, R132, R135, R137, R138: a frame arrival, of the frame whose start bit was confirmed, judged with the framing
read at that start; without one, and while OFF, nothing arrives (log entry 3). In EXECUTING and REPLYING it starts
nothing; a GOOD address frame with the node address or 255 opens a message, another one returns the receiver to
LISTENING; a data frame is passed over in LISTENING, discards the message in RECEIVING when it has an error, and is
taken when it is GOOD. R133: where a tick has made the live divisor 0 within the frame, the link goes OFF as the frame
ends. R131, R132: the result of a frame, from its stop bits, its parity bit and the number of its high bits. -/
def Obligations.FrameArrivals : Prop :=
  (∀ (f : FrameBits) (s : State), s.link.receiver = .off ∨ s.link.line.busy = false → exec (.frameArrival f) s = .next s) ∧
  (∀ (f : FrameBits) (l : Link) (s : State), s.link.offDue = true → s.link.receiver ≠ .off → s.link.line.busy = true →
      exec (.frameArrival f) { s with link := { s.link with offDue := false } } = .next { s with link := l } →
      exec (.frameArrival f) s =
        .next { s with
          link := { l with
            receiver := .off, buffer := if l.receiver = .receiving then none else l.buffer, reply := none
            offDue := false } }) ∧
  (∀ (f : FrameBits) (fr : Framing) (s : State), s.link.line = .inFrame fr → s.link.offDue = false →
      let r := frameResult fr f
      let line : LineReceiver := if r = .framingError then .waitingHigh else .watching
      let arrives (l : Link) : Prop := exec (.frameArrival f) s = .next { s with link := { l with line := line } }
      let opens (a : AddressedAs) : Link :=
        { s.link with
          receiver := .receiving
          buffer := some { addressedAs := a, length := none, taken := 0, command := none, payload := [], check := none
                           gap := 0 } }
      let shut : Link := { s.link with receiver := .listening, buffer := none }
      (s.link.receiver = .executing ∨ s.link.receiver = .replying → arrives s.link) ∧
      (s.link.receiver = .listening → f.mark = false → arrives s.link) ∧
      (s.link.receiver = .listening ∨ s.link.receiver = .receiving → f.mark = true →
        (r = .good → f.data = s.table.settings.nodeAddress → arrives (opens .node)) ∧
        (r = .good → f.data ≠ s.table.settings.nodeAddress → f.data = 255 → arrives (opens .all)) ∧
        (r ≠ .good ∨ (f.data ≠ s.table.settings.nodeAddress ∧ f.data ≠ 255) → arrives shut)) ∧
      (s.link.receiver = .receiving → f.mark = false →
        (r ≠ .good → arrives shut) ∧
        ∀ m : MessageBuffer, s.link.buffer = some m → r = .good →
          (m.length = none → 2 ≤ f.data.toNat → f.data.toNat ≤ 62 →
            arrives { s.link with buffer := some { m with length := some f.data.toNat, gap := 0 } }) ∧
          (m.length = none → f.data.toNat < 2 ∨ 62 < f.data.toNat →
            arrives { s.link with
              receiver := .executing, buffer := some { m with gap := 0 }, execution := some (.lengthError f.data) }) ∧
          (∀ len : Nat, m.length = some len →
            let m1 := { m with taken := m.taken + 1, gap := 0 }
            let took : MessageBuffer :=
              match m.command with
              | none => { m1 with command := some f.data }
              | some _ =>
                if m.taken + 1 < len then { m1 with payload := m.payload ++ [f.data] }
                else { m1 with check := some f.data }
            (m.taken + 1 < len → arrives { s.link with buffer := some took }) ∧
            (len ≤ m.taken + 1 →
              arrives { s.link with receiver := .executing, buffer := some took, execution := some .handOver })))) ∧
  (∀ (fr : Framing) (f : FrameBits),
      (frameResult fr f = .framingError ↔ f.stop1 = false ∨ (fr.stopBits = .two ∧ f.stop2 = false)) ∧
      (frameResult fr f = .parityError ↔
        f.stop1 = true ∧ (fr.stopBits = .two → f.stop2 = true) ∧
          ((fr.parityMode = .even ∧ highBits f % 2 = 1) ∨ (fr.parityMode = .odd ∧ highBits f % 2 = 0)))) ∧
  ∀ f : FrameBits, highBits f = ([f.mark, f.parity] ++ (List.range 8).map f.data.getLsbD).count true

/-- R132, R133, R137, R141: the link's other events. A fall is a start bit or noise, and after a FRAMING-ERROR only once
the line has been high; the gap limit discards a message; LINK_OFF is the end of the frame that was being sent as a tick
made the live divisor 0; at the end of a reply the receiver of the line watches for a fall, or the link goes OFF, within
a frame received before the reply's first one too (log entry 33). That a frame received starts at the confirmation of
its start bit is log entry 18. Each row stands for its time having passed (log entries 1 and 19); out of turn, a row
changes nothing (log entry 3). -/
def Obligations.LinkEvents : Prop :=
  ∀ s : State,
    let l := s.link
    let framing : Framing :=
      { divisor := s.table.settings.divisor, parityMode := s.table.settings.parityMode
        stopBits := s.table.settings.stopBits }
    let becomes (c : Instr) (line : LineReceiver) : Prop := exec c s = .next { s with link := { l with line := line } }
    (∀ rose low : Bool, l.receiver ≠ .off → l.sending = false →
      let c := Instr.startBitConfirmed { rose := rose, low := low }
      (l.line = .watching → becomes c (if low then .inFrame framing else .watching)) ∧
      (l.line = .waitingHigh →
        becomes c (if low = false then .watching else if rose then .inFrame framing else .waitingHigh))) ∧
    (∀ fall : LineFall, l.receiver = .off ∨ l.sending = true ∨ l.line.busy = true →
      exec (.startBitConfirmed fall) s = .next s) ∧
    exec .gapTimeout s =
      .next (if l.receiver = .receiving ∧ l.line.busy = false then
          { s with link := { l with receiver := .listening, buffer := none } }
        else s) ∧
    (l.offDue = true → l.line.busy = false →
      exec .linkOff s =
        .next { s with
          link := { l with
            receiver := .off, buffer := if l.receiver = .receiving then none else l.buffer, reply := none
            offDue := false } }) ∧
    (l.offDue = false ∨ l.line.busy = true → exec .linkOff s = .next s) ∧
    (l.receiver ≠ .replying → exec .replySent s = .next s) ∧
    (l.receiver = .replying → l.offDue = false →
      exec .replySent s = .next { s with link := { l with receiver := .listening, line := .watching, reply := none } }) ∧
    (l.receiver = .replying → l.offDue = true →
      exec .replySent s =
        .next { s with link := { l with receiver := .off, line := .watching, reply := none, offDue := false } })

/-- R136, R139, R141, R142: messages that reach no executing block. A wrong check is answered CHECK-ERROR and a payload
of the wrong length INVALID with offset 0, whatever the command; an undefined command UNKNOWN; a length byte out of
range LENGTH-ERROR with the length received. Only the link changes. The check is right when length, command,
payload and check sum to 0 modulo 256. R149: a block reads the fields of the payload at offsets that count from 1, a
number least significant byte first. -/
def Obligations.MessagesRefusedByTheLink : Prop :=
  (∀ (m : MessageBuffer) (s : State),
    let rows : List (Instr × Byte × Nat) :=
      [(.identify, 0x01, 0), (.status, 0x02, 0), (.requestGrant, 0x10, 13), (.proveGrant, 0x11, 17),
       (.closeGrant, 0x12, 5), (.listGrants, 0x13, 0), (.readLog, 0x20, 1), (.releaseLog, 0x21, 6), (.readCell, 0x28, 1),
       (.readTable, 0x30, 2), (.stageWindow, 0x31, 23), (.stageCell, 0x32, 17), (.stageSettings, 0x33, 19),
       (.applyStaged, 0x34, 5), (.discardStaged, 0x35, 5), (.resetEcu, 0x40, 5), (.unlock, 0x41, 5),
       (.provisionKey, 0x50, 33), (.provisionIdentity, 0x51, 9), (.finishProvisioning, 0x52, 0)]
    (s.message = some m →
      (∀ row ∈ rows, m.command = some row.2.1 →
        (m.sumIsZero = false → exec row.1 s = .next (s.completeCommand { status := .checkError, payload := [] })) ∧
        (m.sumIsZero = true → m.payload.length ≠ row.2.2 →
          exec row.1 s = .next (s.completeCommand { status := .invalid, payload := [0] }))) ∧
      (∀ b : Byte, m.command = some b → (∀ row ∈ rows, row.2.1 ≠ b) →
        exec .unknown s =
          .next (s.completeCommand { status := if m.sumIsZero then .unknown else .checkError, payload := [] }))) ∧
    (∀ b : Byte, s.link.execution = some (.lengthError b) →
      exec .lengthError s = .next (s.completeCommand { status := .lengthError, payload := [b] }))) ∧
  (∀ m : MessageBuffer, m.sumIsZero = true ↔
    List.foldl (· + ·) 0
      (BitVec.ofNat 8 (m.length.getD 0) :: m.command.getD 0 :: m.payload ++ [m.check.getD 0]) = (0 : Byte)) ∧
  (∀ (m : MessageBuffer) (s : State),
    s.message = some m ↔ s.link.execution = some .handOver ∧ s.link.buffer = some m) ∧
  ∀ (p : List Byte) (offset size : Nat), 1 ≤ offset →
    bytesAt p offset size = (p.drop (offset - 1)).take size ∧ fieldAt p offset 0 = 0 ∧
      fieldAt p offset (size + 1) = (p.getD (offset - 1) 0).toNat + 256 * fieldAt p (offset + 1) size

/-- R131, R133, R140, R141: completion. Addressed as NODE the reply is sent: one address frame with address 0, then data
frames with the length, the echoed command, the status, the payload and the check; its first frame begins two bit times
later, at the divisor as it stands (log entry 27). Addressed as ALL none is; a link gone OFF sends none and stays OFF.
The bytes of a reply sum to 0 modulo 256, and its status is one of the codes 0x00 to 0x0F in the order of section 6.3
(section 6.5). A frame sent has a low start bit, the data bits, the mark bit, the parity bit
of its mode and high stop bits, each for a bit time, and the line is driven within a frame only. -/
def Obligations.CommandsComplete : Prop :=
  (∀ (a : Answer) (m : MessageBuffer) (s : State), s.link.buffer = some m →
    let t := s.completeCommand a
    t = { s with link := t.link } ∧ t.link.buffer = none ∧ t.link.execution = none ∧
      (s.link.receiver ≠ .off → m.addressedAs = .node →
        t.link.receiver = .replying ∧
          t.link.reply =
            some
              { transmission := .lead (32 * s.table.settings.divisor)
                waiting := { mark := true, data := 0 } ::
                  (replyBytes (m.command.getD 0) a).map fun b => { mark := false, data := b } }) ∧
      (s.link.receiver ≠ .off → m.addressedAs = .all → t.link.receiver = .listening ∧ t.link.reply = none) ∧
      (s.link.receiver = .off → t.link.receiver = .off ∧ t.link.reply = none)) ∧
  (∀ (command : Byte) (a : Answer),
    (replyBytes command a).foldl (· + ·) 0 = 0 ∧
      ∃ check : Byte,
        replyBytes command a =
          BitVec.ofNat 8 (3 + a.payload.length) :: command :: a.status.byteCode :: a.payload ++ [check]) ∧
  (∀ st : Status, (st, st.byteCode) ∈
    ([(.ok, 0x00), (.busy, 0x01), (.wait, 0x02), (.full, 0x03), (.denied, 0x04), (.notOpen, 0x05), (.notOwner, 0x06),
      (.notChallenged, 0x07), (.badProof, 0x08), (.invalid, 0x09), (.locked, 0x0A), (.notProvisioned, 0x0B),
      (.alreadyProvisioned, 0x0C), (.checkError, 0x0D), (.lengthError, 0x0E), (.unknown, 0x0F)] :
      List (Status × Byte))) ∧
  (∀ (fr : Framing) (f : ReplyFrame), ∃ parity : List Bool,
    f.bits fr =
        [false, f.data.getLsbD 0, f.data.getLsbD 1, f.data.getLsbD 2, f.data.getLsbD 3, f.data.getLsbD 4,
          f.data.getLsbD 5, f.data.getLsbD 6, f.data.getLsbD 7, f.mark] ++ parity ++
          (match fr.stopBits with | .one => [true] | .two => [true, true]) ∧
      (fr.parityMode = .none → parity = []) ∧
      (fr.parityMode ≠ .none → ∃ p : Bool, parity = [p] ∧
        ((highBits { data := f.data, mark := f.mark, parity := p, stop1 := true, stop2 := true } % 2 = 0) ↔
          fr.parityMode = .even))) ∧
  ∀ l : Link,
    (l.sending = false → l.drives = none) ∧
    ∀ (f : ReplyFrame) (fr : Framing) (elapsed k : Nat) (waiting : List ReplyFrame),
      l.reply = some { transmission := .sending f fr elapsed, waiting := waiting } →
      16 * fr.divisor * k ≤ elapsed → elapsed < 16 * fr.divisor * (k + 1) → k < (f.bits fr).length →
      l.drives = (f.bits fr)[k]? ∧ l.drives.isSome = true

/-- R39, R103, R128, R143, R145, R146, R149, R159: the commands that only report, byte by byte by the layouts of section
6.5. Each completes with its payload and changes nothing but the link. That a READING cell reports none while an
operation of its old definition other than a read is in flight is log entry 12. That READ TABLE with both its selector
and its entry out of range names the selector's offset is the model's choice (log entry 34): R39 and R146 give the two
conditions no order. -/
def Obligations.ReportingCommands : Prop :=
  ∀ (p : List Byte) (s : State),
    let reports (c : Instr) (fields : List (Nat × Nat)) : Prop :=
      exec c s = .next (s.completeCommand { status := .ok, payload := Layout.bytes fields })
    let stateCode (i : Fin 4) : Nat :=
      match s.grants.slots[i] with | .free => 0 | .challenged _ _ _ => 1 | .opened _ _ _ => 2
    let present (size : Nat) (value : Option (List (Nat × Nat))) : List (Nat × Nat) :=
      match value with | none => [(1, 0), (size, 0)] | some fields => (1, 1) :: fields
    (s.Message 0x01 p → p.length = 0 → exec .identify s = .next (s.completeCommand
      { status := .ok
        payload := s.store.held.serial.getD (Layout.number 8 0) ++ Layout.bytes
          [(1, s.table.settings.nodeAddress.toNat), (4, (s.store.held.powerOnCount.getD 0).toNat),
           (1, if s.store.held.provisionedMark = some true then 1 else 0)] })) ∧
    (s.Message 0x02 p → p.length = 0 →
      reports .status
        [(1, Layout.flag s.ignition.level), (1, Layout.flag s.decision.lockdown), (1, s.decision.score),
         (1, stateCode 0), (1, stateCode 1), (1, stateCode 2), (1, stateCode 3), (1, s.log.records.length),
         (2, s.log.dropped), (1, s.grants.failed), (2, s.grants.backoff), (1, if s.table.apply = .idle then 0 else 1)]) ∧
    (s.Message 0x13 p → p.length = 0 →
      reports .listGrants
        (Layout.slot s.grants.slots[(0 : Fin 4)] ++ Layout.slot s.grants.slots[(1 : Fin 4)] ++
          Layout.slot s.grants.slots[(2 : Fin 4)] ++ Layout.slot s.grants.slots[(3 : Fin 4)])) ∧
    (s.Message 0x20 p → p.length = 1 →
      (63 < fieldAt p 1 1 → exec .readLog s = .next (s.completeCommand { status := .invalid, payload := [1] })) ∧
      (fieldAt p 1 1 ≤ 63 →
        let found := (s.log.records.drop (fieldAt p 1 1)).take 2
        reports .readLog ((1, s.log.records.length) :: (1, found.length) :: found.flatMap Layout.record))) ∧
    (s.Message 0x28 p → p.length = 1 →
      (7 < fieldAt p 1 1 → exec .readCell s = .next (s.completeCommand { status := .invalid, payload := [1] })) ∧
      ∀ n : Fin 8, fieldAt p 1 1 = n.val →
        reports .readCell ((1, n.val) :: Layout.cell (s.cell n).defn ++ Layout.cellState (s.cell n))) ∧
    (s.Message 0x30 p → p.length = 2 →
      let st := s.table.staged
      (1 < fieldAt p 1 1 → exec .readTable s = .next (s.completeCommand { status := .invalid, payload := [1] })) ∧
      (fieldAt p 1 1 ≤ 1 → 17 < fieldAt p 2 1 →
        exec .readTable s = .next (s.completeCommand { status := .invalid, payload := [2] })) ∧
      (∀ n : Fin 8, fieldAt p 2 1 = n.val →
        (fieldAt p 1 1 = 0 → reports .readTable ([(1, 0), (1, n.val), (1, 1)] ++ Layout.window s.table.windows[n])) ∧
        (fieldAt p 1 1 = 1 →
          reports .readTable ([(1, 1), (1, n.val)] ++ present 17 ((st.windows[n]).map Layout.window)))) ∧
      (fieldAt p 2 1 = 8 →
        (fieldAt p 1 1 = 0 → reports .readTable ([(1, 0), (1, 8), (1, 1)] ++ Layout.dflt s.table.dflt)) ∧
        (fieldAt p 1 1 = 1 → reports .readTable ([(1, 1), (1, 8)] ++ present 17 (st.dflt.map Layout.dflt)))) ∧
      (∀ n : Fin 8, fieldAt p 2 1 = 9 + n.val →
        (fieldAt p 1 1 = 0 →
          reports .readTable ([(1, 0), (1, 9 + n.val), (1, 1)] ++ Layout.cell (s.cell n).defn)) ∧
        (fieldAt p 1 1 = 1 →
          reports .readTable ([(1, 1), (1, 9 + n.val)] ++ present 11 ((st.cells[n]).map Layout.cell)))) ∧
      (fieldAt p 2 1 = 17 →
        (fieldAt p 1 1 = 0 →
          reports .readTable ([(1, 0), (1, 17), (1, 1)] ++ Layout.settings s.table.settings)) ∧
        (fieldAt p 1 1 = 1 →
          reports .readTable ([(1, 1), (1, 17)] ++ present 14 (st.settings.map Layout.settings)))))

/-! ## Outputs, timebase and ignition -/

/-- R170, R185 to R189: LAMP_STEP is the lamp step with the number the timebase gave it; one with another number was not
issued (log entry 3). It evaluates both lamps: the patterns from the mirrors, the lit states from the step, the tamper
lamp in the opposite phase while both are SLOW, and each driver from its lit state, the polarity, started and the
ignition mirror. R185: so does each report that changes an input of a pattern: of a slot, which sets workshop-active too
(R184), of the lockdown state, of the score and of the alarm indication. R177: IGNITION_MIRROR is the oldest ignition
event issued to the output unit, and none where that is of the other kind or there is none (log entry 3); it sets the
mirror and drives or releases both drivers at once. -/
def Obligations.LampsAreEvaluated : Prop :=
  ∀ s : State,
    let st := s.table.settings
    let driver (driven lit : Bool) : LampDriver :=
      if driven = false then .released
      else if (lit = true ∧ st.polarity = .activeHigh) ∨ (lit = false ∧ st.polarity = .activeLow) then .high
      else .low
    let evaluated (u o : OutputUnit) : Prop :=
      o = { u with workshopLamp := o.workshopLamp, tamperLamp := o.tamperLamp } ∧
      (u.started = false → o.workshopLamp = .dark ∧ o.tamperLamp = .dark) ∧
      (u.started = true →
        (o.workshopLamp.pattern = .steady ↔ ∃ i : Fin 4, u.slotMirror[i] = .opened) ∧
        (o.workshopLamp.pattern = .slow ↔
          (∀ i : Fin 4, u.slotMirror[i] ≠ .opened) ∧ ∃ i : Fin 4, u.slotMirror[i] = .challenged) ∧
        (o.workshopLamp.pattern = .off ↔ ∀ i : Fin 4, u.slotMirror[i] = .free) ∧
        o.tamperLamp.pattern =
          (if u.lockdownMirror then .steady
           else if u.alarmMirror then .fast
           else if st.alertThreshold ≤ u.scoreMirror then .slow
           else .off) ∧
        (o.workshopLamp.lit = true ↔
          o.workshopLamp.pattern = .steady ∨ (o.workshopLamp.pattern = .slow ∧ u.lampStep.val ≤ 15)) ∧
        (o.tamperLamp.lit = true ↔
          o.tamperLamp.pattern = .steady ∨
            (o.tamperLamp.pattern = .fast ∧
              u.lampStep.val ∈ [0, 1, 2, 3, 8, 9, 10, 11, 16, 17, 18, 19, 24, 25, 26, 27]) ∨
            (o.tamperLamp.pattern = .slow ∧
              if o.workshopLamp.pattern = .slow then 16 ≤ u.lampStep.val else u.lampStep.val ≤ 15)) ∧
        o.workshopLamp.driver = driver u.ignitionMirror o.workshopLamp.lit ∧
        o.tamperLamp.driver = driver u.ignitionMirror o.tamperLamp.lit)
    let reports (t : State) (changed : Prop) (u : OutputUnit) : Prop :=
      (changed → ∃ o : OutputUnit, t = { s with out := o } ∧ evaluated u o) ∧ (¬ changed → t = s)
    (∀ n : Fin 32, n ≠ s.time.nextLampStep → exec (.lampStep n) s = .next s) ∧
    (∀ n : Fin 32, n = s.time.nextLampStep →
      ∃ o : OutputUnit, exec (.lampStep n) s = .next { s with time := s.time.takeLampStep, out := o } ∧
        evaluated { s.out with lampStep := n } o) ∧
    (∀ i : Fin 4, ∃ (u o : OutputUnit), s.reportSlot i = { s with out := o } ∧ evaluated u o ∧
      u = { s.out with
        slotMirror := s.out.slotMirror.set i
          (match s.grants.slots[i] with
           | .free => .free
           | .challenged _ _ _ => .challenged
           | .opened _ _ _ => .opened)
        workshopActive := u.workshopActive } ∧
      (u.workshopActive = true ↔ ∃ j : Fin 4, u.slotMirror[j] = .opened)) ∧
    reports s.reportLockdown (s.out.lockdownMirror ≠ s.decision.lockdown)
      { s.out with lockdownMirror := s.decision.lockdown } ∧
    reports s.reportScore (s.out.scoreMirror ≠ s.decision.score) { s.out with scoreMirror := s.decision.score } ∧
    reports s.reportAlarm (s.out.alarmMirror ≠ s.log.alarm) { s.out with alarmMirror := s.log.alarm } ∧
    ∀ on : Bool,
      (s.ignition.mirrorEvents.head? ≠ some on → exec (.ignitionMirror on) s = .next s) ∧
      ∀ rest : List Bool, s.ignition.mirrorEvents = on :: rest → exec (.ignitionMirror on) s =
        .next { s with
          ignition := { s.ignition with mirrorEvents := rest }
          out := { s.out with
            ignitionMirror := on
            workshopLamp := { s.out.workshopLamp with driver := driver (s.out.started && on) s.out.workshopLamp.lit }
            tamperLamp := { s.out.tamperLamp with driver := driver (s.out.started && on) s.out.tamperLamp.lit } } }

/-- R180, R182, R183: the pulse channels. A cause starts a pulse in IDLE, merges in DRIVING, is held in GAP and while
started is no; the end of a pulse begins the gap; the end of a gap starts a pulse for a held cause or leaves the channel
IDLE, with the count at 0 by the model's choice, since R180 gives IDLE no count (log entry 38); the count rises in
between. The four rows for the ends of pulses and gaps stand for the count having been reached (log entry 1). -/
def Obligations.PulseChannels : Prop :=
  (∀ (started : Bool) (c : Channel) (limit : Nat),
    c.signal started =
      (if started = false then { c with held := true }
       else
         match c.phase with
         | .idle => { c with phase := .driving, count := 0 }
         | .driving => c
         | .gap => { c with held := true }) ∧
    (c.phase = .idle → c.period limit = c) ∧
    (c.phase ≠ .idle → c.count + 1 < limit → c.period limit = { c with count := c.count + 1 }) ∧
    (c.phase = .driving → limit ≤ c.count + 1 → c.period limit = { c with phase := .gap, count := 0 }) ∧
    (c.phase = .gap → limit ≤ c.count + 1 →
      c.period limit = { phase := if c.held then .driving else .idle, count := 0, held := false })) ∧
  ∀ s : State,
    let pulse (c : Channel) : Channel := if c.phase = .driving then { c with phase := .gap, count := 0 } else c
    let gap (c : Channel) : Channel :=
      if c.phase = .gap then { phase := if c.held then .driving else .idle, count := 0, held := false } else c
    exec .alertPulseEnd s = .next { s with out := { s.out with alert := pulse s.out.alert } } ∧
      exec .alertGapEnd s = .next { s with out := { s.out with alert := gap s.out.alert } } ∧
      exec .resetRequestPulseEnd s = .next { s with out := { s.out with resetRequest := pulse s.out.resetRequest } } ∧
      exec .resetRequestGapEnd s = .next { s with out := { s.out with resetRequest := gap s.out.resetRequest } }

/-- R173, R174: an ignition sample joins the history, of which the most recent four stay; four equal samples at a level
other than the filtered one change it and issue the event, and in every other case the level stays and no event is
issued. R177: the event goes to the output unit, and an ignition-off to the grant table and to the counter guard too.
R168 to R170: a period of the timebase clock raises the period count, from 32767 to 0, and issues the events of the new
value with their numbers; the seconds rise with a second event. R171: a block takes the oldest event issued to it; where
none waits, the command stands for the periods until the next one is issued, one after the other, having passed (log
entry 1). -/
def Obligations.IgnitionSampleIsFiltered : Prop :=
  (∀ (line : Bool) (s : State), ∃ f : IgnitionFilter,
    exec (.ignitionSample line) s = .next { s with ignition := f, time := s.time.takeSample } ∧
      (s.ignition.history.length < 4 → f.history = s.ignition.history ++ [line]) ∧
      (∀ (oldest : Bool) (rest : List Bool), s.ignition.history = oldest :: rest → rest.length = 3 →
        f.history = rest ++ [line]) ∧
      (f.history = [line, line, line, line] → line ≠ s.ignition.level →
        let offs : Nat := if line then 0 else 1
        f = { history := f.history, level := line, grantOffs := s.ignition.grantOffs + offs
              guardOffs := s.ignition.guardOffs + offs, mirrorEvents := s.ignition.mirrorEvents ++ [line] }) ∧
      (f.history ≠ [line, line, line, line] ∨ line = s.ignition.level →
        f = { s.ignition with history := f.history })) ∧
  (∀ t : Timebase, t.periodCount ≤ 32767 →
    let c := if t.periodCount = 32767 then 0 else t.periodCount + 1
    let u := t.period
    u.periodCount = c ∧
      (128 ∣ c → u.samples = t.samples + 1) ∧ (¬ 128 ∣ c → u.samples = t.samples) ∧
      (∀ n : Fin 32, c = 1024 * n.val → u.lampSteps = t.lampSteps ++ [n]) ∧ (¬ 1024 ∣ c → u.lampSteps = t.lampSteps) ∧
      (∀ n : Fin 8, c = 4096 * n.val → u.guardTicks = t.guardTicks ++ [n] ∧ u.tableTicks = t.tableTicks ++ [n]) ∧
      (¬ 4096 ∣ c → u.guardTicks = t.guardTicks ∧ u.tableTicks = t.tableTicks) ∧
      (c = 0 → u.seconds = t.seconds + 1 ∧ u.grantSeconds = t.grantSeconds + 1 ∧
        u.decisionSeconds = t.decisionSeconds + 1) ∧
      (c ≠ 0 → u.seconds = t.seconds ∧ u.grantSeconds = t.grantSeconds ∧ u.decisionSeconds = t.decisionSeconds) ∧
      t.elapse 0 = t) ∧
  (∀ (n : Nat) (t : Timebase), t.elapse (n + 1) = (t.elapse n).period) ∧
  ∀ t : Timebase,
    let next (k : Nat) : Timebase := t.elapse (k - t.periodCount % k)
    (t.samples ≠ 0 → t.takeSample = { t with samples := t.samples - 1 }) ∧
      (t.samples = 0 → t.takeSample = { next 128 with samples := 0 }) ∧
      (∀ (n : Fin 32) (rest : List (Fin 32)), t.lampSteps = n :: rest →
        t.nextLampStep = n ∧ t.takeLampStep = { t with lampSteps := rest }) ∧
      (t.lampSteps = [] →
        t.nextLampStep.val = (t.periodCount / 1024 + 1) % 32 ∧ t.takeLampStep = { next 1024 with lampSteps := [] }) ∧
      (∀ (n : Fin 8) (rest : List (Fin 8)), t.guardTicks = n :: rest →
        t.awaitGuardTick = t ∧ t.takeGuardTick = { t with guardTicks := rest }) ∧
      (t.guardTicks = [] →
        t.awaitGuardTick = next 4096 ∧ t.takeGuardTick = { next 4096 with guardTicks := [] }) ∧
      (∀ (n : Fin 8) (rest : List (Fin 8)), t.tableTicks = n :: rest → t.takeTableTick = { t with tableTicks := rest }) ∧
      (t.tableTicks = [] → t.takeTableTick = { next 4096 with tableTicks := [] }) ∧
      (t.grantSeconds ≠ 0 → t.awaitGrantSecond = t ∧
        t.takeGrantSecond = { t with grantSeconds := t.grantSeconds - 1 }) ∧
      (t.grantSeconds = 0 → t.awaitGrantSecond = next 32768 ∧
        t.takeGrantSecond = { next 32768 with grantSeconds := 0 }) ∧
      (t.decisionSeconds ≠ 0 → t.takeDecisionSecond = { t with decisionSeconds := t.decisionSeconds - 1 }) ∧
      (t.decisionSeconds = 0 → t.takeDecisionSecond = { next 32768 with decisionSeconds := 0 })

/-! ## The audit log -/

/-- R154 to R158, R162: a record reaches the log. It coalesces into the newest record of its kind and key; or is counted
as dropped when the sequence numbers are exhausted; or joins a list with room; or, in a full list, takes the place of
the oldest record of the lowest severity if that is not above its own, and is dropped otherwise. An appended record
other than LOG-RELEASED sets the mark copy, and the alarm indication follows the list. R151: the severities and the six
kinds that coalesce, `rank` being NOTE 1, WARN 2, ALARM 3 (`Layout.kindCode`). -/
def Obligations.LogTakesARecord : Prop :=
  ∀ (r : Report) (s : State), ∃ t : State, exec (.logRecord r) s = .next t ∧
    let rank (k : RecordKind) : Nat := (Layout.kindCode k).2
    t = { s with log := t.log, out := t.out, store := t.store } ∧ t.out.alarmMirror = t.log.alarm ∧
    (s.out.alarmMirror = t.log.alarm → t.out = s.out) ∧
    let merges : Prop := ∃ (front : List LogRecord) (n : LogRecord), s.log.records = front ++ [n] ∧
      r.kind ∈ [RecordKind.writeDenied, .fetchDenied, .readDenied, .counterClamped, .deviceTimeout, .parityError] ∧
      n.report.kind = r.kind ∧ (r.kind = .parityError ∨ n.report.key = r.key)
    let dropped : Prop := t.store = s.store ∧ t.log = { s.log with dropped := min (s.log.dropped + 1) 65535 }
    let joins (kept : List LogRecord) : Prop :=
      t.log =
          { records := kept ++ [{ sequence := s.log.nextSeq, seconds := s.time.seconds, report := r, repeats := 1 }]
            nextSeq := s.log.nextSeq + 1
            dropped := s.log.dropped
            markCopy := s.log.markCopy || decide (r.kind ≠ .logReleased)
            alarm := t.log.alarm } ∧
        (t.log.alarm = true ↔ rank r.kind = 3 ∨ ∃ x ∈ kept, rank x.report.kind = 3) ∧
        t.store = if s.log.markCopy = false ∧ r.kind ≠ .logReleased then s.store.queueItem (.logMark true) else s.store
    (∀ (front : List LogRecord) (n : LogRecord), merges → s.log.records = front ++ [n] →
      t.store = s.store ∧
        t.log = { s.log with
          records := front ++
            [{ n with
                seconds := s.time.seconds, repeats := min (n.repeats + 1) 65535
                report := { r with key := n.report.key } }] }) ∧
    (¬ merges → 0xFFFFFFFF < s.log.nextSeq → dropped) ∧
    (¬ merges → s.log.nextSeq ≤ 0xFFFFFFFF → s.log.records.length < 64 → joins s.log.records) ∧
    (∀ (before after : List LogRecord) (old : LogRecord),
      ¬ merges → s.log.nextSeq ≤ 0xFFFFFFFF → s.log.records.length = 64 → s.log.records = before ++ old :: after →
      (∀ x ∈ s.log.records, rank old.report.kind ≤ rank x.report.kind) →
      (∀ x ∈ before, rank x.report.kind ≠ rank old.report.kind) →
      (rank old.report.kind ≤ rank r.kind → joins (before ++ after)) ∧
      (rank r.kind < rank old.report.kind → dropped))

/-- R160, R161, R163, R145: RELEASE LOG. DENIED without CLEAR; a count outside 1..64 is INVALID; otherwise the oldest
records go, LOG-RELEASED joins the list or, with the sequence numbers exhausted, is dropped, the mark copy is cleared
where nothing else is left, and the reply counts the records removed. -/
def Obligations.ReleaseLogCommand : Prop :=
  ∀ (p : List Byte) (i : Fin 4) (g : Grant) (s : State), s.Message 0x21 p → p.length = 6 →
    s.actingGrant (.read p) = some (i, g) →
    (g.hasRight .clear = false → exec .releaseLog s = .next (s.completeCommand { status := .denied, payload := [] })) ∧
    (g.hasRight .clear = true → fieldAt p 6 1 = 0 ∨ 64 < fieldAt p 6 1 →
      exec .releaseLog s = .next (s.completeCommand { status := .invalid, payload := [6] })) ∧
    (g.hasRight .clear = true → 1 ≤ fieldAt p 6 1 → fieldAt p 6 1 ≤ 64 → s.log.records.length ≤ 64 →
      let k := min (fieldAt p 6 1) s.log.records.length
      let left := s.log.records.drop k
      ∃ t : State, exec .releaseLog s = .next t ∧
        t = { s with link := t.link, log := t.log, out := t.out, store := t.store } ∧
        t.link = s.link.complete s.table.settings.divisor { status := .ok, payload := [BitVec.ofNat 8 k] } ∧
        (s.log.nextSeq ≤ 0xFFFFFFFF →
          t.log.records = left ++
              [{ sequence := s.log.nextSeq, seconds := s.time.seconds, repeats := 1
                 report :=
                  { kind := .logReleased, key := some (.slot i), reason := none, address := none
                    valueA := some (BitVec.ofNat 32 k), valueB := some g.toolId } }] ∧
            t.log.nextSeq = s.log.nextSeq + 1 ∧ t.log.dropped = s.log.dropped) ∧
        (0xFFFFFFFF < s.log.nextSeq →
          t.log.records = left ∧ t.log.nextSeq = s.log.nextSeq ∧ t.log.dropped = min (s.log.dropped + 1) 65535) ∧
        (t.log.alarm = true ↔ ∃ x ∈ left, (Layout.kindCode x.report.kind).2 = 3) ∧
        t.out.alarmMirror = t.log.alarm ∧
        (left = [] →
          t.log.markCopy = false ∧
            t.store = if s.log.markCopy then s.store.queueItem (.logMark false) else s.store) ∧
        (left ≠ [] → t.log.markCopy = s.log.markCopy ∧ t.store = s.store))

/-! ## The configuration store, start-up and provisioning -/

/-- R191: queuing an item. It takes the held value; an entry of the same item takes the value in place; otherwise the
write joins at the newest end, or starts at once where no write is in flight. R45, R191: a write completes with its own
value, the oldest entry starts, and an apply with none of its items outstanding is IDLE again; that an item queued
afresh after its write had started counts again is the model's choice (log entry 36). R190: the item each write is of,
which takes its value whole while the others stay. -/
def Obligations.StoreWrites : Prop :=
  (∀ (w : ItemWrite) (st : Store),
    (st.inFlight = none → st.queue = [] →
      st.queueItem w = { st with held := st.held.write w, inFlight := some w }) ∧
    (st.inFlight ≠ none → (∀ x ∈ st.queue, x.item ≠ w.item) →
      st.queueItem w = { st with held := st.held.write w, queue := st.queue ++ [w] }) ∧
    (∀ (before after : List ItemWrite) (x : ItemWrite), st.inFlight ≠ none → st.queue = before ++ x :: after →
      x.item = w.item → (∀ y ∈ before ++ after, y.item ≠ w.item) →
      st.queueItem w = { st with held := st.held.write w, queue := before ++ w :: after })) ∧
  (∀ (w : ItemWrite) (s : State), s.store.inFlight = some w →
    let u : State := { s with
      store :=
        { stored := s.store.stored.write w, held := s.store.held, queue := s.store.queue.tail
          inFlight := s.store.queue.head? } }
    let done : Prop := s.table.apply = .storing ∧ ∀ i ∈ s.table.applyItems, ∀ x ∈ s.store.queue, x.item ≠ i
    (done → exec .storeWriteComplete s =
      .next { u with table := { u.table with apply := .idle, applyItems := [] } }) ∧
    (¬ done → exec .storeWriteComplete s = .next u)) ∧
  ∀ m : Items,
    let takes (w : ItemWrite) (i : Item) (u : Items) : Prop := w.item = i ∧ m.write w = u
    (∀ v : Bool,
      takes (.provisionedMark v) .provisionedMark { m with provisionedMark := some v } ∧
        takes (.lockdownMark v) .lockdownMark { m with lockdownMark := some v } ∧
        takes (.logMark v) .logMark { m with logMark := some v }) ∧
    (∀ v : List Byte, takes (.serial v) .serial { m with serial := some v } ∧
      takes (.key .one v) (.key .one) { m with keys := m.keys.set 0 (some v) } ∧
      takes (.key .two v) (.key .two) { m with keys := m.keys.set 1 (some v) } ∧
      takes (.key .three v) (.key .three) { m with keys := m.keys.set 2 (some v) }) ∧
    (∀ v : Settings, takes (.settings v) .settings { m with settings := some v }) ∧
    (∀ (n : Fin 8) (v : Option Window),
      takes (.window n v) (.window (.numbered n)) { m with windows := m.windows.set n (some v) }) ∧
    (∀ v : WindowTerms, takes (.dflt v) (.window .dflt) { m with dflt := some v }) ∧
    (∀ (n : Fin 8) (v : Option CellDef),
      takes (.cellDef n v) (.cellDef n) { m with cells := m.cells.set n (some v) }) ∧
    (∀ (n : Fin 8) (v : Option Nat), takes (.floor n v) (.floor n) { m with floors := m.floors.set n v }) ∧
    (∀ v : Byte, takes (.failedCount v) .failedCount { m with failedCount := some v }) ∧
    ∀ v : Quad, takes (.challengeCounter v) .challengeCounter { m with challengeCounter := some v } ∧
      takes (.powerOnCount v) .powerOnCount { m with powerOnCount := some v } ∧
      Level.index .one = 0 ∧ Level.index .two = 1 ∧ Level.index .three = 2

/-- R28 to R30, R69, R94, R106, R164, R190, R194, R195: the load ends. The held values are the items loaded, with the
writes still outstanding over them; an unprovisioned part loads no window, cell-definition, settings or floor item and
takes the defaults; a provisioned one takes its items, and a cell is kept exactly where it passes the load check; the
grant table, the log and the lockdown state take theirs, EVIDENCE-LOST is recorded where the log-nonempty mark is set,
and one scan read for each enabled cell is requested, in cell order. The lockdown state is reported, and so is the alarm
indication where EVIDENCE-LOST was recorded (R158); where it was not, neither the log nor the alarm mirror changes, and
the mirror agrees with the log as it did before (`State.OutputLaw`, which every step keeps: `OutputLawKept`). Nothing
else of the output unit changes but the lamps, which stay dark before started is yes (R185). A later STORE_LOAD_END
changes nothing (log entry 3). -/
def Obligations.StoreLoadEnds : Prop :=
  ∀ (wide : Bool) (s : State),
    (s.start.phase ≠ .loading → exec (.storeLoadEnd wide) s = .next s) ∧
    (s.start.phase = .loading → ∃ u : State, exec (.storeLoadEnd wide) s = .next (u.serve wide) ∧
      let blank := Items.blank
      let disabled : Cell := { defn := none, live := none, loadedFloor := none, op := none, stale := false }
      let loaded : Items :=
        if s.store.stored.provisionedMark = some true then s.store.stored
        else { s.store.stored with
          settings := none, windows := blank.windows, dflt := none, cells := blank.cells, floors := blank.floors }
      let m := (s.store.inFlight.toList ++ s.store.queue).foldl Items.write loaded
      let strapped := WindowTerms.unprovisioned s.start.strap
      let n := (m.failedCount.getD 0).toNat
      u = { s with
        start := { s.start with phase := .scanning }
        store := { s.store with held := m }
        table := { u.table with
          staged := s.table.staged, apply := s.table.apply, applyingSlot := s.table.applyingSlot
          applyItems := s.table.applyItems }
        guard := { u.guard with waitingWrite := s.guard.waitingWrite }
        decision := { s.decision with lockdown := m.lockdownMark.getD false }
        grants := { s.grants with
          failed := n, backoff := if n = 0 then 0 else min (2 ^ (n - 1)) 1024, counter := m.challengeCounter.getD 0 }
        mem := { s.mem with
          queue := s.mem.queue ++ octOrder.filterMap fun n =>
            (u.cell n).defn.map fun d =>
              { requester := .internal n, direction := .read, address := d.address
                twoWords := decide (d.width = .w32), lanes := .both, data0 := 0, data1 := 0, window := none } }
        log := u.log
        out := u.out } ∧
      (m.provisionedMark ≠ some true →
        u.table.dflt = strapped ∧ u.table.settings = .unprovisioned ∧ (∀ k : Fin 8, u.table.windows[k] = none) ∧
          ∀ k : Fin 8, u.cell k = disabled) ∧
      (m.provisionedMark = some true →
        u.table.dflt = m.dflt.getD strapped ∧ u.table.settings = m.settings.getD .unprovisioned ∧
          (∀ k : Fin 8, u.table.windows[k] = (m.windows[k]).getD none) ∧
          (∀ k : Fin 8, (u.cell k).defn = none → u.cell k = disabled) ∧
          (∀ (k : Fin 8) (d : CellDef), (u.cell k).defn = some d →
            u.cell k =
              { defn := some d, live := none, op := some .scanRead, stale := false
                loadedFloor := some
                  (min ((m.floors[k]).getD 0) (match d.width with | .w16 => 65535 | .w32 => 4294967295)) }) ∧
          ∀ (k : Fin 8) (d : CellDef), (u.cell k).defn = some d ↔
            m.cells[k] = some (some d) ∧
              (∃ w : MatchedWindow, (w.terms.cls = .opn ∨ w.terms.cls = .records) ∧
                matchWindow u.table.windows u.table.dflt d.address = w ∧
                ∀ a ∈ d.byteAddresses, (matchWindow u.table.windows u.table.dflt a).id = w.id) ∧
              ∀ (j : Fin 8) (e : CellDef), j < k → (u.cell j).defn = some e → ∀ a ∈ d.words, a ∉ e.words) ∧
      (m.logMark ≠ some true → u.log = { s.log with markCopy := false }) ∧
      (m.logMark = some true → s.log.records = [] → s.log.nextSeq = 1 →
        u.log =
          { records :=
              [{ sequence := 1, seconds := s.time.seconds, repeats := 1
                 report :=
                  { kind := .evidenceLost, key := none, reason := none, address := none
                    valueA := some (m.powerOnCount.getD 0), valueB := none } }]
            nextSeq := 2, dropped := s.log.dropped, markCopy := true, alarm := true }) ∧
      u.out = { s.out with
        lockdownMirror := m.lockdownMark.getD false, alarmMirror := u.out.alarmMirror
        workshopLamp := u.out.workshopLamp, tamperLamp := u.out.tamperLamp } ∧
      (m.logMark ≠ some true → u.out.alarmMirror = s.out.alarmMirror) ∧
      (m.logMark = some true → u.out.alarmMirror = u.log.alarm) ∧
      (s.OutputLaw → u.out.alarmMirror = u.log.alarm) ∧
      (s.out.started = false → s.out.LampsDark → u.out.LampsDark))

/-- R2, R96, R134, R179, R183, R195: the scan ends once every enabled cell is LIVE with nothing in flight. The port
opens IDLE, or RESET-HELD under bus reset, and takes a waiting cycle; the output unit is started with both lamps
evaluated and the causes held so far; the link listens, or stays OFF for a divisor of 0. Before that, and once the part
runs, nothing happens (log entry 3). The scan's end is a step of its own (log entry 10). -/
def Obligations.ScanEndOpensThePart : Prop :=
  ∀ (wide : Bool) (s : State),
    let scanned : Prop := ∀ (n : Fin 8) (d : CellDef), (s.cell n).defn = some d →
      (s.cell n).live.isSome = true ∧ (s.cell n).op = none
    let started (c : Channel) : Channel := if c.held then { phase := .driving, count := 0, held := false } else c
    let opens (v : State) : State := { v with
      out := OutputUnit.evaluate v.table.settings { v.out with
        started := true, alert := started v.out.alert, resetRequest := started v.out.resetRequest }
      link := { v.link with receiver := if v.table.settings.divisor = 0 then .off else .listening } }
    let running : State := { s with start := { s.start with phase := .running } }
    (s.start.phase ≠ .scanning ∨ ¬ scanned → exec (.scanEnd wide) s = .next s) ∧
    (s.start.phase = .scanning → scanned →
      (s.port.busReset = true →
        exec (.scanEnd wide) s =
          .next ((opens { running with port := { s.port with state := .resetHeld } }).serve wide)) ∧
      (s.port.busReset = false → s.port.presented = none →
        exec (.scanEnd wide) s = .next ((opens { running with port := { s.port with state := .idle } }).serve wide)) ∧
      (∀ l : CycleLines, s.port.busReset = false → s.port.presented = some l →
        exec (.scanEnd wide) s =
          .next (State.serve wide (opens
            (State.takeCycle l { running with port := { s.port with state := .idle, presented := none } })))))

/-- R148, R192, R193: the provisioning commands. On a provisioned part each is ALREADY-PROVISIONED. A level outside
1..3, a serial of zeros, a node address outside 1..254 and a missing key are INVALID, with nothing changed; otherwise
the items are queued, the live node address is set, and the provisioned mark is queued last. That PROVISION IDENTITY
with both its fields out of range names the serial's offset is the model's choice (log entry 34). -/
def Obligations.ProvisioningCommands : Prop :=
  ∀ (p : List Byte) (s : State),
    let answers (c : Instr) (st : Status) (payload : List Byte) (t : State) : Prop :=
      exec c s = .next (t.completeCommand { status := st, payload := payload })
    let rows : List (Instr × Byte × Nat) :=
      [(.provisionKey, 0x50, 33), (.provisionIdentity, 0x51, 9), (.finishProvisioning, 0x52, 0)]
    (∀ row ∈ rows, s.Message row.2.1 p → p.length = row.2.2 → s.store.held.provisionedMark = some true →
      answers row.1 .alreadyProvisioned [] s) ∧
    (s.Message 0x50 p → p.length = 33 → s.store.held.provisionedMark ≠ some true →
      (fieldAt p 1 1 = 0 ∨ 3 < fieldAt p 1 1 → answers .provisionKey .invalid [1] s) ∧
      ∀ l : Level, fieldAt p 1 1 = Layout.levelCode l →
        answers .provisionKey .ok [] { s with store := s.store.queueItem (.key l (bytesAt p 2 32)) }) ∧
    (s.Message 0x51 p → p.length = 9 → s.store.held.provisionedMark ≠ some true →
      (bytesAt p 1 8 = zeros 8 → answers .provisionIdentity .invalid [1] s) ∧
      (bytesAt p 1 8 ≠ zeros 8 → fieldAt p 9 1 = 0 ∨ fieldAt p 9 1 = 255 → answers .provisionIdentity .invalid [9] s) ∧
      (bytesAt p 1 8 ≠ zeros 8 → 1 ≤ fieldAt p 9 1 → fieldAt p 9 1 ≤ 254 →
        let live : Settings := { s.table.settings with nodeAddress := BitVec.ofNat 8 (fieldAt p 9 1) }
        answers .provisionIdentity .ok [] { s with
          table := { s.table with settings := live }
          store := (s.store.queueItem (.serial (bytesAt p 1 8))).queueItem (.settings live) })) ∧
    (s.Message 0x52 p → p.length = 0 → s.store.held.provisionedMark ≠ some true →
      (∀ l : Level, s.store.held.keys[Level.index l] = none →
        (∀ k : Level, Layout.levelCode k < Layout.levelCode l → s.store.held.keys[Level.index k] ≠ none) →
        answers .finishProvisioning .invalid [BitVec.ofNat 8 (Layout.levelCode l)] s) ∧
      ((∀ l : Level, s.store.held.keys[Level.index l] ≠ none) →
        answers .finishProvisioning .ok [] { s with store := s.store.queueItem (.provisionedMark true) }))
end

