-- ==== Sys2Proof/Laws/State.lean ====
section
/-! SUPPORT. One lemma per field per update of the state, true by `rfl`: what each update leaves and what it writes. -/

namespace Sys2Proof.Machine

@[simp] theorem State.setSlot_pending (i : Fin 4) (x : Slot) (s : State) : (s.setSlot i x).pending = s.pending := rfl
@[simp] theorem State.setSlot_guardPeriods (i : Fin 4) (x : Slot) (s : State) :
    (s.setSlot i x).guardPeriods = s.guardPeriods := rfl
@[simp] theorem State.setSlot_start (i : Fin 4) (x : Slot) (s : State) : (s.setSlot i x).start = s.start := rfl
@[simp] theorem State.setSlot_port (i : Fin 4) (x : Slot) (s : State) : (s.setSlot i x).port = s.port := rfl
@[simp] theorem State.setSlot_decision (i : Fin 4) (x : Slot) (s : State) :
    (s.setSlot i x).decision = s.decision := rfl
@[simp] theorem State.setSlot_table (i : Fin 4) (x : Slot) (s : State) : (s.setSlot i x).table = s.table := rfl
@[simp] theorem State.setSlot_guard (i : Fin 4) (x : Slot) (s : State) : (s.setSlot i x).guard = s.guard := rfl
@[simp] theorem State.setSlot_mem (i : Fin 4) (x : Slot) (s : State) : (s.setSlot i x).mem = s.mem := rfl
@[simp] theorem State.setSlot_grants (i : Fin 4) (x : Slot) (s : State) :
    (s.setSlot i x).grants = { s.grants with slots := s.grants.slots.set i x } := rfl
@[simp] theorem State.setSlot_engine (i : Fin 4) (x : Slot) (s : State) : (s.setSlot i x).engine = s.engine := rfl
@[simp] theorem State.setSlot_link (i : Fin 4) (x : Slot) (s : State) : (s.setSlot i x).link = s.link := rfl
@[simp] theorem State.setSlot_log (i : Fin 4) (x : Slot) (s : State) : (s.setSlot i x).log = s.log := rfl
@[simp] theorem State.setSlot_time (i : Fin 4) (x : Slot) (s : State) : (s.setSlot i x).time = s.time := rfl
@[simp] theorem State.setSlot_ignition (i : Fin 4) (x : Slot) (s : State) :
    (s.setSlot i x).ignition = s.ignition := rfl
@[simp] theorem State.setSlot_out (i : Fin 4) (x : Slot) (s : State) : (s.setSlot i x).out = s.out := rfl
@[simp] theorem State.setSlot_store (i : Fin 4) (x : Slot) (s : State) : (s.setSlot i x).store = s.store := rfl

@[simp] theorem State.forgetCharge_pending (i : Fin 4) (s : State) : (s.forgetCharge i).pending = s.pending := rfl
@[simp] theorem State.forgetCharge_guardPeriods (i : Fin 4) (s : State) :
    (s.forgetCharge i).guardPeriods = s.guardPeriods := rfl
@[simp] theorem State.forgetCharge_start (i : Fin 4) (s : State) : (s.forgetCharge i).start = s.start := rfl
@[simp] theorem State.forgetCharge_port (i : Fin 4) (s : State) : (s.forgetCharge i).port = s.port := rfl
@[simp] theorem State.forgetCharge_decision (i : Fin 4) (s : State) :
    (s.forgetCharge i).decision = { s.decision with record := s.decision.record.map (DecisionRecord.forget i) } := rfl
@[simp] theorem State.forgetCharge_table (i : Fin 4) (s : State) : (s.forgetCharge i).table = s.table := rfl
@[simp] theorem State.forgetCharge_guard (i : Fin 4) (s : State) : (s.forgetCharge i).guard = s.guard := rfl
@[simp] theorem State.forgetCharge_mem (i : Fin 4) (s : State) : (s.forgetCharge i).mem = s.mem := rfl
@[simp] theorem State.forgetCharge_grants (i : Fin 4) (s : State) : (s.forgetCharge i).grants = s.grants := rfl
@[simp] theorem State.forgetCharge_engine (i : Fin 4) (s : State) : (s.forgetCharge i).engine = s.engine := rfl
@[simp] theorem State.forgetCharge_link (i : Fin 4) (s : State) : (s.forgetCharge i).link = s.link := rfl
@[simp] theorem State.forgetCharge_log (i : Fin 4) (s : State) : (s.forgetCharge i).log = s.log := rfl
@[simp] theorem State.forgetCharge_time (i : Fin 4) (s : State) : (s.forgetCharge i).time = s.time := rfl
@[simp] theorem State.forgetCharge_ignition (i : Fin 4) (s : State) : (s.forgetCharge i).ignition = s.ignition := rfl
@[simp] theorem State.forgetCharge_out (i : Fin 4) (s : State) : (s.forgetCharge i).out = s.out := rfl
@[simp] theorem State.forgetCharge_store (i : Fin 4) (s : State) : (s.forgetCharge i).store = s.store := rfl

@[simp] theorem State.freeSlot_pending (i : Fin 4) (s : State) : (s.freeSlot i).pending = s.pending := rfl
@[simp] theorem State.freeSlot_guardPeriods (i : Fin 4) (s : State) :
    (s.freeSlot i).guardPeriods = s.guardPeriods := rfl
@[simp] theorem State.freeSlot_start (i : Fin 4) (s : State) : (s.freeSlot i).start = s.start := rfl
@[simp] theorem State.freeSlot_port (i : Fin 4) (s : State) : (s.freeSlot i).port = s.port := rfl
@[simp] theorem State.freeSlot_decision (i : Fin 4) (s : State) :
    (s.freeSlot i).decision = { s.decision with record := s.decision.record.map (DecisionRecord.forget i) } := rfl
@[simp] theorem State.freeSlot_table (i : Fin 4) (s : State) : (s.freeSlot i).table = s.table := rfl
@[simp] theorem State.freeSlot_guard (i : Fin 4) (s : State) : (s.freeSlot i).guard = s.guard := rfl
@[simp] theorem State.freeSlot_mem (i : Fin 4) (s : State) : (s.freeSlot i).mem = s.mem := rfl
@[simp] theorem State.freeSlot_grants (i : Fin 4) (s : State) :
    (s.freeSlot i).grants = { s.grants with slots := s.grants.slots.set i .free } := rfl
@[simp] theorem State.freeSlot_engine (i : Fin 4) (s : State) : (s.freeSlot i).engine = s.engine := rfl
@[simp] theorem State.freeSlot_link (i : Fin 4) (s : State) : (s.freeSlot i).link = s.link := rfl
@[simp] theorem State.freeSlot_log (i : Fin 4) (s : State) : (s.freeSlot i).log = s.log := rfl
@[simp] theorem State.freeSlot_time (i : Fin 4) (s : State) : (s.freeSlot i).time = s.time := rfl
@[simp] theorem State.freeSlot_ignition (i : Fin 4) (s : State) : (s.freeSlot i).ignition = s.ignition := rfl
@[simp] theorem State.freeSlot_out (i : Fin 4) (s : State) :
    (s.freeSlot i).out = (((s.setSlot i .free).forgetCharge i).reportSlot i).out := rfl
@[simp] theorem State.freeSlot_store (i : Fin 4) (s : State) : (s.freeSlot i).store = s.store := rfl

@[simp] theorem State.queueItem_pending (w : ItemWrite) (s : State) : (s.queueItem w).pending = s.pending := rfl
@[simp] theorem State.queueItem_guardPeriods (w : ItemWrite) (s : State) :
    (s.queueItem w).guardPeriods = s.guardPeriods := rfl
@[simp] theorem State.queueItem_start (w : ItemWrite) (s : State) : (s.queueItem w).start = s.start := rfl
@[simp] theorem State.queueItem_port (w : ItemWrite) (s : State) : (s.queueItem w).port = s.port := rfl
@[simp] theorem State.queueItem_decision (w : ItemWrite) (s : State) : (s.queueItem w).decision = s.decision := rfl
@[simp] theorem State.queueItem_table (w : ItemWrite) (s : State) : (s.queueItem w).table = s.table := rfl
@[simp] theorem State.queueItem_guard (w : ItemWrite) (s : State) : (s.queueItem w).guard = s.guard := rfl
@[simp] theorem State.queueItem_mem (w : ItemWrite) (s : State) : (s.queueItem w).mem = s.mem := rfl
@[simp] theorem State.queueItem_grants (w : ItemWrite) (s : State) : (s.queueItem w).grants = s.grants := rfl
@[simp] theorem State.queueItem_engine (w : ItemWrite) (s : State) : (s.queueItem w).engine = s.engine := rfl
@[simp] theorem State.queueItem_link (w : ItemWrite) (s : State) : (s.queueItem w).link = s.link := rfl
@[simp] theorem State.queueItem_log (w : ItemWrite) (s : State) : (s.queueItem w).log = s.log := rfl
@[simp] theorem State.queueItem_time (w : ItemWrite) (s : State) : (s.queueItem w).time = s.time := rfl
@[simp] theorem State.queueItem_ignition (w : ItemWrite) (s : State) : (s.queueItem w).ignition = s.ignition := rfl
@[simp] theorem State.queueItem_out (w : ItemWrite) (s : State) : (s.queueItem w).out = s.out := rfl
@[simp] theorem State.queueItem_store (w : ItemWrite) (s : State) : (s.queueItem w).store = s.store.queueItem w := rfl

@[simp] theorem State.alertCause_pending (s : State) : (s.alertCause).pending = s.pending := rfl
@[simp] theorem State.alertCause_guardPeriods (s : State) : (s.alertCause).guardPeriods = s.guardPeriods := rfl
@[simp] theorem State.alertCause_start (s : State) : (s.alertCause).start = s.start := rfl
@[simp] theorem State.alertCause_port (s : State) : (s.alertCause).port = s.port := rfl
@[simp] theorem State.alertCause_decision (s : State) : (s.alertCause).decision = s.decision := rfl
@[simp] theorem State.alertCause_table (s : State) : (s.alertCause).table = s.table := rfl
@[simp] theorem State.alertCause_guard (s : State) : (s.alertCause).guard = s.guard := rfl
@[simp] theorem State.alertCause_mem (s : State) : (s.alertCause).mem = s.mem := rfl
@[simp] theorem State.alertCause_grants (s : State) : (s.alertCause).grants = s.grants := rfl
@[simp] theorem State.alertCause_engine (s : State) : (s.alertCause).engine = s.engine := rfl
@[simp] theorem State.alertCause_link (s : State) : (s.alertCause).link = s.link := rfl
@[simp] theorem State.alertCause_log (s : State) : (s.alertCause).log = s.log := rfl
@[simp] theorem State.alertCause_time (s : State) : (s.alertCause).time = s.time := rfl
@[simp] theorem State.alertCause_ignition (s : State) : (s.alertCause).ignition = s.ignition := rfl
@[simp] theorem State.alertCause_out (s : State) :
    (s.alertCause).out = { s.out with alert := s.out.alert.signal s.out.started } := rfl
@[simp] theorem State.alertCause_store (s : State) : (s.alertCause).store = s.store := rfl

@[simp] theorem State.resetRequestCause_pending (s : State) : (s.resetRequestCause).pending = s.pending := rfl
@[simp] theorem State.resetRequestCause_guardPeriods (s : State) :
    (s.resetRequestCause).guardPeriods = s.guardPeriods := rfl
@[simp] theorem State.resetRequestCause_start (s : State) : (s.resetRequestCause).start = s.start := rfl
@[simp] theorem State.resetRequestCause_port (s : State) : (s.resetRequestCause).port = s.port := rfl
@[simp] theorem State.resetRequestCause_decision (s : State) : (s.resetRequestCause).decision = s.decision := rfl
@[simp] theorem State.resetRequestCause_table (s : State) : (s.resetRequestCause).table = s.table := rfl
@[simp] theorem State.resetRequestCause_guard (s : State) : (s.resetRequestCause).guard = s.guard := rfl
@[simp] theorem State.resetRequestCause_mem (s : State) : (s.resetRequestCause).mem = s.mem := rfl
@[simp] theorem State.resetRequestCause_grants (s : State) : (s.resetRequestCause).grants = s.grants := rfl
@[simp] theorem State.resetRequestCause_engine (s : State) : (s.resetRequestCause).engine = s.engine := rfl
@[simp] theorem State.resetRequestCause_link (s : State) : (s.resetRequestCause).link = s.link := rfl
@[simp] theorem State.resetRequestCause_log (s : State) : (s.resetRequestCause).log = s.log := rfl
@[simp] theorem State.resetRequestCause_time (s : State) : (s.resetRequestCause).time = s.time := rfl
@[simp] theorem State.resetRequestCause_ignition (s : State) : (s.resetRequestCause).ignition = s.ignition := rfl
@[simp] theorem State.resetRequestCause_out (s : State) :
    (s.resetRequestCause).out = { s.out with resetRequest := s.out.resetRequest.signal s.out.started } := rfl
@[simp] theorem State.resetRequestCause_store (s : State) : (s.resetRequestCause).store = s.store := rfl

@[simp] theorem State.reportSlot_pending (i : Fin 4) (s : State) : (s.reportSlot i).pending = s.pending := rfl
@[simp] theorem State.reportSlot_guardPeriods (i : Fin 4) (s : State) :
    (s.reportSlot i).guardPeriods = s.guardPeriods := rfl
@[simp] theorem State.reportSlot_start (i : Fin 4) (s : State) : (s.reportSlot i).start = s.start := rfl
@[simp] theorem State.reportSlot_port (i : Fin 4) (s : State) : (s.reportSlot i).port = s.port := rfl
@[simp] theorem State.reportSlot_decision (i : Fin 4) (s : State) : (s.reportSlot i).decision = s.decision := rfl
@[simp] theorem State.reportSlot_table (i : Fin 4) (s : State) : (s.reportSlot i).table = s.table := rfl
@[simp] theorem State.reportSlot_guard (i : Fin 4) (s : State) : (s.reportSlot i).guard = s.guard := rfl
@[simp] theorem State.reportSlot_mem (i : Fin 4) (s : State) : (s.reportSlot i).mem = s.mem := rfl
@[simp] theorem State.reportSlot_grants (i : Fin 4) (s : State) : (s.reportSlot i).grants = s.grants := rfl
@[simp] theorem State.reportSlot_engine (i : Fin 4) (s : State) : (s.reportSlot i).engine = s.engine := rfl
@[simp] theorem State.reportSlot_link (i : Fin 4) (s : State) : (s.reportSlot i).link = s.link := rfl
@[simp] theorem State.reportSlot_log (i : Fin 4) (s : State) : (s.reportSlot i).log = s.log := rfl
@[simp] theorem State.reportSlot_time (i : Fin 4) (s : State) : (s.reportSlot i).time = s.time := rfl
@[simp] theorem State.reportSlot_ignition (i : Fin 4) (s : State) : (s.reportSlot i).ignition = s.ignition := rfl
@[simp] theorem State.reportSlot_out (i : Fin 4) (s : State) :
    (s.reportSlot i).out = s.out.reportSlot s.table.settings i (s.grants.slots[i]).mirror := rfl
@[simp] theorem State.reportSlot_store (i : Fin 4) (s : State) : (s.reportSlot i).store = s.store := rfl

@[simp] theorem State.reportLockdown_pending (s : State) : (s.reportLockdown).pending = s.pending := rfl
@[simp] theorem State.reportLockdown_guardPeriods (s : State) :
    (s.reportLockdown).guardPeriods = s.guardPeriods := rfl
@[simp] theorem State.reportLockdown_start (s : State) : (s.reportLockdown).start = s.start := rfl
@[simp] theorem State.reportLockdown_port (s : State) : (s.reportLockdown).port = s.port := rfl
@[simp] theorem State.reportLockdown_decision (s : State) : (s.reportLockdown).decision = s.decision := rfl
@[simp] theorem State.reportLockdown_table (s : State) : (s.reportLockdown).table = s.table := rfl
@[simp] theorem State.reportLockdown_guard (s : State) : (s.reportLockdown).guard = s.guard := rfl
@[simp] theorem State.reportLockdown_mem (s : State) : (s.reportLockdown).mem = s.mem := rfl
@[simp] theorem State.reportLockdown_grants (s : State) : (s.reportLockdown).grants = s.grants := rfl
@[simp] theorem State.reportLockdown_engine (s : State) : (s.reportLockdown).engine = s.engine := rfl
@[simp] theorem State.reportLockdown_link (s : State) : (s.reportLockdown).link = s.link := rfl
@[simp] theorem State.reportLockdown_log (s : State) : (s.reportLockdown).log = s.log := rfl
@[simp] theorem State.reportLockdown_time (s : State) : (s.reportLockdown).time = s.time := rfl
@[simp] theorem State.reportLockdown_ignition (s : State) : (s.reportLockdown).ignition = s.ignition := rfl
@[simp] theorem State.reportLockdown_out (s : State) :
    (s.reportLockdown).out = s.out.reportLockdown s.table.settings s.decision.lockdown := rfl
@[simp] theorem State.reportLockdown_store (s : State) : (s.reportLockdown).store = s.store := rfl

@[simp] theorem State.reportScore_pending (s : State) : (s.reportScore).pending = s.pending := rfl
@[simp] theorem State.reportScore_guardPeriods (s : State) : (s.reportScore).guardPeriods = s.guardPeriods := rfl
@[simp] theorem State.reportScore_start (s : State) : (s.reportScore).start = s.start := rfl
@[simp] theorem State.reportScore_port (s : State) : (s.reportScore).port = s.port := rfl
@[simp] theorem State.reportScore_decision (s : State) : (s.reportScore).decision = s.decision := rfl
@[simp] theorem State.reportScore_table (s : State) : (s.reportScore).table = s.table := rfl
@[simp] theorem State.reportScore_guard (s : State) : (s.reportScore).guard = s.guard := rfl
@[simp] theorem State.reportScore_mem (s : State) : (s.reportScore).mem = s.mem := rfl
@[simp] theorem State.reportScore_grants (s : State) : (s.reportScore).grants = s.grants := rfl
@[simp] theorem State.reportScore_engine (s : State) : (s.reportScore).engine = s.engine := rfl
@[simp] theorem State.reportScore_link (s : State) : (s.reportScore).link = s.link := rfl
@[simp] theorem State.reportScore_log (s : State) : (s.reportScore).log = s.log := rfl
@[simp] theorem State.reportScore_time (s : State) : (s.reportScore).time = s.time := rfl
@[simp] theorem State.reportScore_ignition (s : State) : (s.reportScore).ignition = s.ignition := rfl
@[simp] theorem State.reportScore_out (s : State) :
    (s.reportScore).out = s.out.reportScore s.table.settings s.decision.score := rfl
@[simp] theorem State.reportScore_store (s : State) : (s.reportScore).store = s.store := rfl

@[simp] theorem State.reportAlarm_pending (s : State) : (s.reportAlarm).pending = s.pending := rfl
@[simp] theorem State.reportAlarm_guardPeriods (s : State) : (s.reportAlarm).guardPeriods = s.guardPeriods := rfl
@[simp] theorem State.reportAlarm_start (s : State) : (s.reportAlarm).start = s.start := rfl
@[simp] theorem State.reportAlarm_port (s : State) : (s.reportAlarm).port = s.port := rfl
@[simp] theorem State.reportAlarm_decision (s : State) : (s.reportAlarm).decision = s.decision := rfl
@[simp] theorem State.reportAlarm_table (s : State) : (s.reportAlarm).table = s.table := rfl
@[simp] theorem State.reportAlarm_guard (s : State) : (s.reportAlarm).guard = s.guard := rfl
@[simp] theorem State.reportAlarm_mem (s : State) : (s.reportAlarm).mem = s.mem := rfl
@[simp] theorem State.reportAlarm_grants (s : State) : (s.reportAlarm).grants = s.grants := rfl
@[simp] theorem State.reportAlarm_engine (s : State) : (s.reportAlarm).engine = s.engine := rfl
@[simp] theorem State.reportAlarm_link (s : State) : (s.reportAlarm).link = s.link := rfl
@[simp] theorem State.reportAlarm_log (s : State) : (s.reportAlarm).log = s.log := rfl
@[simp] theorem State.reportAlarm_time (s : State) : (s.reportAlarm).time = s.time := rfl
@[simp] theorem State.reportAlarm_ignition (s : State) : (s.reportAlarm).ignition = s.ignition := rfl
@[simp] theorem State.reportAlarm_out (s : State) :
    (s.reportAlarm).out = s.out.reportAlarm s.table.settings s.log.alarm := rfl
@[simp] theorem State.reportAlarm_store (s : State) : (s.reportAlarm).store = s.store := rfl

@[simp] theorem State.setCell_pending (n : Fin 8) (c : Cell) (s : State) : (s.setCell n c).pending = s.pending := rfl
@[simp] theorem State.setCell_guardPeriods (n : Fin 8) (c : Cell) (s : State) :
    (s.setCell n c).guardPeriods = s.guardPeriods := rfl
@[simp] theorem State.setCell_start (n : Fin 8) (c : Cell) (s : State) : (s.setCell n c).start = s.start := rfl
@[simp] theorem State.setCell_port (n : Fin 8) (c : Cell) (s : State) : (s.setCell n c).port = s.port := rfl
@[simp] theorem State.setCell_decision (n : Fin 8) (c : Cell) (s : State) :
    (s.setCell n c).decision = s.decision := rfl
@[simp] theorem State.setCell_table (n : Fin 8) (c : Cell) (s : State) : (s.setCell n c).table = s.table := rfl
@[simp] theorem State.setCell_guard (n : Fin 8) (c : Cell) (s : State) :
    (s.setCell n c).guard = { s.guard with cells := s.guard.cells.set n c } := rfl
@[simp] theorem State.setCell_mem (n : Fin 8) (c : Cell) (s : State) : (s.setCell n c).mem = s.mem := rfl
@[simp] theorem State.setCell_grants (n : Fin 8) (c : Cell) (s : State) : (s.setCell n c).grants = s.grants := rfl
@[simp] theorem State.setCell_engine (n : Fin 8) (c : Cell) (s : State) : (s.setCell n c).engine = s.engine := rfl
@[simp] theorem State.setCell_link (n : Fin 8) (c : Cell) (s : State) : (s.setCell n c).link = s.link := rfl
@[simp] theorem State.setCell_log (n : Fin 8) (c : Cell) (s : State) : (s.setCell n c).log = s.log := rfl
@[simp] theorem State.setCell_time (n : Fin 8) (c : Cell) (s : State) : (s.setCell n c).time = s.time := rfl
@[simp] theorem State.setCell_ignition (n : Fin 8) (c : Cell) (s : State) :
    (s.setCell n c).ignition = s.ignition := rfl
@[simp] theorem State.setCell_out (n : Fin 8) (c : Cell) (s : State) : (s.setCell n c).out = s.out := rfl
@[simp] theorem State.setCell_store (n : Fin 8) (c : Cell) (s : State) : (s.setCell n c).store = s.store := rfl

@[simp] theorem State.modifyLive_pending (n : Fin 8) (f : LiveState → LiveState) (s : State) :
    (s.modifyLive n f).pending = s.pending := rfl
@[simp] theorem State.modifyLive_guardPeriods (n : Fin 8) (f : LiveState → LiveState) (s : State) :
    (s.modifyLive n f).guardPeriods = s.guardPeriods := rfl
@[simp] theorem State.modifyLive_start (n : Fin 8) (f : LiveState → LiveState) (s : State) :
    (s.modifyLive n f).start = s.start := rfl
@[simp] theorem State.modifyLive_port (n : Fin 8) (f : LiveState → LiveState) (s : State) :
    (s.modifyLive n f).port = s.port := rfl
@[simp] theorem State.modifyLive_decision (n : Fin 8) (f : LiveState → LiveState) (s : State) :
    (s.modifyLive n f).decision = s.decision := rfl
@[simp] theorem State.modifyLive_table (n : Fin 8) (f : LiveState → LiveState) (s : State) :
    (s.modifyLive n f).table = s.table := rfl
@[simp] theorem State.modifyLive_guard (n : Fin 8) (f : LiveState → LiveState) (s : State) :
    (s.modifyLive n f).guard = (s.setCell n { s.cell n with live := (s.cell n).live.map f }).guard := rfl
@[simp] theorem State.modifyLive_mem (n : Fin 8) (f : LiveState → LiveState) (s : State) :
    (s.modifyLive n f).mem = s.mem := rfl
@[simp] theorem State.modifyLive_grants (n : Fin 8) (f : LiveState → LiveState) (s : State) :
    (s.modifyLive n f).grants = s.grants := rfl
@[simp] theorem State.modifyLive_engine (n : Fin 8) (f : LiveState → LiveState) (s : State) :
    (s.modifyLive n f).engine = s.engine := rfl
@[simp] theorem State.modifyLive_link (n : Fin 8) (f : LiveState → LiveState) (s : State) :
    (s.modifyLive n f).link = s.link := rfl
@[simp] theorem State.modifyLive_log (n : Fin 8) (f : LiveState → LiveState) (s : State) :
    (s.modifyLive n f).log = s.log := rfl
@[simp] theorem State.modifyLive_time (n : Fin 8) (f : LiveState → LiveState) (s : State) :
    (s.modifyLive n f).time = s.time := rfl
@[simp] theorem State.modifyLive_ignition (n : Fin 8) (f : LiveState → LiveState) (s : State) :
    (s.modifyLive n f).ignition = s.ignition := rfl
@[simp] theorem State.modifyLive_out (n : Fin 8) (f : LiveState → LiveState) (s : State) :
    (s.modifyLive n f).out = s.out := rfl
@[simp] theorem State.modifyLive_store (n : Fin 8) (f : LiveState → LiveState) (s : State) :
    (s.modifyLive n f).store = s.store := rfl

@[simp] theorem State.setOp_pending (n : Fin 8) (op : Option Operation) (s : State) :
    (s.setOp n op).pending = s.pending := rfl
@[simp] theorem State.setOp_guardPeriods (n : Fin 8) (op : Option Operation) (s : State) :
    (s.setOp n op).guardPeriods = s.guardPeriods := rfl
@[simp] theorem State.setOp_start (n : Fin 8) (op : Option Operation) (s : State) :
    (s.setOp n op).start = s.start := rfl
@[simp] theorem State.setOp_port (n : Fin 8) (op : Option Operation) (s : State) : (s.setOp n op).port = s.port := rfl
@[simp] theorem State.setOp_decision (n : Fin 8) (op : Option Operation) (s : State) :
    (s.setOp n op).decision = s.decision := rfl
@[simp] theorem State.setOp_table (n : Fin 8) (op : Option Operation) (s : State) :
    (s.setOp n op).table = s.table := rfl
@[simp] theorem State.setOp_guard (n : Fin 8) (op : Option Operation) (s : State) :
    (s.setOp n op).guard = (s.setCell n { s.cell n with op := op }).guard := rfl
@[simp] theorem State.setOp_mem (n : Fin 8) (op : Option Operation) (s : State) : (s.setOp n op).mem = s.mem := rfl
@[simp] theorem State.setOp_grants (n : Fin 8) (op : Option Operation) (s : State) :
    (s.setOp n op).grants = s.grants := rfl
@[simp] theorem State.setOp_engine (n : Fin 8) (op : Option Operation) (s : State) :
    (s.setOp n op).engine = s.engine := rfl
@[simp] theorem State.setOp_link (n : Fin 8) (op : Option Operation) (s : State) : (s.setOp n op).link = s.link := rfl
@[simp] theorem State.setOp_log (n : Fin 8) (op : Option Operation) (s : State) : (s.setOp n op).log = s.log := rfl
@[simp] theorem State.setOp_time (n : Fin 8) (op : Option Operation) (s : State) : (s.setOp n op).time = s.time := rfl
@[simp] theorem State.setOp_ignition (n : Fin 8) (op : Option Operation) (s : State) :
    (s.setOp n op).ignition = s.ignition := rfl
@[simp] theorem State.setOp_out (n : Fin 8) (op : Option Operation) (s : State) : (s.setOp n op).out = s.out := rfl
@[simp] theorem State.setOp_store (n : Fin 8) (op : Option Operation) (s : State) :
    (s.setOp n op).store = s.store := rfl

@[simp] theorem State.enqueueProcessor_pending (r : Request) (s : State) :
    (s.enqueueProcessor r).pending = s.pending := rfl
@[simp] theorem State.enqueueProcessor_guardPeriods (r : Request) (s : State) :
    (s.enqueueProcessor r).guardPeriods = s.guardPeriods := rfl
@[simp] theorem State.enqueueProcessor_start (r : Request) (s : State) : (s.enqueueProcessor r).start = s.start := rfl
@[simp] theorem State.enqueueProcessor_port (r : Request) (s : State) : (s.enqueueProcessor r).port = s.port := rfl
@[simp] theorem State.enqueueProcessor_decision (r : Request) (s : State) :
    (s.enqueueProcessor r).decision = s.decision := rfl
@[simp] theorem State.enqueueProcessor_table (r : Request) (s : State) : (s.enqueueProcessor r).table = s.table := rfl
@[simp] theorem State.enqueueProcessor_guard (r : Request) (s : State) : (s.enqueueProcessor r).guard = s.guard := rfl
@[simp] theorem State.enqueueProcessor_mem (r : Request) (s : State) :
    (s.enqueueProcessor r).mem = { s.mem with place := some r } := rfl
@[simp] theorem State.enqueueProcessor_grants (r : Request) (s : State) :
    (s.enqueueProcessor r).grants = s.grants := rfl
@[simp] theorem State.enqueueProcessor_engine (r : Request) (s : State) :
    (s.enqueueProcessor r).engine = s.engine := rfl
@[simp] theorem State.enqueueProcessor_link (r : Request) (s : State) : (s.enqueueProcessor r).link = s.link := rfl
@[simp] theorem State.enqueueProcessor_log (r : Request) (s : State) : (s.enqueueProcessor r).log = s.log := rfl
@[simp] theorem State.enqueueProcessor_time (r : Request) (s : State) : (s.enqueueProcessor r).time = s.time := rfl
@[simp] theorem State.enqueueProcessor_ignition (r : Request) (s : State) :
    (s.enqueueProcessor r).ignition = s.ignition := rfl
@[simp] theorem State.enqueueProcessor_out (r : Request) (s : State) : (s.enqueueProcessor r).out = s.out := rfl
@[simp] theorem State.enqueueProcessor_store (r : Request) (s : State) : (s.enqueueProcessor r).store = s.store := rfl

@[simp] theorem State.enqueueInternal_pending (r : Request) (s : State) :
    (s.enqueueInternal r).pending = s.pending := rfl
@[simp] theorem State.enqueueInternal_guardPeriods (r : Request) (s : State) :
    (s.enqueueInternal r).guardPeriods = s.guardPeriods := rfl
@[simp] theorem State.enqueueInternal_start (r : Request) (s : State) : (s.enqueueInternal r).start = s.start := rfl
@[simp] theorem State.enqueueInternal_port (r : Request) (s : State) : (s.enqueueInternal r).port = s.port := rfl
@[simp] theorem State.enqueueInternal_decision (r : Request) (s : State) :
    (s.enqueueInternal r).decision = s.decision := rfl
@[simp] theorem State.enqueueInternal_table (r : Request) (s : State) : (s.enqueueInternal r).table = s.table := rfl
@[simp] theorem State.enqueueInternal_guard (r : Request) (s : State) : (s.enqueueInternal r).guard = s.guard := rfl
@[simp] theorem State.enqueueInternal_mem (r : Request) (s : State) :
    (s.enqueueInternal r).mem = { s.mem with queue := s.mem.queue ++ [r] } := rfl
@[simp] theorem State.enqueueInternal_grants (r : Request) (s : State) :
    (s.enqueueInternal r).grants = s.grants := rfl
@[simp] theorem State.enqueueInternal_engine (r : Request) (s : State) :
    (s.enqueueInternal r).engine = s.engine := rfl
@[simp] theorem State.enqueueInternal_link (r : Request) (s : State) : (s.enqueueInternal r).link = s.link := rfl
@[simp] theorem State.enqueueInternal_log (r : Request) (s : State) : (s.enqueueInternal r).log = s.log := rfl
@[simp] theorem State.enqueueInternal_time (r : Request) (s : State) : (s.enqueueInternal r).time = s.time := rfl
@[simp] theorem State.enqueueInternal_ignition (r : Request) (s : State) :
    (s.enqueueInternal r).ignition = s.ignition := rfl
@[simp] theorem State.enqueueInternal_out (r : Request) (s : State) : (s.enqueueInternal r).out = s.out := rfl
@[simp] theorem State.enqueueInternal_store (r : Request) (s : State) : (s.enqueueInternal r).store = s.store := rfl

@[simp] theorem State.startInternal_pending (n : Fin 8) (d : CellDef) (dir : Direction) (v : Nat) (op : Operation) (s : State) :
    (s.startInternal n d dir v op).pending = s.pending := rfl
@[simp] theorem State.startInternal_guardPeriods (n : Fin 8) (d : CellDef) (dir : Direction) (v : Nat) (op : Operation) (s : State) :
    (s.startInternal n d dir v op).guardPeriods = s.guardPeriods := rfl
@[simp] theorem State.startInternal_start (n : Fin 8) (d : CellDef) (dir : Direction) (v : Nat) (op : Operation) (s : State) :
    (s.startInternal n d dir v op).start = s.start := rfl
@[simp] theorem State.startInternal_port (n : Fin 8) (d : CellDef) (dir : Direction) (v : Nat) (op : Operation) (s : State) :
    (s.startInternal n d dir v op).port = s.port := rfl
@[simp] theorem State.startInternal_decision (n : Fin 8) (d : CellDef) (dir : Direction) (v : Nat) (op : Operation) (s : State) :
    (s.startInternal n d dir v op).decision = s.decision := rfl
@[simp] theorem State.startInternal_table (n : Fin 8) (d : CellDef) (dir : Direction) (v : Nat) (op : Operation) (s : State) :
    (s.startInternal n d dir v op).table = s.table := rfl
@[simp] theorem State.startInternal_guard (n : Fin 8) (d : CellDef) (dir : Direction) (v : Nat) (op : Operation) (s : State) :
    (s.startInternal n d dir v op).guard = (s.setOp n (some op)).guard := rfl
@[simp] theorem State.startInternal_mem (n : Fin 8) (d : CellDef) (dir : Direction) (v : Nat) (op : Operation) (s : State) :
    (s.startInternal n d dir v op).mem = { s.mem with queue := s.mem.queue ++ [cellRequest d dir v (.internal n) none] } := rfl
@[simp] theorem State.startInternal_grants (n : Fin 8) (d : CellDef) (dir : Direction) (v : Nat) (op : Operation) (s : State) :
    (s.startInternal n d dir v op).grants = s.grants := rfl
@[simp] theorem State.startInternal_engine (n : Fin 8) (d : CellDef) (dir : Direction) (v : Nat) (op : Operation) (s : State) :
    (s.startInternal n d dir v op).engine = s.engine := rfl
@[simp] theorem State.startInternal_link (n : Fin 8) (d : CellDef) (dir : Direction) (v : Nat) (op : Operation) (s : State) :
    (s.startInternal n d dir v op).link = s.link := rfl
@[simp] theorem State.startInternal_log (n : Fin 8) (d : CellDef) (dir : Direction) (v : Nat) (op : Operation) (s : State) :
    (s.startInternal n d dir v op).log = s.log := rfl
@[simp] theorem State.startInternal_time (n : Fin 8) (d : CellDef) (dir : Direction) (v : Nat) (op : Operation) (s : State) :
    (s.startInternal n d dir v op).time = s.time := rfl
@[simp] theorem State.startInternal_ignition (n : Fin 8) (d : CellDef) (dir : Direction) (v : Nat) (op : Operation) (s : State) :
    (s.startInternal n d dir v op).ignition = s.ignition := rfl
@[simp] theorem State.startInternal_out (n : Fin 8) (d : CellDef) (dir : Direction) (v : Nat) (op : Operation) (s : State) :
    (s.startInternal n d dir v op).out = s.out := rfl
@[simp] theorem State.startInternal_store (n : Fin 8) (d : CellDef) (dir : Direction) (v : Nat) (op : Operation) (s : State) :
    (s.startInternal n d dir v op).store = s.store := rfl

@[simp] theorem State.activate_pending (c : Cycle) (s : State) : (s.activate c).pending = s.pending := rfl
@[simp] theorem State.activate_guardPeriods (c : Cycle) (s : State) :
    (s.activate c).guardPeriods = s.guardPeriods := rfl
@[simp] theorem State.activate_start (c : Cycle) (s : State) : (s.activate c).start = s.start := rfl
@[simp] theorem State.activate_port (c : Cycle) (s : State) :
    (s.activate c).port = { s.port with state := .active, cycle := some c, completion := none } := rfl
@[simp] theorem State.activate_decision (c : Cycle) (s : State) : (s.activate c).decision = s.decision := rfl
@[simp] theorem State.activate_table (c : Cycle) (s : State) : (s.activate c).table = s.table := rfl
@[simp] theorem State.activate_guard (c : Cycle) (s : State) : (s.activate c).guard = s.guard := rfl
@[simp] theorem State.activate_mem (c : Cycle) (s : State) : (s.activate c).mem = s.mem := rfl
@[simp] theorem State.activate_grants (c : Cycle) (s : State) : (s.activate c).grants = s.grants := rfl
@[simp] theorem State.activate_engine (c : Cycle) (s : State) : (s.activate c).engine = s.engine := rfl
@[simp] theorem State.activate_link (c : Cycle) (s : State) : (s.activate c).link = s.link := rfl
@[simp] theorem State.activate_log (c : Cycle) (s : State) : (s.activate c).log = s.log := rfl
@[simp] theorem State.activate_time (c : Cycle) (s : State) : (s.activate c).time = s.time := rfl
@[simp] theorem State.activate_ignition (c : Cycle) (s : State) : (s.activate c).ignition = s.ignition := rfl
@[simp] theorem State.activate_out (c : Cycle) (s : State) : (s.activate c).out = s.out := rfl
@[simp] theorem State.activate_store (c : Cycle) (s : State) : (s.activate c).store = s.store := rfl

@[simp] theorem State.completed_pending (data : Option Word) (s : State) :
    (s.completed data).pending = s.pending := rfl
@[simp] theorem State.completed_guardPeriods (data : Option Word) (s : State) :
    (s.completed data).guardPeriods = s.guardPeriods := rfl
@[simp] theorem State.completed_start (data : Option Word) (s : State) : (s.completed data).start = s.start := rfl
@[simp] theorem State.completed_port (data : Option Word) (s : State) :
    (s.completed data).port = { s.port with state := .idle, cycle := none, completion := some { data := data } } := rfl
@[simp] theorem State.completed_decision (data : Option Word) (s : State) :
    (s.completed data).decision = { s.decision with record := none } := rfl
@[simp] theorem State.completed_table (data : Option Word) (s : State) : (s.completed data).table = s.table := rfl
@[simp] theorem State.completed_guard (data : Option Word) (s : State) : (s.completed data).guard = s.guard := rfl
@[simp] theorem State.completed_mem (data : Option Word) (s : State) : (s.completed data).mem = s.mem := rfl
@[simp] theorem State.completed_grants (data : Option Word) (s : State) : (s.completed data).grants = s.grants := rfl
@[simp] theorem State.completed_engine (data : Option Word) (s : State) : (s.completed data).engine = s.engine := rfl
@[simp] theorem State.completed_link (data : Option Word) (s : State) : (s.completed data).link = s.link := rfl
@[simp] theorem State.completed_log (data : Option Word) (s : State) : (s.completed data).log = s.log := rfl
@[simp] theorem State.completed_time (data : Option Word) (s : State) : (s.completed data).time = s.time := rfl
@[simp] theorem State.completed_ignition (data : Option Word) (s : State) :
    (s.completed data).ignition = s.ignition := rfl
@[simp] theorem State.completed_out (data : Option Word) (s : State) : (s.completed data).out = s.out := rfl
@[simp] theorem State.completed_store (data : Option Word) (s : State) : (s.completed data).store = s.store := rfl

@[simp] theorem State.decided_pending (c : Cycle) (s : State) : (s.decided c).pending = s.pending := rfl
@[simp] theorem State.decided_guardPeriods (c : Cycle) (s : State) :
    (s.decided c).guardPeriods = s.guardPeriods := rfl
@[simp] theorem State.decided_start (c : Cycle) (s : State) : (s.decided c).start = s.start := rfl
@[simp] theorem State.decided_port (c : Cycle) (s : State) :
    (s.decided c).port = { s.port with state := .active, cycle := some c, completion := none } := rfl
@[simp] theorem State.decided_decision (c : Cycle) (s : State) :
    (s.decided c).decision = { s.decision with record := some (s.decisionOf c) } := rfl
@[simp] theorem State.decided_table (c : Cycle) (s : State) : (s.decided c).table = s.table := rfl
@[simp] theorem State.decided_guard (c : Cycle) (s : State) : (s.decided c).guard = s.guard := rfl
@[simp] theorem State.decided_mem (c : Cycle) (s : State) : (s.decided c).mem = s.mem := rfl
@[simp] theorem State.decided_grants (c : Cycle) (s : State) : (s.decided c).grants = s.grants := rfl
@[simp] theorem State.decided_engine (c : Cycle) (s : State) : (s.decided c).engine = s.engine := rfl
@[simp] theorem State.decided_link (c : Cycle) (s : State) : (s.decided c).link = s.link := rfl
@[simp] theorem State.decided_log (c : Cycle) (s : State) : (s.decided c).log = s.log := rfl
@[simp] theorem State.decided_time (c : Cycle) (s : State) : (s.decided c).time = s.time := rfl
@[simp] theorem State.decided_ignition (c : Cycle) (s : State) : (s.decided c).ignition = s.ignition := rfl
@[simp] theorem State.decided_out (c : Cycle) (s : State) : (s.decided c).out = s.out := rfl
@[simp] theorem State.decided_store (c : Cycle) (s : State) : (s.decided c).store = s.store := rfl

@[simp] theorem State.begin_pending (r : Request) (wide : Bool) (s : State) :
    (s.begin r wide).pending = s.pending := rfl
@[simp] theorem State.begin_guardPeriods (r : Request) (wide : Bool) (s : State) :
    (s.begin r wide).guardPeriods = s.guardPeriods := rfl
@[simp] theorem State.begin_start (r : Request) (wide : Bool) (s : State) : (s.begin r wide).start = s.start := rfl
@[simp] theorem State.begin_port (r : Request) (wide : Bool) (s : State) : (s.begin r wide).port = s.port := rfl
@[simp] theorem State.begin_decision (r : Request) (wide : Bool) (s : State) :
    (s.begin r wide).decision = s.decision := rfl
@[simp] theorem State.begin_table (r : Request) (wide : Bool) (s : State) : (s.begin r wide).table = s.table := rfl
@[simp] theorem State.begin_guard (r : Request) (wide : Bool) (s : State) : (s.begin r wide).guard = s.guard := rfl
@[simp] theorem State.begin_mem (r : Request) (wide : Bool) (s : State) :
    (s.begin r wide).mem = { s.mem with transfer := some (r.start (s.windowOf r) wide s.table.settings.readyLimit) } := rfl
@[simp] theorem State.begin_grants (r : Request) (wide : Bool) (s : State) : (s.begin r wide).grants = s.grants := rfl
@[simp] theorem State.begin_engine (r : Request) (wide : Bool) (s : State) : (s.begin r wide).engine = s.engine := rfl
@[simp] theorem State.begin_link (r : Request) (wide : Bool) (s : State) : (s.begin r wide).link = s.link := rfl
@[simp] theorem State.begin_log (r : Request) (wide : Bool) (s : State) : (s.begin r wide).log = s.log := rfl
@[simp] theorem State.begin_time (r : Request) (wide : Bool) (s : State) : (s.begin r wide).time = s.time := rfl
@[simp] theorem State.begin_ignition (r : Request) (wide : Bool) (s : State) :
    (s.begin r wide).ignition = s.ignition := rfl
@[simp] theorem State.begin_out (r : Request) (wide : Bool) (s : State) : (s.begin r wide).out = s.out := rfl
@[simp] theorem State.begin_store (r : Request) (wide : Bool) (s : State) : (s.begin r wide).store = s.store := rfl

@[simp] theorem State.completeCommand_pending (a : Answer) (s : State) :
    (s.completeCommand a).pending = s.pending := rfl
@[simp] theorem State.completeCommand_guardPeriods (a : Answer) (s : State) :
    (s.completeCommand a).guardPeriods = s.guardPeriods := rfl
@[simp] theorem State.completeCommand_start (a : Answer) (s : State) : (s.completeCommand a).start = s.start := rfl
@[simp] theorem State.completeCommand_port (a : Answer) (s : State) : (s.completeCommand a).port = s.port := rfl
@[simp] theorem State.completeCommand_decision (a : Answer) (s : State) :
    (s.completeCommand a).decision = s.decision := rfl
@[simp] theorem State.completeCommand_table (a : Answer) (s : State) : (s.completeCommand a).table = s.table := rfl
@[simp] theorem State.completeCommand_guard (a : Answer) (s : State) : (s.completeCommand a).guard = s.guard := rfl
@[simp] theorem State.completeCommand_mem (a : Answer) (s : State) : (s.completeCommand a).mem = s.mem := rfl
@[simp] theorem State.completeCommand_grants (a : Answer) (s : State) : (s.completeCommand a).grants = s.grants := rfl
@[simp] theorem State.completeCommand_engine (a : Answer) (s : State) : (s.completeCommand a).engine = s.engine := rfl
@[simp] theorem State.completeCommand_link (a : Answer) (s : State) :
    (s.completeCommand a).link = s.link.complete s.table.settings.divisor a := rfl
@[simp] theorem State.completeCommand_log (a : Answer) (s : State) : (s.completeCommand a).log = s.log := rfl
@[simp] theorem State.completeCommand_time (a : Answer) (s : State) : (s.completeCommand a).time = s.time := rfl
@[simp] theorem State.completeCommand_ignition (a : Answer) (s : State) :
    (s.completeCommand a).ignition = s.ignition := rfl
@[simp] theorem State.completeCommand_out (a : Answer) (s : State) : (s.completeCommand a).out = s.out := rfl
@[simp] theorem State.completeCommand_store (a : Answer) (s : State) : (s.completeCommand a).store = s.store := rfl

@[simp] theorem State.withTime_pending (t : Timebase) (s : State) : (s.withTime t).pending = s.pending := rfl
@[simp] theorem State.withTime_guardPeriods (t : Timebase) (s : State) :
    (s.withTime t).guardPeriods = s.guardPeriods := rfl
@[simp] theorem State.withTime_start (t : Timebase) (s : State) : (s.withTime t).start = s.start := rfl
@[simp] theorem State.withTime_port (t : Timebase) (s : State) : (s.withTime t).port = s.port := rfl
@[simp] theorem State.withTime_decision (t : Timebase) (s : State) : (s.withTime t).decision = s.decision := rfl
@[simp] theorem State.withTime_table (t : Timebase) (s : State) : (s.withTime t).table = s.table := rfl
@[simp] theorem State.withTime_guard (t : Timebase) (s : State) : (s.withTime t).guard = s.guard := rfl
@[simp] theorem State.withTime_mem (t : Timebase) (s : State) : (s.withTime t).mem = s.mem := rfl
@[simp] theorem State.withTime_grants (t : Timebase) (s : State) : (s.withTime t).grants = s.grants := rfl
@[simp] theorem State.withTime_engine (t : Timebase) (s : State) : (s.withTime t).engine = s.engine := rfl
@[simp] theorem State.withTime_link (t : Timebase) (s : State) : (s.withTime t).link = s.link := rfl
@[simp] theorem State.withTime_log (t : Timebase) (s : State) : (s.withTime t).log = s.log := rfl
@[simp] theorem State.withTime_time (t : Timebase) (s : State) : (s.withTime t).time = t := rfl
@[simp] theorem State.withTime_ignition (t : Timebase) (s : State) : (s.withTime t).ignition = s.ignition := rfl
@[simp] theorem State.withTime_out (t : Timebase) (s : State) : (s.withTime t).out = s.out := rfl
@[simp] theorem State.withTime_store (t : Timebase) (s : State) : (s.withTime t).store = s.store := rfl

@[simp] theorem State.backoffStep_pending (s : State) : (s.backoffStep).pending = s.pending := rfl
@[simp] theorem State.backoffStep_guardPeriods (s : State) : (s.backoffStep).guardPeriods = s.guardPeriods := rfl
@[simp] theorem State.backoffStep_start (s : State) : (s.backoffStep).start = s.start := rfl
@[simp] theorem State.backoffStep_port (s : State) : (s.backoffStep).port = s.port := rfl
@[simp] theorem State.backoffStep_decision (s : State) : (s.backoffStep).decision = s.decision := rfl
@[simp] theorem State.backoffStep_table (s : State) : (s.backoffStep).table = s.table := rfl
@[simp] theorem State.backoffStep_guard (s : State) : (s.backoffStep).guard = s.guard := rfl
@[simp] theorem State.backoffStep_mem (s : State) : (s.backoffStep).mem = s.mem := rfl
@[simp] theorem State.backoffStep_grants (s : State) :
    (s.backoffStep).grants = { s.grants with backoff := s.grants.backoff - 1 } := rfl
@[simp] theorem State.backoffStep_engine (s : State) : (s.backoffStep).engine = s.engine := rfl
@[simp] theorem State.backoffStep_link (s : State) : (s.backoffStep).link = s.link := rfl
@[simp] theorem State.backoffStep_log (s : State) : (s.backoffStep).log = s.log := rfl
@[simp] theorem State.backoffStep_time (s : State) : (s.backoffStep).time = s.time := rfl
@[simp] theorem State.backoffStep_ignition (s : State) : (s.backoffStep).ignition = s.ignition := rfl
@[simp] theorem State.backoffStep_out (s : State) : (s.backoffStep).out = s.out := rfl
@[simp] theorem State.backoffStep_store (s : State) : (s.backoffStep).store = s.store := rfl

/-! ## Reading one cell back -/

theorem State.cell_setCell (n m : Fin 8) (c : Cell) (s : State) :
    (s.setCell n c).cell m = if m = n then c else s.cell m := by
  simp only [State.cell, State.setCell, Fin.getElem_fin, Vector.getElem_set, Fin.ext_iff, eq_comm]

@[simp] theorem State.cell_setCell_self (n : Fin 8) (c : Cell) (s : State) : (s.setCell n c).cell n = c := by
  simp [State.cell_setCell]

@[simp] theorem State.cell_modifyLive_self (n : Fin 8) (f : LiveState → LiveState) (s : State) :
    (s.modifyLive n f).cell n = { s.cell n with live := (s.cell n).live.map f } := State.cell_setCell_self ..

@[simp] theorem State.cell_setOp_self (n : Fin 8) (op : Option Operation) (s : State) :
    (s.setOp n op).cell n = { s.cell n with op := op } := State.cell_setCell_self ..

@[simp] theorem State.setCell_setCell (n : Fin 8) (c e : Cell) (s : State) :
    (s.setCell n c).setCell n e = s.setCell n e := by
  simp only [State.setCell, Vector.set_set]

/-- A cell is read from the counter guard alone. -/
theorem State.cell_congr {s t : State} (h : t.guard.cells = s.guard.cells) (n : Fin 8) : t.cell n = s.cell n := by
  simp only [State.cell, h]

/-! ## Reading one slot back -/

theorem State.slot_setSlot (i j : Fin 4) (x : Slot) (s : State) :
    (s.setSlot i x).grants.slots[j] = if j = i then x else s.grants.slots[j] := by
  simp only [State.setSlot, Fin.getElem_fin, Vector.getElem_set, Fin.ext_iff, eq_comm]

end Sys2Proof.Machine
end

