-- ==== Sys2Proof/Laws/Frames.lean ====
section
/-! SUPPORT. The frames of the shared operations: for each, the blocks it leaves as they are. A frame lemma is one
conjunction, tagged for `simp`, with one equation per block. -/

namespace Sys2Proof.Machine

/-! ## Walks over the slots and the cells -/

/-- What each step of a walk over the slots keeps, the walk keeps. -/
theorem forSlots_keeps {α : Type} (p : State → α) (f : Fin 4 → State → State) (h : ∀ i s, p (f i s) = p s) (s : State) :
    p (forSlots f s) = p s := by
  simp [forSlots, slotOrder, h]

/-- What each step of a walk over the cells keeps, the walk keeps. -/
theorem forCells_keeps {α : Type} (p : State → α) (f : Fin 8 → State → State) (h : ∀ n s, p (f n s) = p s) (s : State) :
    p (forCells f s) = p s := by
  simp [forCells, octOrder, h]

/-- A property that each step of a walk over the slots keeps holds after the walk. -/
theorem forSlots_induct (P : State → Prop) (f : Fin 4 → State → State) (h : ∀ i s, P s → P (f i s)) (s : State)
    (hs : P s) : P (forSlots f s) := by
  simp only [forSlots, slotOrder, List.foldl]
  exact h _ _ (h _ _ (h _ _ (h _ _ hs)))

/-- A property that each step of a walk over the cells keeps holds after the walk. -/
theorem forCells_induct (P : State → Prop) (f : Fin 8 → State → State) (h : ∀ n s, P s → P (f n s)) (s : State)
    (hs : P s) : P (forCells f s) := by
  simp only [forCells, octOrder, List.foldl]
  exact h _ _ (h _ _ (h _ _ (h _ _ (h _ _ (h _ _ (h _ _ (h _ _ hs)))))))

/-! ## The log and the grants -/

@[simp] theorem State.markAfter_frame (t : Taken) (r : Report) (s : State) :
    (s.markAfter t r).pending = s.pending ∧ (s.markAfter t r).guardPeriods = s.guardPeriods ∧
      (s.markAfter t r).start = s.start ∧ (s.markAfter t r).port = s.port ∧
      (s.markAfter t r).decision = s.decision ∧ (s.markAfter t r).table = s.table ∧
      (s.markAfter t r).guard = s.guard ∧ (s.markAfter t r).mem = s.mem ∧ (s.markAfter t r).grants = s.grants ∧
      (s.markAfter t r).engine = s.engine ∧ (s.markAfter t r).link = s.link ∧ (s.markAfter t r).time = s.time ∧
      (s.markAfter t r).ignition = s.ignition ∧ (s.markAfter t r).out = s.out := by
  unfold State.markAfter; split <;> simp [State.queueItem]

@[simp] theorem State.takeRecord_frame (r : Report) (s : State) :
    (s.takeRecord r).pending = s.pending ∧ (s.takeRecord r).guardPeriods = s.guardPeriods ∧
      (s.takeRecord r).start = s.start ∧ (s.takeRecord r).port = s.port ∧ (s.takeRecord r).decision = s.decision ∧
      (s.takeRecord r).table = s.table ∧ (s.takeRecord r).guard = s.guard ∧ (s.takeRecord r).mem = s.mem ∧
      (s.takeRecord r).grants = s.grants ∧ (s.takeRecord r).engine = s.engine ∧ (s.takeRecord r).link = s.link ∧
      (s.takeRecord r).time = s.time ∧ (s.takeRecord r).ignition = s.ignition := by
  simp [State.takeRecord]

@[simp] theorem State.closeSlot_frame (i : Fin 4) (reason : Reason) (s : State) :
    (s.closeSlot i reason).pending = s.pending ∧ (s.closeSlot i reason).guardPeriods = s.guardPeriods ∧
      (s.closeSlot i reason).start = s.start ∧ (s.closeSlot i reason).port = s.port ∧
      (s.closeSlot i reason).table = s.table ∧ (s.closeSlot i reason).guard = s.guard ∧
      (s.closeSlot i reason).mem = s.mem ∧ (s.closeSlot i reason).engine = s.engine ∧
      (s.closeSlot i reason).link = s.link ∧ (s.closeSlot i reason).time = s.time ∧
      (s.closeSlot i reason).ignition = s.ignition ∧ (s.closeSlot i reason).decision.score = s.decision.score ∧
      (s.closeSlot i reason).decision.lockdown = s.decision.lockdown ∧
      (s.closeSlot i reason).decision.decayCount = s.decision.decayCount := by
  unfold State.closeSlot; split <;> simp

@[simp] theorem State.endSlot_frame (i : Fin 4) (reason : Reason) (s : State) :
    (s.endSlot i reason).pending = s.pending ∧ (s.endSlot i reason).guardPeriods = s.guardPeriods ∧
      (s.endSlot i reason).start = s.start ∧ (s.endSlot i reason).port = s.port ∧
      (s.endSlot i reason).table = s.table ∧ (s.endSlot i reason).guard = s.guard ∧
      (s.endSlot i reason).mem = s.mem ∧ (s.endSlot i reason).engine = s.engine ∧
      (s.endSlot i reason).link = s.link ∧ (s.endSlot i reason).time = s.time ∧
      (s.endSlot i reason).ignition = s.ignition ∧ (s.endSlot i reason).decision.score = s.decision.score ∧
      (s.endSlot i reason).decision.lockdown = s.decision.lockdown ∧
      (s.endSlot i reason).decision.decayCount = s.decision.decayCount := by
  unfold State.endSlot; split <;> simp

@[simp] theorem State.charge_frame (i : Fin 4) (s : State) :
    (s.charge i).pending = s.pending ∧ (s.charge i).guardPeriods = s.guardPeriods ∧ (s.charge i).start = s.start ∧
      (s.charge i).port = s.port ∧ (s.charge i).table = s.table ∧ (s.charge i).guard = s.guard ∧
      (s.charge i).mem = s.mem ∧ (s.charge i).engine = s.engine ∧ (s.charge i).link = s.link ∧
      (s.charge i).time = s.time ∧ (s.charge i).ignition = s.ignition ∧
      (s.charge i).decision.score = s.decision.score ∧ (s.charge i).decision.lockdown = s.decision.lockdown ∧
      (s.charge i).decision.decayCount = s.decision.decayCount := by
  unfold State.charge; split <;> simp only [] <;> (try split) <;> simp

@[simp] theorem State.chargeOpt_frame (c : Option (Fin 4)) (s : State) :
    (s.chargeOpt c).pending = s.pending ∧ (s.chargeOpt c).guardPeriods = s.guardPeriods ∧
      (s.chargeOpt c).start = s.start ∧ (s.chargeOpt c).port = s.port ∧ (s.chargeOpt c).table = s.table ∧
      (s.chargeOpt c).guard = s.guard ∧ (s.chargeOpt c).mem = s.mem ∧ (s.chargeOpt c).engine = s.engine ∧
      (s.chargeOpt c).link = s.link ∧ (s.chargeOpt c).time = s.time ∧ (s.chargeOpt c).ignition = s.ignition ∧
      (s.chargeOpt c).decision.score = s.decision.score ∧ (s.chargeOpt c).decision.lockdown = s.decision.lockdown ∧
      (s.chargeOpt c).decision.decayCount = s.decision.decayCount := by
  unfold State.chargeOpt; split <;> simp

/-! ## The score and lockdown -/

@[simp] theorem State.lockdownSlot_frame (i : Fin 4) (s : State) :
    (s.lockdownSlot i).pending = s.pending ∧ (s.lockdownSlot i).guardPeriods = s.guardPeriods ∧
      (s.lockdownSlot i).start = s.start ∧ (s.lockdownSlot i).port = s.port ∧ (s.lockdownSlot i).table = s.table ∧
      (s.lockdownSlot i).guard = s.guard ∧ (s.lockdownSlot i).mem = s.mem ∧ (s.lockdownSlot i).engine = s.engine ∧
      (s.lockdownSlot i).link = s.link ∧ (s.lockdownSlot i).time = s.time ∧
      (s.lockdownSlot i).ignition = s.ignition ∧ (s.lockdownSlot i).decision.score = s.decision.score ∧
      (s.lockdownSlot i).decision.lockdown = s.decision.lockdown ∧
      (s.lockdownSlot i).decision.decayCount = s.decision.decayCount := by
  unfold State.lockdownSlot; split <;> simp

@[simp] theorem State.forSlots_lockdownSlot_frame (s : State) :
    (forSlots State.lockdownSlot s).pending = s.pending ∧
      (forSlots State.lockdownSlot s).guardPeriods = s.guardPeriods ∧
      (forSlots State.lockdownSlot s).start = s.start ∧ (forSlots State.lockdownSlot s).port = s.port ∧
      (forSlots State.lockdownSlot s).table = s.table ∧ (forSlots State.lockdownSlot s).guard = s.guard ∧
      (forSlots State.lockdownSlot s).mem = s.mem ∧ (forSlots State.lockdownSlot s).engine = s.engine ∧
      (forSlots State.lockdownSlot s).link = s.link ∧ (forSlots State.lockdownSlot s).time = s.time ∧
      (forSlots State.lockdownSlot s).ignition = s.ignition ∧
      (forSlots State.lockdownSlot s).decision.score = s.decision.score ∧
      (forSlots State.lockdownSlot s).decision.lockdown = s.decision.lockdown ∧
      (forSlots State.lockdownSlot s).decision.decayCount = s.decision.decayCount := by
  refine ⟨?_, ?_, ?_, ?_, ?_, ?_, ?_, ?_, ?_, ?_, ?_, ?_, ?_, ?_⟩
  · exact forSlots_keeps (fun s => s.pending) _ (by simp) s
  · exact forSlots_keeps (fun s => s.guardPeriods) _ (by simp) s
  · exact forSlots_keeps (fun s => s.start) _ (by simp) s
  · exact forSlots_keeps (fun s => s.port) _ (by simp) s
  · exact forSlots_keeps (fun s => s.table) _ (by simp) s
  · exact forSlots_keeps (fun s => s.guard) _ (by simp) s
  · exact forSlots_keeps (fun s => s.mem) _ (by simp) s
  · exact forSlots_keeps (fun s => s.engine) _ (by simp) s
  · exact forSlots_keeps (fun s => s.link) _ (by simp) s
  · exact forSlots_keeps (fun s => s.time) _ (by simp) s
  · exact forSlots_keeps (fun s => s.ignition) _ (by simp) s
  · exact forSlots_keeps (fun s => s.decision.score) _ (by simp) s
  · exact forSlots_keeps (fun s => s.decision.lockdown) _ (by simp) s
  · exact forSlots_keeps (fun s => s.decision.decayCount) _ (by simp) s

@[simp] theorem State.enterLockdown_frame (cause : Reason) (s : State) :
    (s.enterLockdown cause).pending = s.pending ∧ (s.enterLockdown cause).guardPeriods = s.guardPeriods ∧
      (s.enterLockdown cause).start = s.start ∧ (s.enterLockdown cause).port = s.port ∧
      (s.enterLockdown cause).table = s.table ∧ (s.enterLockdown cause).guard = s.guard ∧
      (s.enterLockdown cause).mem = s.mem ∧ (s.enterLockdown cause).engine = s.engine ∧
      (s.enterLockdown cause).link = s.link ∧ (s.enterLockdown cause).time = s.time ∧
      (s.enterLockdown cause).ignition = s.ignition ∧ (s.enterLockdown cause).decision.score = s.decision.score ∧
      (s.enterLockdown cause).decision.lockdown = true ∧
      (s.enterLockdown cause).decision.decayCount = s.decision.decayCount := by
  simp [State.enterLockdown]

@[simp] theorem State.lockdownCheck_frame (cause : Reason) (s : State) :
    (s.lockdownCheck cause).pending = s.pending ∧ (s.lockdownCheck cause).guardPeriods = s.guardPeriods ∧
      (s.lockdownCheck cause).start = s.start ∧ (s.lockdownCheck cause).port = s.port ∧
      (s.lockdownCheck cause).table = s.table ∧ (s.lockdownCheck cause).guard = s.guard ∧
      (s.lockdownCheck cause).mem = s.mem ∧ (s.lockdownCheck cause).engine = s.engine ∧
      (s.lockdownCheck cause).link = s.link ∧ (s.lockdownCheck cause).time = s.time ∧
      (s.lockdownCheck cause).ignition = s.ignition ∧ (s.lockdownCheck cause).decision.score = s.decision.score ∧
      (s.lockdownCheck cause).decision.decayCount = s.decision.decayCount := by
  unfold State.lockdownCheck; split <;> simp

@[simp] theorem State.alertCheck_frame (old : Nat) (s : State) :
    (s.alertCheck old).pending = s.pending ∧ (s.alertCheck old).guardPeriods = s.guardPeriods ∧
      (s.alertCheck old).start = s.start ∧ (s.alertCheck old).port = s.port ∧
      (s.alertCheck old).decision = s.decision ∧ (s.alertCheck old).table = s.table ∧
      (s.alertCheck old).guard = s.guard ∧ (s.alertCheck old).mem = s.mem ∧ (s.alertCheck old).grants = s.grants ∧
      (s.alertCheck old).engine = s.engine ∧ (s.alertCheck old).link = s.link ∧ (s.alertCheck old).log = s.log ∧
      (s.alertCheck old).time = s.time ∧ (s.alertCheck old).ignition = s.ignition ∧
      (s.alertCheck old).store = s.store := by
  unfold State.alertCheck; split <;> simp

@[simp] theorem State.scoreIncrement_frame (n : Nat) (cause : Reason) (s : State) :
    (s.scoreIncrement n cause).pending = s.pending ∧ (s.scoreIncrement n cause).guardPeriods = s.guardPeriods ∧
      (s.scoreIncrement n cause).start = s.start ∧ (s.scoreIncrement n cause).port = s.port ∧
      (s.scoreIncrement n cause).table = s.table ∧ (s.scoreIncrement n cause).guard = s.guard ∧
      (s.scoreIncrement n cause).mem = s.mem ∧ (s.scoreIncrement n cause).engine = s.engine ∧
      (s.scoreIncrement n cause).link = s.link ∧ (s.scoreIncrement n cause).time = s.time ∧
      (s.scoreIncrement n cause).ignition = s.ignition ∧
      (s.scoreIncrement n cause).decision.score = min (s.decision.score + n) 255 ∧
      (s.scoreIncrement n cause).decision.decayCount = s.decision.decayCount := by
  simp [State.scoreIncrement, Config.scoreLimit]

/-! ## Requests, new reads and the completion of the cycle -/

@[simp] theorem State.startNewRead_frame (n : Fin 8) (s : State) :
    (s.startNewRead n).pending = s.pending ∧ (s.startNewRead n).guardPeriods = s.guardPeriods ∧
      (s.startNewRead n).start = s.start ∧ (s.startNewRead n).port = s.port ∧
      (s.startNewRead n).decision = s.decision ∧ (s.startNewRead n).table = s.table ∧
      (s.startNewRead n).grants = s.grants ∧ (s.startNewRead n).engine = s.engine ∧
      (s.startNewRead n).link = s.link ∧ (s.startNewRead n).log = s.log ∧ (s.startNewRead n).time = s.time ∧
      (s.startNewRead n).ignition = s.ignition ∧ (s.startNewRead n).out = s.out ∧
      (s.startNewRead n).store = s.store ∧ (s.startNewRead n).guard.waitingWrite = s.guard.waitingWrite := by
  unfold State.startNewRead; split <;> (try split) <;> simp

@[simp] theorem State.releaseRead_frame (w : ReadWait) (n : Fin 8) (s : State) :
    (s.releaseRead w n).pending = s.pending ∧ (s.releaseRead w n).guardPeriods = s.guardPeriods ∧
      (s.releaseRead w n).start = s.start ∧ (s.releaseRead w n).port = s.port ∧
      (s.releaseRead w n).decision = s.decision ∧ (s.releaseRead w n).table = s.table ∧
      (s.releaseRead w n).grants = s.grants ∧ (s.releaseRead w n).engine = s.engine ∧
      (s.releaseRead w n).link = s.link ∧ (s.releaseRead w n).log = s.log ∧ (s.releaseRead w n).time = s.time ∧
      (s.releaseRead w n).ignition = s.ignition ∧ (s.releaseRead w n).out = s.out ∧
      (s.releaseRead w n).store = s.store ∧ (s.releaseRead w n).guard.waitingWrite = s.guard.waitingWrite := by
  unfold State.releaseRead; split <;> (try split) <;> simp

@[simp] theorem State.forCells_releaseRead_frame (w : ReadWait) (s : State) :
    (forCells (State.releaseRead w) s).pending = s.pending ∧
      (forCells (State.releaseRead w) s).guardPeriods = s.guardPeriods ∧
      (forCells (State.releaseRead w) s).start = s.start ∧ (forCells (State.releaseRead w) s).port = s.port ∧
      (forCells (State.releaseRead w) s).decision = s.decision ∧
      (forCells (State.releaseRead w) s).table = s.table ∧ (forCells (State.releaseRead w) s).grants = s.grants ∧
      (forCells (State.releaseRead w) s).engine = s.engine ∧ (forCells (State.releaseRead w) s).link = s.link ∧
      (forCells (State.releaseRead w) s).log = s.log ∧ (forCells (State.releaseRead w) s).time = s.time ∧
      (forCells (State.releaseRead w) s).ignition = s.ignition ∧ (forCells (State.releaseRead w) s).out = s.out ∧
      (forCells (State.releaseRead w) s).store = s.store ∧
      (forCells (State.releaseRead w) s).guard.waitingWrite = s.guard.waitingWrite := by
  refine ⟨?_, ?_, ?_, ?_, ?_, ?_, ?_, ?_, ?_, ?_, ?_, ?_, ?_, ?_, ?_⟩
  · exact forCells_keeps (fun s => s.pending) _ (by simp) s
  · exact forCells_keeps (fun s => s.guardPeriods) _ (by simp) s
  · exact forCells_keeps (fun s => s.start) _ (by simp) s
  · exact forCells_keeps (fun s => s.port) _ (by simp) s
  · exact forCells_keeps (fun s => s.decision) _ (by simp) s
  · exact forCells_keeps (fun s => s.table) _ (by simp) s
  · exact forCells_keeps (fun s => s.grants) _ (by simp) s
  · exact forCells_keeps (fun s => s.engine) _ (by simp) s
  · exact forCells_keeps (fun s => s.link) _ (by simp) s
  · exact forCells_keeps (fun s => s.log) _ (by simp) s
  · exact forCells_keeps (fun s => s.time) _ (by simp) s
  · exact forCells_keeps (fun s => s.ignition) _ (by simp) s
  · exact forCells_keeps (fun s => s.out) _ (by simp) s
  · exact forCells_keeps (fun s => s.store) _ (by simp) s
  · exact forCells_keeps (fun s => s.guard.waitingWrite) _ (by simp) s

@[simp] theorem State.releaseReads_frame (s : State) :
    (s.releaseReads).pending = s.pending ∧ (s.releaseReads).guardPeriods = s.guardPeriods ∧
      (s.releaseReads).start = s.start ∧ (s.releaseReads).port = s.port ∧ (s.releaseReads).decision = s.decision ∧
      (s.releaseReads).table = s.table ∧ (s.releaseReads).grants = s.grants ∧ (s.releaseReads).engine = s.engine ∧
      (s.releaseReads).link = s.link ∧ (s.releaseReads).log = s.log ∧ (s.releaseReads).time = s.time ∧
      (s.releaseReads).ignition = s.ignition ∧ (s.releaseReads).out = s.out ∧ (s.releaseReads).store = s.store ∧
      s.releaseReads.guard.waitingWrite = s.guard.waitingWrite := by
  simp [State.releaseReads]

@[simp] theorem State.releaseAbandoned_frame (s : State) :
    (s.releaseAbandoned).pending = s.pending ∧ (s.releaseAbandoned).guardPeriods = s.guardPeriods ∧
      (s.releaseAbandoned).start = s.start ∧ (s.releaseAbandoned).port = s.port ∧
      (s.releaseAbandoned).decision = s.decision ∧ (s.releaseAbandoned).table = s.table ∧
      (s.releaseAbandoned).grants = s.grants ∧ (s.releaseAbandoned).engine = s.engine ∧
      (s.releaseAbandoned).link = s.link ∧ (s.releaseAbandoned).log = s.log ∧ (s.releaseAbandoned).time = s.time ∧
      (s.releaseAbandoned).ignition = s.ignition ∧ (s.releaseAbandoned).out = s.out ∧
      (s.releaseAbandoned).store = s.store ∧ s.releaseAbandoned.guard.waitingWrite = s.guard.waitingWrite := by
  simp [State.releaseAbandoned]

@[simp] theorem State.keepRead_frame (n : Fin 8) (s : State) :
    (s.keepRead n).pending = s.pending ∧ (s.keepRead n).guardPeriods = s.guardPeriods ∧
      (s.keepRead n).start = s.start ∧ (s.keepRead n).port = s.port ∧ (s.keepRead n).decision = s.decision ∧
      (s.keepRead n).table = s.table ∧ (s.keepRead n).mem = s.mem ∧ (s.keepRead n).grants = s.grants ∧
      (s.keepRead n).engine = s.engine ∧ (s.keepRead n).link = s.link ∧ (s.keepRead n).log = s.log ∧
      (s.keepRead n).time = s.time ∧ (s.keepRead n).ignition = s.ignition ∧ (s.keepRead n).out = s.out ∧
      (s.keepRead n).store = s.store ∧ (s.keepRead n).guard.waitingWrite = s.guard.waitingWrite := by
  unfold State.keepRead; split <;> simp

@[simp] theorem State.completeCycle_frame (data : Option Word) (s : State) :
    (s.completeCycle data).pending = s.pending ∧ (s.completeCycle data).guardPeriods = s.guardPeriods ∧
      (s.completeCycle data).start = s.start ∧ (s.completeCycle data).table = s.table ∧
      (s.completeCycle data).grants = s.grants ∧ (s.completeCycle data).engine = s.engine ∧
      (s.completeCycle data).link = s.link ∧ (s.completeCycle data).log = s.log ∧
      (s.completeCycle data).time = s.time ∧ (s.completeCycle data).ignition = s.ignition ∧
      (s.completeCycle data).out = s.out ∧ (s.completeCycle data).store = s.store ∧
      (s.completeCycle data).port.state = .idle ∧ (s.completeCycle data).port.cycle = none ∧
      (s.completeCycle data).port.completion = some { data := data } ∧
      (s.completeCycle data).port.presented = s.port.presented ∧
      (s.completeCycle data).port.busReset = s.port.busReset ∧
      (s.completeCycle data).decision = { s.decision with record := none } ∧
      (s.completeCycle data).guard.waitingWrite = s.guard.waitingWrite := by
  simp [State.completeCycle]

/-- The completion of the cycle, and then the new reads that waited for it. -/
theorem State.completeCycle_eq (data : Option Word) (s : State) :
    s.completeCycle data = (s.completed data).releaseReads := rfl

@[simp] theorem State.completeIfActive_frame (data : Option Word) (s : State) :
    (s.completeIfActive data).pending = s.pending ∧ (s.completeIfActive data).guardPeriods = s.guardPeriods ∧
      (s.completeIfActive data).start = s.start ∧ (s.completeIfActive data).table = s.table ∧
      (s.completeIfActive data).grants = s.grants ∧ (s.completeIfActive data).engine = s.engine ∧
      (s.completeIfActive data).link = s.link ∧ (s.completeIfActive data).log = s.log ∧
      (s.completeIfActive data).time = s.time ∧ (s.completeIfActive data).ignition = s.ignition ∧
      (s.completeIfActive data).out = s.out ∧ (s.completeIfActive data).store = s.store ∧
      (s.completeIfActive data).decision.score = s.decision.score ∧
      (s.completeIfActive data).decision.lockdown = s.decision.lockdown ∧
      (s.completeIfActive data).port.presented = s.port.presented ∧
      (s.completeIfActive data).port.busReset = s.port.busReset := by
  unfold State.completeIfActive; split <;> simp

/-! ## Evaluations -/

@[simp] theorem State.startWrite_frame (n : Fin 8) (d : CellDef) (o : Origin) (v : Nat) (isSet : Bool) (s : State) :
    (s.startWrite n d o v isSet).pending = s.pending ∧ (s.startWrite n d o v isSet).guardPeriods = s.guardPeriods ∧
      (s.startWrite n d o v isSet).start = s.start ∧ (s.startWrite n d o v isSet).port = s.port ∧
      (s.startWrite n d o v isSet).decision = s.decision ∧ (s.startWrite n d o v isSet).table = s.table ∧
      (s.startWrite n d o v isSet).grants = s.grants ∧ (s.startWrite n d o v isSet).engine = s.engine ∧
      (s.startWrite n d o v isSet).link = s.link ∧ (s.startWrite n d o v isSet).log = s.log ∧
      (s.startWrite n d o v isSet).time = s.time ∧ (s.startWrite n d o v isSet).ignition = s.ignition ∧
      (s.startWrite n d o v isSet).out = s.out ∧ (s.startWrite n d o v isSet).store = s.store ∧
      (s.startWrite n d o v isSet).guard.waitingWrite = s.guard.waitingWrite := by
  unfold State.startWrite; split <;> simp

@[simp] theorem State.refuseDecrease_frame (n : Fin 8) (d : CellDef) (p shadow : Nat) (s : State) :
    (s.refuseDecrease n d p shadow).pending = s.pending ∧
      (s.refuseDecrease n d p shadow).guardPeriods = s.guardPeriods ∧
      (s.refuseDecrease n d p shadow).start = s.start ∧ (s.refuseDecrease n d p shadow).port = s.port ∧
      (s.refuseDecrease n d p shadow).table = s.table ∧ (s.refuseDecrease n d p shadow).guard = s.guard ∧
      (s.refuseDecrease n d p shadow).mem = s.mem ∧ (s.refuseDecrease n d p shadow).engine = s.engine ∧
      (s.refuseDecrease n d p shadow).link = s.link ∧ (s.refuseDecrease n d p shadow).time = s.time ∧
      (s.refuseDecrease n d p shadow).ignition = s.ignition := by
  simp [State.refuseDecrease]

@[simp] theorem State.counterSet_frame (n : Fin 8) (d : CellDef) (o : Origin) (charge : Option (Fin 4)) (p shadow : Nat) (s : State) :
    (s.counterSet n d o charge p shadow).pending = s.pending ∧
      (s.counterSet n d o charge p shadow).guardPeriods = s.guardPeriods ∧
      (s.counterSet n d o charge p shadow).start = s.start ∧ (s.counterSet n d o charge p shadow).port = s.port ∧
      (s.counterSet n d o charge p shadow).table = s.table ∧
      (s.counterSet n d o charge p shadow).engine = s.engine ∧ (s.counterSet n d o charge p shadow).link = s.link ∧
      (s.counterSet n d o charge p shadow).time = s.time ∧
      (s.counterSet n d o charge p shadow).ignition = s.ignition ∧
      (s.counterSet n d o charge p shadow).guard.waitingWrite = s.guard.waitingWrite := by
  simp [State.counterSet]

@[simp] theorem State.clampRise_frame (n : Fin 8) (d : CellDef) (o : Origin) (p : Nat) (v : LiveState) (s : State) :
    (s.clampRise n d o p v).pending = s.pending ∧ (s.clampRise n d o p v).guardPeriods = s.guardPeriods ∧
      (s.clampRise n d o p v).start = s.start ∧ (s.clampRise n d o p v).port = s.port ∧
      (s.clampRise n d o p v).decision = s.decision ∧ (s.clampRise n d o p v).table = s.table ∧
      (s.clampRise n d o p v).grants = s.grants ∧ (s.clampRise n d o p v).engine = s.engine ∧
      (s.clampRise n d o p v).link = s.link ∧ (s.clampRise n d o p v).time = s.time ∧
      (s.clampRise n d o p v).ignition = s.ignition ∧
      (s.clampRise n d o p v).guard.waitingWrite = s.guard.waitingWrite := by
  unfold State.clampRise; simp only []; split <;> simp

@[simp] theorem State.rateRise_frame (n : Fin 8) (d : CellDef) (o : Origin) (p : Nat) (v : LiveState) (s : State) :
    (s.rateRise n d o p v).pending = s.pending ∧ (s.rateRise n d o p v).guardPeriods = s.guardPeriods ∧
      (s.rateRise n d o p v).start = s.start ∧ (s.rateRise n d o p v).port = s.port ∧
      (s.rateRise n d o p v).decision = s.decision ∧ (s.rateRise n d o p v).table = s.table ∧
      (s.rateRise n d o p v).grants = s.grants ∧ (s.rateRise n d o p v).engine = s.engine ∧
      (s.rateRise n d o p v).link = s.link ∧ (s.rateRise n d o p v).time = s.time ∧
      (s.rateRise n d o p v).ignition = s.ignition ∧
      (s.rateRise n d o p v).guard.waitingWrite = s.guard.waitingWrite := by
  unfold State.rateRise; split <;> simp

@[simp] theorem State.judgeByMode_frame (n : Fin 8) (d : CellDef) (o : Origin) (p : Nat) (v : LiveState) (s : State) :
    (s.judgeByMode n d o p v).pending = s.pending ∧ (s.judgeByMode n d o p v).guardPeriods = s.guardPeriods ∧
      (s.judgeByMode n d o p v).start = s.start ∧ (s.judgeByMode n d o p v).port = s.port ∧
      (s.judgeByMode n d o p v).table = s.table ∧ (s.judgeByMode n d o p v).engine = s.engine ∧
      (s.judgeByMode n d o p v).link = s.link ∧ (s.judgeByMode n d o p v).time = s.time ∧
      (s.judgeByMode n d o p v).ignition = s.ignition ∧
      (s.judgeByMode n d o p v).guard.waitingWrite = s.guard.waitingWrite := by
  unfold State.judgeByMode; split <;> (try split) <;> (try split) <;> simp

@[simp] theorem State.evaluate_frame (n : Fin 8) (o : Origin) (p : Nat) (s : State) :
    (s.evaluate n o p).pending = s.pending ∧ (s.evaluate n o p).guardPeriods = s.guardPeriods ∧
      (s.evaluate n o p).start = s.start ∧ (s.evaluate n o p).port = s.port ∧ (s.evaluate n o p).table = s.table ∧
      (s.evaluate n o p).engine = s.engine ∧ (s.evaluate n o p).link = s.link ∧ (s.evaluate n o p).time = s.time ∧
      (s.evaluate n o p).ignition = s.ignition ∧ (s.evaluate n o p).guard.waitingWrite = s.guard.waitingWrite := by
  unfold State.evaluate; split <;> (try split) <;> simp

@[simp] theorem State.evaluatePending_frame (n : Fin 8) (o : Origin) (s : State) :
    (s.evaluatePending n o).pending = s.pending ∧ (s.evaluatePending n o).guardPeriods = s.guardPeriods ∧
      (s.evaluatePending n o).start = s.start ∧ (s.evaluatePending n o).port = s.port ∧
      (s.evaluatePending n o).table = s.table ∧ (s.evaluatePending n o).engine = s.engine ∧
      (s.evaluatePending n o).link = s.link ∧ (s.evaluatePending n o).time = s.time ∧
      (s.evaluatePending n o).ignition = s.ignition ∧
      (s.evaluatePending n o).guard.waitingWrite = s.guard.waitingWrite := by
  unfold State.evaluatePending; split <;> (try split) <;> simp

/-! ## Floors, waiting writes and the ends of operations -/

@[simp] theorem State.settleFloor_frame (n : Fin 8) (s : State) :
    (s.settleFloor n).pending = s.pending ∧ (s.settleFloor n).guardPeriods = s.guardPeriods ∧
      (s.settleFloor n).start = s.start ∧ (s.settleFloor n).port = s.port ∧
      (s.settleFloor n).decision = s.decision ∧ (s.settleFloor n).table = s.table ∧ (s.settleFloor n).mem = s.mem ∧
      (s.settleFloor n).grants = s.grants ∧ (s.settleFloor n).engine = s.engine ∧ (s.settleFloor n).link = s.link ∧
      (s.settleFloor n).log = s.log ∧ (s.settleFloor n).time = s.time ∧ (s.settleFloor n).ignition = s.ignition ∧
      (s.settleFloor n).out = s.out ∧ (s.settleFloor n).guard.waitingWrite = s.guard.waitingWrite := by
  unfold State.settleFloor; split <;> (try simp only []) <;> (try split) <;> simp

@[simp] theorem State.settle_frame (n : Fin 8) (s : State) :
    (s.settle n).pending = s.pending ∧ (s.settle n).guardPeriods = s.guardPeriods ∧ (s.settle n).start = s.start ∧
      (s.settle n).port = s.port ∧ (s.settle n).table = s.table ∧ (s.settle n).engine = s.engine ∧
      (s.settle n).link = s.link ∧ (s.settle n).time = s.time ∧ (s.settle n).ignition = s.ignition ∧
      (s.settle n).guard.waitingWrite = s.guard.waitingWrite := by
  unfold State.settle; split <;> (try split) <;> (try simp only []) <;> (try split) <;> simp

/-! ## A tick at a cell (R75) -/

@[simp] theorem State.accrueCell_frame (n : Fin 8) (s : State) :
    (s.accrueCell n).pending = s.pending ∧ (s.accrueCell n).guardPeriods = s.guardPeriods ∧
      (s.accrueCell n).start = s.start ∧ (s.accrueCell n).port = s.port ∧ (s.accrueCell n).decision = s.decision ∧
      (s.accrueCell n).table = s.table ∧ (s.accrueCell n).mem = s.mem ∧ (s.accrueCell n).grants = s.grants ∧
      (s.accrueCell n).engine = s.engine ∧ (s.accrueCell n).link = s.link ∧ (s.accrueCell n).log = s.log ∧
      (s.accrueCell n).time = s.time ∧ (s.accrueCell n).ignition = s.ignition ∧ (s.accrueCell n).out = s.out ∧
      (s.accrueCell n).store = s.store ∧ (s.accrueCell n).guard.waitingWrite = s.guard.waitingWrite := by
  unfold State.accrueCell; split <;> (try split) <;> simp

@[simp] theorem State.ageCell_frame (n : Fin 8) (s : State) :
    (s.ageCell n).pending = s.pending ∧ (s.ageCell n).guardPeriods = s.guardPeriods ∧
      (s.ageCell n).start = s.start ∧ (s.ageCell n).port = s.port ∧ (s.ageCell n).decision = s.decision ∧
      (s.ageCell n).table = s.table ∧ (s.ageCell n).mem = s.mem ∧ (s.ageCell n).grants = s.grants ∧
      (s.ageCell n).engine = s.engine ∧ (s.ageCell n).link = s.link ∧ (s.ageCell n).log = s.log ∧
      (s.ageCell n).time = s.time ∧ (s.ageCell n).ignition = s.ignition ∧ (s.ageCell n).out = s.out ∧
      (s.ageCell n).store = s.store ∧ (s.ageCell n).guard.waitingWrite = s.guard.waitingWrite := by
  simp [State.ageCell]

@[simp] theorem State.repairCell_frame (n : Fin 8) (s : State) :
    (s.repairCell n).pending = s.pending ∧ (s.repairCell n).guardPeriods = s.guardPeriods ∧
      (s.repairCell n).start = s.start ∧ (s.repairCell n).port = s.port ∧ (s.repairCell n).decision = s.decision ∧
      (s.repairCell n).table = s.table ∧ (s.repairCell n).grants = s.grants ∧ (s.repairCell n).engine = s.engine ∧
      (s.repairCell n).link = s.link ∧ (s.repairCell n).log = s.log ∧ (s.repairCell n).time = s.time ∧
      (s.repairCell n).ignition = s.ignition ∧ (s.repairCell n).out = s.out ∧ (s.repairCell n).store = s.store ∧
      (s.repairCell n).guard.waitingWrite = s.guard.waitingWrite := by
  unfold State.repairCell; split <;> (try split) <;> simp

@[simp] theorem State.retryCell_frame (n : Fin 8) (s : State) :
    (s.retryCell n).pending = s.pending ∧ (s.retryCell n).guardPeriods = s.guardPeriods ∧
      (s.retryCell n).start = s.start ∧ (s.retryCell n).port = s.port ∧ (s.retryCell n).decision = s.decision ∧
      (s.retryCell n).table = s.table ∧ (s.retryCell n).grants = s.grants ∧ (s.retryCell n).engine = s.engine ∧
      (s.retryCell n).link = s.link ∧ (s.retryCell n).log = s.log ∧ (s.retryCell n).time = s.time ∧
      (s.retryCell n).ignition = s.ignition ∧ (s.retryCell n).out = s.out ∧ (s.retryCell n).store = s.store ∧
      (s.retryCell n).guard.waitingWrite = s.guard.waitingWrite := by
  unfold State.retryCell; split <;> simp

@[simp] theorem State.tickCell_frame (n : Fin 8) (s : State) :
    (s.tickCell n).pending = s.pending ∧ (s.tickCell n).guardPeriods = s.guardPeriods ∧
      (s.tickCell n).start = s.start ∧ (s.tickCell n).port = s.port ∧ (s.tickCell n).table = s.table ∧
      (s.tickCell n).engine = s.engine ∧ (s.tickCell n).link = s.link ∧ (s.tickCell n).time = s.time ∧
      (s.tickCell n).ignition = s.ignition ∧ (s.tickCell n).guard.waitingWrite = s.guard.waitingWrite := by
  unfold State.tickCell; simp only []; split <;> simp

/-! ## Processor writes and the ends of operations -/

@[simp] theorem State.finishWrite_frame (n : Fin 8) (s : State) :
    (s.finishWrite n).pending = s.pending ∧ (s.finishWrite n).guardPeriods = s.guardPeriods ∧
      (s.finishWrite n).start = s.start ∧ (s.finishWrite n).table = s.table ∧ (s.finishWrite n).engine = s.engine ∧
      (s.finishWrite n).link = s.link ∧ (s.finishWrite n).time = s.time ∧ (s.finishWrite n).ignition = s.ignition ∧
      (s.finishWrite n).port.presented = s.port.presented ∧ (s.finishWrite n).port.busReset = s.port.busReset := by
  unfold State.finishWrite; split <;> simp

@[simp] theorem State.setPending_frame (n : Fin 8) (h : Half) (v : Word) (s : State) :
    (s.setPending n h v).pending = s.pending ∧ (s.setPending n h v).guardPeriods = s.guardPeriods ∧
      (s.setPending n h v).start = s.start ∧ (s.setPending n h v).table = s.table ∧
      (s.setPending n h v).engine = s.engine ∧ (s.setPending n h v).link = s.link ∧
      (s.setPending n h v).time = s.time ∧ (s.setPending n h v).ignition = s.ignition ∧
      (s.setPending n h v).port.presented = s.port.presented ∧
      (s.setPending n h v).port.busReset = s.port.busReset := by
  simp [State.setPending]

@[simp] theorem State.takeHalf_frame (n : Fin 8) (h : Half) (value : Word) (v : LiveState) (s : State) :
    (s.takeHalf n h value v).pending = s.pending ∧ (s.takeHalf n h value v).guardPeriods = s.guardPeriods ∧
      (s.takeHalf n h value v).start = s.start ∧ (s.takeHalf n h value v).table = s.table ∧
      (s.takeHalf n h value v).engine = s.engine ∧ (s.takeHalf n h value v).link = s.link ∧
      (s.takeHalf n h value v).time = s.time ∧ (s.takeHalf n h value v).ignition = s.ignition ∧
      (s.takeHalf n h value v).port.presented = s.port.presented ∧
      (s.takeHalf n h value v).port.busReset = s.port.busReset := by
  unfold State.takeHalf; split <;> (try split) <;> simp

@[simp] theorem State.takeWrite_frame (n : Fin 8) (s : State) :
    (s.takeWrite n).pending = s.pending ∧ (s.takeWrite n).guardPeriods = s.guardPeriods ∧
      (s.takeWrite n).start = s.start ∧ (s.takeWrite n).table = s.table ∧ (s.takeWrite n).engine = s.engine ∧
      (s.takeWrite n).link = s.link ∧ (s.takeWrite n).time = s.time ∧ (s.takeWrite n).ignition = s.ignition ∧
      (s.takeWrite n).port.presented = s.port.presented ∧ (s.takeWrite n).port.busReset = s.port.busReset := by
  unfold State.takeWrite; split <;> (try split) <;> (try split) <;> simp

@[simp] theorem State.takeWaiting_frame (n : Fin 8) (s : State) :
    (s.takeWaiting n).pending = s.pending ∧ (s.takeWaiting n).guardPeriods = s.guardPeriods ∧
      (s.takeWaiting n).start = s.start ∧ (s.takeWaiting n).table = s.table ∧ (s.takeWaiting n).engine = s.engine ∧
      (s.takeWaiting n).link = s.link ∧ (s.takeWaiting n).time = s.time ∧ (s.takeWaiting n).ignition = s.ignition ∧
      (s.takeWaiting n).port.presented = s.port.presented ∧ (s.takeWaiting n).port.busReset = s.port.busReset := by
  unfold State.takeWaiting; split <;> simp

@[simp] theorem State.afterOp_frame (n : Fin 8) (s : State) :
    (s.afterOp n).pending = s.pending ∧ (s.afterOp n).guardPeriods = s.guardPeriods ∧
      (s.afterOp n).start = s.start ∧ (s.afterOp n).table = s.table ∧ (s.afterOp n).engine = s.engine ∧
      (s.afterOp n).link = s.link ∧ (s.afterOp n).time = s.time ∧ (s.afterOp n).ignition = s.ignition ∧
      (s.afterOp n).port.presented = s.port.presented ∧ (s.afterOp n).port.busReset = s.port.busReset := by
  simp [State.afterOp]

@[simp] theorem State.becomeLive_frame (n : Fin 8) (v : LiveState) (s : State) :
    (s.becomeLive n v).pending = s.pending ∧ (s.becomeLive n v).guardPeriods = s.guardPeriods ∧
      (s.becomeLive n v).start = s.start ∧ (s.becomeLive n v).port = s.port ∧
      (s.becomeLive n v).decision = s.decision ∧ (s.becomeLive n v).table = s.table ∧
      (s.becomeLive n v).mem = s.mem ∧ (s.becomeLive n v).grants = s.grants ∧ (s.becomeLive n v).engine = s.engine ∧
      (s.becomeLive n v).link = s.link ∧ (s.becomeLive n v).log = s.log ∧ (s.becomeLive n v).time = s.time ∧
      (s.becomeLive n v).ignition = s.ignition ∧ (s.becomeLive n v).out = s.out ∧
      (s.becomeLive n v).store = s.store := by
  simp [State.becomeLive]

@[simp] theorem State.scanReadEnd_frame (n : Fin 8) (d : CellDef) (r : TransferResult) (s : State) :
    (s.scanReadEnd n d r).pending = s.pending ∧ (s.scanReadEnd n d r).guardPeriods = s.guardPeriods ∧
      (s.scanReadEnd n d r).start = s.start ∧ (s.scanReadEnd n d r).port = s.port ∧
      (s.scanReadEnd n d r).table = s.table ∧ (s.scanReadEnd n d r).engine = s.engine ∧
      (s.scanReadEnd n d r).link = s.link ∧ (s.scanReadEnd n d r).time = s.time ∧
      (s.scanReadEnd n d r).ignition = s.ignition := by
  unfold State.scanReadEnd; simp only []; split <;> (try split) <;> simp

@[simp] theorem State.newReadEnd_frame (n : Fin 8) (d : CellDef) (r : TransferResult) (s : State) :
    (s.newReadEnd n d r).pending = s.pending ∧ (s.newReadEnd n d r).guardPeriods = s.guardPeriods ∧
      (s.newReadEnd n d r).start = s.start ∧ (s.newReadEnd n d r).port = s.port ∧
      (s.newReadEnd n d r).decision = s.decision ∧ (s.newReadEnd n d r).table = s.table ∧
      (s.newReadEnd n d r).mem = s.mem ∧ (s.newReadEnd n d r).grants = s.grants ∧
      (s.newReadEnd n d r).engine = s.engine ∧ (s.newReadEnd n d r).link = s.link ∧
      (s.newReadEnd n d r).log = s.log ∧ (s.newReadEnd n d r).time = s.time ∧
      (s.newReadEnd n d r).ignition = s.ignition ∧ (s.newReadEnd n d r).out = s.out := by
  unfold State.newReadEnd; split <;> simp

@[simp] theorem State.evaluationEnd_frame (n : Fin 8) (value : Nat) (isSet : Bool) (r : TransferResult) (s : State) :
    (s.evaluationEnd n value isSet r).pending = s.pending ∧
      (s.evaluationEnd n value isSet r).guardPeriods = s.guardPeriods ∧
      (s.evaluationEnd n value isSet r).start = s.start ∧ (s.evaluationEnd n value isSet r).port = s.port ∧
      (s.evaluationEnd n value isSet r).decision = s.decision ∧ (s.evaluationEnd n value isSet r).table = s.table ∧
      (s.evaluationEnd n value isSet r).mem = s.mem ∧ (s.evaluationEnd n value isSet r).grants = s.grants ∧
      (s.evaluationEnd n value isSet r).engine = s.engine ∧ (s.evaluationEnd n value isSet r).link = s.link ∧
      (s.evaluationEnd n value isSet r).log = s.log ∧ (s.evaluationEnd n value isSet r).time = s.time ∧
      (s.evaluationEnd n value isSet r).ignition = s.ignition ∧ (s.evaluationEnd n value isSet r).out = s.out := by
  unfold State.evaluationEnd; simp only []; split <;> (try split) <;> (try split) <;> simp

@[simp] theorem State.restoreEnd_frame (n : Fin 8) (r : TransferResult) (s : State) :
    (s.restoreEnd n r).pending = s.pending ∧ (s.restoreEnd n r).guardPeriods = s.guardPeriods ∧
      (s.restoreEnd n r).start = s.start ∧ (s.restoreEnd n r).port = s.port ∧
      (s.restoreEnd n r).decision = s.decision ∧ (s.restoreEnd n r).table = s.table ∧
      (s.restoreEnd n r).mem = s.mem ∧ (s.restoreEnd n r).grants = s.grants ∧ (s.restoreEnd n r).engine = s.engine ∧
      (s.restoreEnd n r).link = s.link ∧ (s.restoreEnd n r).log = s.log ∧ (s.restoreEnd n r).time = s.time ∧
      (s.restoreEnd n r).ignition = s.ignition ∧ (s.restoreEnd n r).out = s.out ∧
      (s.restoreEnd n r).store = s.store := by
  unfold State.restoreEnd; simp only []; split <;> simp

@[simp] theorem State.correctionEnd_frame (n : Fin 8) (r : TransferResult) (s : State) :
    (s.correctionEnd n r).pending = s.pending ∧ (s.correctionEnd n r).guardPeriods = s.guardPeriods ∧
      (s.correctionEnd n r).start = s.start ∧ (s.correctionEnd n r).port = s.port ∧
      (s.correctionEnd n r).decision = s.decision ∧ (s.correctionEnd n r).table = s.table ∧
      (s.correctionEnd n r).mem = s.mem ∧ (s.correctionEnd n r).grants = s.grants ∧
      (s.correctionEnd n r).engine = s.engine ∧ (s.correctionEnd n r).link = s.link ∧
      (s.correctionEnd n r).log = s.log ∧ (s.correctionEnd n r).time = s.time ∧
      (s.correctionEnd n r).ignition = s.ignition ∧ (s.correctionEnd n r).out = s.out ∧
      (s.correctionEnd n r).store = s.store := by
  unfold State.correctionEnd; simp only []; split <;> simp

@[simp] theorem State.staleEnd_frame (n : Fin 8) (s : State) :
    (s.staleEnd n).pending = s.pending ∧ (s.staleEnd n).guardPeriods = s.guardPeriods ∧
      (s.staleEnd n).start = s.start ∧ (s.staleEnd n).table = s.table ∧ (s.staleEnd n).engine = s.engine ∧
      (s.staleEnd n).link = s.link ∧ (s.staleEnd n).time = s.time ∧ (s.staleEnd n).ignition = s.ignition ∧
      (s.staleEnd n).port.presented = s.port.presented ∧ (s.staleEnd n).port.busReset = s.port.busReset := by
  unfold State.staleEnd; simp only []; split <;> simp

@[simp] theorem State.opEnd_frame (n : Fin 8) (r : TransferResult) (s : State) :
    (s.opEnd n r).pending = s.pending ∧ (s.opEnd n r).guardPeriods = s.guardPeriods ∧
      (s.opEnd n r).start = s.start ∧ (s.opEnd n r).table = s.table ∧ (s.opEnd n r).engine = s.engine ∧
      (s.opEnd n r).link = s.link ∧ (s.opEnd n r).time = s.time ∧ (s.opEnd n r).ignition = s.ignition ∧
      (s.opEnd n r).port.presented = s.port.presented ∧ (s.opEnd n r).port.busReset = s.port.busReset := by
  unfold State.opEnd; split <;> (try split) <;> simp

/-! ## The arbiter -/

@[simp] theorem State.tellNotMade_frame (r : Request) (s : State) :
    (s.tellNotMade r).pending = s.pending ∧ (s.tellNotMade r).guardPeriods = s.guardPeriods ∧
      (s.tellNotMade r).start = s.start ∧ (s.tellNotMade r).table = s.table ∧ (s.tellNotMade r).engine = s.engine ∧
      (s.tellNotMade r).link = s.link ∧ (s.tellNotMade r).time = s.time ∧ (s.tellNotMade r).ignition = s.ignition ∧
      (s.tellNotMade r).port.presented = s.port.presented ∧ (s.tellNotMade r).port.busReset = s.port.busReset := by
  unfold State.tellNotMade; split <;> simp

theorem State.serveWith_frame (wide : Bool) (fuel : Nat) (s : State) :
    (State.serveWith wide fuel s).pending = s.pending ∧
      (State.serveWith wide fuel s).guardPeriods = s.guardPeriods ∧
      (State.serveWith wide fuel s).start = s.start ∧
      (State.serveWith wide fuel s).table = s.table ∧
      (State.serveWith wide fuel s).engine = s.engine ∧
      (State.serveWith wide fuel s).link = s.link ∧
      (State.serveWith wide fuel s).time = s.time ∧
      (State.serveWith wide fuel s).ignition = s.ignition ∧
      (State.serveWith wide fuel s).port.presented = s.port.presented ∧
      (State.serveWith wide fuel s).port.busReset = s.port.busReset := by
  induction fuel generalizing s with
  | zero => simp [State.serveWith]
  | succ k ih =>
    unfold State.serveWith
    split <;> (try simp only []) <;> (try split) <;> simp_all

@[simp] theorem State.serve_frame (wide : Bool) (s : State) :
    (s.serve wide).pending = s.pending ∧ (s.serve wide).guardPeriods = s.guardPeriods ∧
      (s.serve wide).start = s.start ∧ (s.serve wide).table = s.table ∧ (s.serve wide).engine = s.engine ∧
      (s.serve wide).link = s.link ∧ (s.serve wide).time = s.time ∧ (s.serve wide).ignition = s.ignition ∧
      (s.serve wide).port.presented = s.port.presented ∧ (s.serve wide).port.busReset = s.port.busReset := by
  simpa [State.serve] using State.serveWith_frame wide (s.mem.queue.length + serveFuel) s

/-! ## The processor port -/

@[simp] theorem State.denial_frame (c : Cycle) (d : DecisionRecord) (s : State) :
    (s.denial c d).pending = s.pending ∧ (s.denial c d).guardPeriods = s.guardPeriods ∧
      (s.denial c d).start = s.start ∧ (s.denial c d).port = s.port ∧ (s.denial c d).table = s.table ∧
      (s.denial c d).guard = s.guard ∧ (s.denial c d).mem = s.mem ∧ (s.denial c d).engine = s.engine ∧
      (s.denial c d).link = s.link ∧ (s.denial c d).time = s.time ∧ (s.denial c d).ignition = s.ignition := by
  unfold State.denial; simp only []; split <;> simp

@[simp] theorem State.denyCycle_frame (c : Cycle) (d : DecisionRecord) (s : State) :
    (s.denyCycle c d).pending = s.pending ∧ (s.denyCycle c d).guardPeriods = s.guardPeriods ∧
      (s.denyCycle c d).start = s.start ∧ (s.denyCycle c d).table = s.table ∧ (s.denyCycle c d).engine = s.engine ∧
      (s.denyCycle c d).link = s.link ∧ (s.denyCycle c d).time = s.time ∧ (s.denyCycle c d).ignition = s.ignition ∧
      (s.denyCycle c d).port.presented = s.port.presented ∧ (s.denyCycle c d).port.busReset = s.port.busReset := by
  simp [State.denyCycle]

@[simp] theorem State.parityFailure_frame (reason : Reason) (l : CycleLines) (s : State) :
    (s.parityFailure reason l).pending = s.pending ∧ (s.parityFailure reason l).guardPeriods = s.guardPeriods ∧
      (s.parityFailure reason l).start = s.start ∧ (s.parityFailure reason l).table = s.table ∧
      (s.parityFailure reason l).engine = s.engine ∧ (s.parityFailure reason l).link = s.link ∧
      (s.parityFailure reason l).time = s.time ∧ (s.parityFailure reason l).ignition = s.ignition ∧
      (s.parityFailure reason l).port.presented = s.port.presented ∧
      (s.parityFailure reason l).port.busReset = s.port.busReset := by
  simp [State.parityFailure]

@[simp] theorem State.refusePartial_frame (n : Fin 8) (c : Cycle) (s : State) :
    (s.refusePartial n c).pending = s.pending ∧ (s.refusePartial n c).guardPeriods = s.guardPeriods ∧
      (s.refusePartial n c).start = s.start ∧ (s.refusePartial n c).table = s.table ∧
      (s.refusePartial n c).engine = s.engine ∧ (s.refusePartial n c).link = s.link ∧
      (s.refusePartial n c).time = s.time ∧ (s.refusePartial n c).ignition = s.ignition ∧
      (s.refusePartial n c).port.presented = s.port.presented ∧
      (s.refusePartial n c).port.busReset = s.port.busReset := by
  simp [State.refusePartial]

@[simp] theorem State.counterWrite_frame (n : Fin 8) (c : Cycle) (s : State) :
    (s.counterWrite n c).pending = s.pending ∧ (s.counterWrite n c).guardPeriods = s.guardPeriods ∧
      (s.counterWrite n c).start = s.start ∧ (s.counterWrite n c).table = s.table ∧
      (s.counterWrite n c).engine = s.engine ∧ (s.counterWrite n c).link = s.link ∧
      (s.counterWrite n c).time = s.time ∧ (s.counterWrite n c).ignition = s.ignition ∧
      (s.counterWrite n c).port.presented = s.port.presented ∧
      (s.counterWrite n c).port.busReset = s.port.busReset := by
  unfold State.counterWrite; split <;> (try split) <;> simp

@[simp] theorem State.counterRead_frame (n : Fin 8) (c : Cycle) (w : MatchedWindow) (s : State) :
    (s.counterRead n c w).pending = s.pending ∧ (s.counterRead n c w).guardPeriods = s.guardPeriods ∧
      (s.counterRead n c w).start = s.start ∧ (s.counterRead n c w).table = s.table ∧
      (s.counterRead n c w).engine = s.engine ∧ (s.counterRead n c w).link = s.link ∧
      (s.counterRead n c w).time = s.time ∧ (s.counterRead n c w).ignition = s.ignition ∧
      (s.counterRead n c w).port.presented = s.port.presented ∧
      (s.counterRead n c w).port.busReset = s.port.busReset := by
  unfold State.counterRead; split <;> simp

@[simp] theorem State.chargePass_frame (c : Cycle) (d : DecisionRecord) (s : State) :
    (s.chargePass c d).pending = s.pending ∧ (s.chargePass c d).guardPeriods = s.guardPeriods ∧
      (s.chargePass c d).start = s.start ∧ (s.chargePass c d).port = s.port ∧ (s.chargePass c d).table = s.table ∧
      (s.chargePass c d).guard = s.guard ∧ (s.chargePass c d).mem = s.mem ∧ (s.chargePass c d).engine = s.engine ∧
      (s.chargePass c d).link = s.link ∧ (s.chargePass c d).time = s.time ∧
      (s.chargePass c d).ignition = s.ignition := by
  unfold State.chargePass; split <;> simp

@[simp] theorem State.carryOut_frame (c : Cycle) (d : DecisionRecord) (s : State) :
    (s.carryOut c d).pending = s.pending ∧ (s.carryOut c d).guardPeriods = s.guardPeriods ∧
      (s.carryOut c d).start = s.start ∧ (s.carryOut c d).table = s.table ∧ (s.carryOut c d).engine = s.engine ∧
      (s.carryOut c d).link = s.link ∧ (s.carryOut c d).time = s.time ∧ (s.carryOut c d).ignition = s.ignition ∧
      (s.carryOut c d).port.presented = s.port.presented ∧ (s.carryOut c d).port.busReset = s.port.busReset := by
  unfold State.carryOut; split <;> (try split) <;> (try split) <;> simp

@[simp] theorem State.decideCycle_frame (c : Cycle) (s : State) :
    (s.decideCycle c).pending = s.pending ∧ (s.decideCycle c).guardPeriods = s.guardPeriods ∧
      (s.decideCycle c).start = s.start ∧ (s.decideCycle c).table = s.table ∧ (s.decideCycle c).engine = s.engine ∧
      (s.decideCycle c).link = s.link ∧ (s.decideCycle c).time = s.time ∧ (s.decideCycle c).ignition = s.ignition ∧
      (s.decideCycle c).port.presented = s.port.presented ∧ (s.decideCycle c).port.busReset = s.port.busReset := by
  simp [State.decideCycle]

@[simp] theorem State.takeCycle_frame (l : CycleLines) (s : State) :
    (s.takeCycle l).pending = s.pending ∧ (s.takeCycle l).guardPeriods = s.guardPeriods ∧
      (s.takeCycle l).start = s.start ∧ (s.takeCycle l).table = s.table ∧ (s.takeCycle l).engine = s.engine ∧
      (s.takeCycle l).link = s.link ∧ (s.takeCycle l).time = s.time ∧ (s.takeCycle l).ignition = s.ignition ∧
      (s.takeCycle l).port.presented = s.port.presented ∧ (s.takeCycle l).port.busReset = s.port.busReset := by
  unfold State.takeCycle; split <;> (try split) <;> simp

@[simp] theorem State.takePresented_frame (s : State) :
    (s.takePresented).pending = s.pending ∧ (s.takePresented).guardPeriods = s.guardPeriods ∧
      (s.takePresented).start = s.start ∧ (s.takePresented).table = s.table ∧ (s.takePresented).engine = s.engine ∧
      (s.takePresented).link = s.link ∧ (s.takePresented).time = s.time ∧ (s.takePresented).ignition = s.ignition ∧
      s.takePresented.port.busReset = s.port.busReset := by
  unfold State.takePresented; split <;> simp

@[simp] theorem State.judgeFill_frame (timedOut : Bool) (word : Word) (s : State) :
    (s.judgeFill timedOut word).pending = s.pending ∧ (s.judgeFill timedOut word).guardPeriods = s.guardPeriods ∧
      (s.judgeFill timedOut word).start = s.start ∧ (s.judgeFill timedOut word).table = s.table ∧
      (s.judgeFill timedOut word).engine = s.engine ∧ (s.judgeFill timedOut word).link = s.link ∧
      (s.judgeFill timedOut word).time = s.time ∧ (s.judgeFill timedOut word).ignition = s.ignition ∧
      (s.judgeFill timedOut word).port.presented = s.port.presented ∧
      (s.judgeFill timedOut word).port.busReset = s.port.busReset := by
  unfold State.judgeFill; split <;> (try simp only []) <;> (try split) <;> (try split) <;> (try split) <;> simp

@[simp] theorem State.leaveResetHeld_frame (s : State) :
    (s.leaveResetHeld).pending = s.pending ∧ (s.leaveResetHeld).guardPeriods = s.guardPeriods ∧
      (s.leaveResetHeld).start = s.start ∧ (s.leaveResetHeld).table = s.table ∧
      (s.leaveResetHeld).engine = s.engine ∧ (s.leaveResetHeld).link = s.link ∧ (s.leaveResetHeld).time = s.time ∧
      (s.leaveResetHeld).ignition = s.ignition ∧ s.leaveResetHeld.port.busReset = s.port.busReset := by
  unfold State.leaveResetHeld; split <;> simp

@[simp] theorem State.reportTimeout_frame (t : Transfer) (s : State) :
    (s.reportTimeout t).pending = s.pending ∧ (s.reportTimeout t).guardPeriods = s.guardPeriods ∧
      (s.reportTimeout t).start = s.start ∧ (s.reportTimeout t).port = s.port ∧
      (s.reportTimeout t).decision = s.decision ∧ (s.reportTimeout t).table = s.table ∧
      (s.reportTimeout t).guard = s.guard ∧ (s.reportTimeout t).mem = s.mem ∧
      (s.reportTimeout t).grants = s.grants ∧ (s.reportTimeout t).engine = s.engine ∧
      (s.reportTimeout t).link = s.link ∧ (s.reportTimeout t).time = s.time ∧
      (s.reportTimeout t).ignition = s.ignition := by
  unfold State.reportTimeout; split <;> simp

@[simp] theorem State.deliver_frame (t : Transfer) (s : State) :
    (s.deliver t).pending = s.pending ∧ (s.deliver t).guardPeriods = s.guardPeriods ∧
      (s.deliver t).start = s.start ∧ (s.deliver t).table = s.table ∧ (s.deliver t).engine = s.engine ∧
      (s.deliver t).link = s.link ∧ (s.deliver t).time = s.time ∧ (s.deliver t).ignition = s.ignition ∧
      (s.deliver t).port.busReset = s.port.busReset := by
  unfold State.deliver; split <;> (try split) <;> simp

@[simp] theorem State.endTransfer_frame (t : Transfer) (s : State) :
    (s.endTransfer t).pending = s.pending ∧ (s.endTransfer t).guardPeriods = s.guardPeriods ∧
      (s.endTransfer t).start = s.start ∧ (s.endTransfer t).table = s.table ∧ (s.endTransfer t).engine = s.engine ∧
      (s.endTransfer t).link = s.link ∧ (s.endTransfer t).time = s.time ∧ (s.endTransfer t).ignition = s.ignition ∧
      (s.endTransfer t).port.busReset = s.port.busReset := by
  simp [State.endTransfer]

@[simp] theorem State.afterAccess_frame (t : Transfer) (s : State) :
    (s.afterAccess t).pending = s.pending ∧ (s.afterAccess t).guardPeriods = s.guardPeriods ∧
      (s.afterAccess t).start = s.start ∧ (s.afterAccess t).table = s.table ∧ (s.afterAccess t).engine = s.engine ∧
      (s.afterAccess t).link = s.link ∧ (s.afterAccess t).time = s.time ∧ (s.afterAccess t).ignition = s.ignition ∧
      (s.afterAccess t).port.busReset = s.port.busReset := by
  unfold State.afterAccess; split <;> simp

end Sys2Proof.Machine
end

