-- ==== Sys2Proof/Laws/Ports.lean ====
section
/-! SUPPORT. What the log, the arbiter and the ports do, said once: the log after a record, one turn of the
arbiter, the reads that wait for a cycle, and the cycle that passes the checks. -/

namespace Sys2Proof.Machine

/-! ## The log after a record (R154, R162) -/

/-- Taking a record never changes the mark copy; `State.markAfter` does. -/
@[simp] theorem Log.take_markCopy (now : Quad) (r : Report) (l : Log) : (l.take now r).markCopy = l.markCopy := by
  unfold Log.take
  split
  · rfl
  · rfl
  · split <;> rfl

/-- The log after a record: the case taken, and the mark copy set by an appended record other than LOG-RELEASED. -/
theorem State.takeRecord_log (r : Report) (s : State) :
    (s.takeRecord r).log =
      { s.log.take s.time.seconds r with
        markCopy := s.log.markCopy || decide (s.log.caseOf r = .appended ∧ r.kind ≠ .logReleased) } := by
  simp only [State.takeRecord, State.reportAlarm_log, State.markAfter, Log.take_markCopy]
  by_cases h : s.log.caseOf r = .appended ∧ r.kind ≠ .logReleased
  · cases hm : s.log.markCopy
    · simp [h]
    · rw [if_neg (by simp), Bool.true_or, ← hm, ← Log.take_markCopy s.time.seconds r s.log]
  · have n : ¬ (s.log.caseOf r = .appended ∧ r.kind ≠ .logReleased ∧ s.log.markCopy = false) :=
      fun e => h ⟨e.1, e.2.1⟩
    rw [if_neg n, decide_eq_false h, Bool.or_false, ← Log.take_markCopy s.time.seconds r s.log]

/-- The store after a record: the mark is queued exactly where the copy was clear and becomes set. -/
theorem State.takeRecord_store (r : Report) (s : State) :
    (s.takeRecord r).store =
      if s.log.caseOf r = .appended ∧ r.kind ≠ .logReleased ∧ s.log.markCopy = false then
        s.store.queueItem (.logMark true)
      else s.store := by
  simp only [State.takeRecord, State.reportAlarm_store, State.markAfter, Log.take_markCopy]
  split <;> rfl

/-- The output unit after a record: it was told the alarm indication (R158). -/
theorem State.takeRecord_out (r : Report) (s : State) :
    (s.takeRecord r).out = s.out.reportAlarm s.table.settings (s.takeRecord r).log.alarm := by
  simp only [State.takeRecord, State.reportAlarm_out, State.reportAlarm_log]
  unfold State.markAfter
  split <;> rfl

/-- What a record does to the mark copy does not depend on the ports, the cells, the decision unit and the grants. -/
theorem State.markAfter_with (t : Taken) (r : Report) (p : ProcPort) (d : DecisionUnit) (g : CounterGuard) (m : MemPort)
    (gt : GrantTable) (s : State) :
    State.markAfter t r { s with port := p, decision := d, guard := g, mem := m, grants := gt } =
      { s.markAfter t r with port := p, decision := d, guard := g, mem := m, grants := gt } := by
  by_cases h : t = .appended ∧ r.kind ≠ .logReleased ∧ s.log.markCopy = false
  · rw [show s.markAfter t r = _ from if_pos h]
    exact if_pos h
  · rw [show s.markAfter t r = _ from if_neg h]
    exact if_neg h

/-- A record taken under other ports, cells, decision unit and grants is the record taken, with those. -/
theorem State.takeRecord_with (r : Report) (p : ProcPort) (d : DecisionUnit) (g : CounterGuard) (m : MemPort)
    (gt : GrantTable) (s : State) :
    State.takeRecord r { s with port := p, decision := d, guard := g, mem := m, grants := gt } =
      { s.takeRecord r with port := p, decision := d, guard := g, mem := m, grants := gt } :=
  congrArg State.reportAlarm
    (State.markAfter_with (s.log.caseOf r) r p d g m gt { s with log := s.log.take s.time.seconds r })

/-! ## One turn of the arbiter (R12, R20, R21) -/

/-- The arbiter has a turn for each request that waits, and 32 more. -/
theorem State.serve_eq (wide : Bool) (s : State) :
    s.serve wide = State.serveWith wide (s.mem.queue.length + 32) s := rfl

/-- One turn of the arbiter. -/
theorem State.serveWith_succ (wide : Bool) (fuel : Nat) (s : State) :
    State.serveWith wide (fuel + 1) s =
      match s.mem.transfer, s.mem.queue, s.mem.place with
      | some _, _, _ => s
      | none, r :: rest, _ =>
        let s1 := { s with mem := { s.mem with queue := rest } }
        if s1.barred r then State.serveWith wide fuel (s1.tellNotMade r) else s1.begin r wide
      | none, [], some r => State.begin r wide { s with mem := { s.mem with place := none } }
      | none, [], none => s := rfl

/-! ## Reads that wait for a cycle (R97) -/

/-- A cell that drops its live state keeps an operation at the arbiter as one of its old definition, and no other. -/
theorem Cell.dropLive_cases (c : Cell) :
    (∃ op, c.op = some op ∧ op.atArbiter = true ∧
        c.dropLive = { c with live := none, loadedFloor := none, stale := true }) ∨
      ((∀ op, c.op = some op → op.atArbiter = false) ∧
        c.dropLive = { c with live := none, loadedFloor := none, op := none, stale := false }) := by
  cases h : c.op with
  | none => exact .inr ⟨fun _ e => (nomatch e), by simp [Cell.dropLive, h]⟩
  | some op =>
    cases ha : op.atArbiter with
    | true => exact .inl ⟨op, rfl, ha, by simp [Cell.dropLive, h, ha]⟩
    | false => exact .inr ⟨fun _ e => by cases e; exact ha, by simp [Cell.dropLive, h, ha]⟩

/-- Releasing a read either requests the new read that waited so, or changes nothing. -/
theorem State.releaseRead_cases (w : ReadWait) (n : Fin 8) (s : State) :
    (∃ d, (s.cell n).defn = some d ∧ (s.cell n).op = some (.newRead w) ∧
        s.releaseRead w n = s.startInternal n d .read 0 (.newRead .requested)) ∨
      s.releaseRead w n = s := by
  unfold State.releaseRead
  split
  · rename_i d x hd hx
    split
    · rename_i e
      subst e
      exact .inl ⟨d, hd, hx, rfl⟩
    · exact .inr rfl
  · exact .inr rfl

/-! ## A cycle that passes the checks (R3, R47) -/

/-- The asserted bits of a word address are the ones among its first bits. -/
theorem countBits_eq (w : WordAddr) : ∀ k : Nat, countBits w k = ((List.range k).map w.getLsbD).count true
  | 0 => rfl
  | k + 1 => by
    rw [countBits, countBits_eq w k, List.range_succ, List.map_append, List.count_append]
    cases h : w.getLsbD k <;> simp [h, Nat.add_comm]

/-- The number of asserted lines is that of the 28 lines counted. -/
theorem assertedLines_eq (l : CycleLines) : assertedLines l = (countedLines l).count true := by
  rw [assertedLines, countBits_eq, countedLines, List.count_append]
  cases l.kindA <;> cases l.kindB <;> cases l.laneLow <;> cases l.laneHigh <;> cases l.parity <;> simp +arith

theorem parityPasses_iff {l : CycleLines} {enabled : Bool} :
    parityPasses l enabled = true ↔ (enabled = true → (countedLines l).count true % 2 = 1) := by
  rw [parityPasses, assertedLines_eq]
  cases enabled <;> simp

theorem lineKind_eq_some {l : CycleLines} {k : Kind} : lineKind l = some k ↔
    (l.kindA, l.kindB, k) ∈ [(true, false, Kind.fetch), (false, true, .read), (true, true, .write)] := by
  unfold lineKind
  cases l.kindA <;> cases l.kindB <;> cases k <;> decide

theorem lineLanes_eq_some {l : CycleLines} {x : Lanes} : lineLanes l = some x ↔
    (l.laneLow, l.laneHigh, x) ∈ [(true, false, Lanes.low), (false, true, .high), (true, true, .both)] := by
  unfold lineLanes
  cases l.laneLow <;> cases l.laneHigh <;> cases x <;> decide

/-- An IDLE port that takes a cycle which passes the three checks decides it and carries the decision out. -/
theorem State.takeCycle_of_passes {l : CycleLines} {c : Cycle} {s : State} (h : s.PassesChecks l c) :
    s.takeCycle l = (s.decided c).carryOut c (s.decisionOf c) := by
  obtain ⟨kind, address, lanes, data⟩ := c
  obtain ⟨h1, h2, h3, rfl, rfl⟩ := h
  rw [← parityPasses_iff] at h1
  rw [← lineKind_eq_some] at h2
  rw [← lineLanes_eq_some] at h3
  simp only [State.takeCycle, h1, h2, h3, Bool.true_eq_false, if_false]
  rfl

end Sys2Proof.Machine
end

