-- ==== Sys2Proof/Laws/Arbiter.lean ====
section
/-! SUPPORT. The arbiter's turns: the end of a write that is not made brings no more writes than were to come, so the
arbiter has turns enough, and a write that is not made is its requester's end and then the rest of the requests. -/

namespace Sys2Proof.Machine

/-! ## Writes that are still to come -/

/-- The writes that the end of an operation can bring in a cell: the correction of a scan read, and the evaluation of a
pending half that is due. -/
def Cell.writesToCome (c : Cell) : Nat :=
  (if c.op = some .scanRead then 1 else 0) + if c.live.any (fun v => v.due && v.half.isSome) then 1 else 0

/-- The internal writes that wait, and those that the ends of operations can still bring. -/
def State.writesToCome (s : State) : Nat :=
  s.mem.queue.countP (fun r => decide (r.direction = .write)) + (octOrder.map fun n => (s.cell n).writesToCome).sum +
    s.guard.waitingWrite.toList.length

theorem Cell.writesToCome_le (c : Cell) : c.writesToCome ≤ 2 := by
  unfold Cell.writesToCome
  split <;> split <;> omega

theorem State.writesToCome_congr {s t : State} (hg : t.guard = s.guard) (hm : t.mem = s.mem) :
    t.writesToCome = s.writesToCome := by
  simp only [State.writesToCome, State.cell, hg, hm]

theorem State.writesToCome_lt (s : State) : s.writesToCome < s.mem.queue.length + 32 := by
  have h0 := (s.cell 0).writesToCome_le
  have h1 := (s.cell 1).writesToCome_le
  have h2 := (s.cell 2).writesToCome_le
  have h3 := (s.cell 3).writesToCome_le
  have h4 := (s.cell 4).writesToCome_le
  have h5 := (s.cell 5).writesToCome_le
  have h6 := (s.cell 6).writesToCome_le
  have h7 := (s.cell 7).writesToCome_le
  have hq := List.countP_le_length (p := fun r : Request => decide (r.direction = .write)) (l := s.mem.queue)
  have hw : s.guard.waitingWrite.toList.length ≤ 1 := by cases s.guard.waitingWrite <;> simp
  simp only [State.writesToCome, octOrder, List.map_cons, List.map_nil, List.sum_cons, List.sum_nil]
  omega

/-- A cell changes: the sum changes by that cell's share. -/
theorem State.writesToCome_setCell (n : Fin 8) (c : Cell) (s : State) :
    (s.setCell n c).writesToCome + (s.cell n).writesToCome = s.writesToCome + c.writesToCome := by
  have h : ∀ m, (s.setCell n c).cell m = if m = n then c else s.cell m := fun m => State.cell_setCell n m c s
  simp only [State.writesToCome, State.setCell_mem, State.setCell_guard, octOrder, List.map_cons, List.map_nil,
    List.sum_cons, List.sum_nil, h]
  fin_cases n <;> simp <;> omega

theorem State.writesToCome_setCell_le {n : Fin 8} {c : Cell} {s : State}
    (h : c.writesToCome ≤ (s.cell n).writesToCome) : (s.setCell n c).writesToCome ≤ s.writesToCome := by
  have := State.writesToCome_setCell n c s
  omega

/-- A cell whose operation becomes another one than a scan read brings no more writes. -/
theorem State.writesToCome_setOp_le {op : Option Operation} (h : op ≠ some .scanRead) (n : Fin 8) (s : State) :
    (s.setOp n op).writesToCome ≤ s.writesToCome := by
  refine State.writesToCome_setCell_le ?_
  simp only [Cell.writesToCome, if_neg h]
  omega

theorem State.writesToCome_enqueueInternal (r : Request) (s : State) :
    (s.enqueueInternal r).writesToCome = s.writesToCome + if r.direction = .write then 1 else 0 := by
  have hc : ∀ n, (s.enqueueInternal r).cell n = s.cell n := fun _ => rfl
  simp only [State.writesToCome, State.enqueueInternal_mem, State.enqueueInternal_guard, List.countP_append, hc,
    List.countP_singleton, decide_eq_true_eq]
  omega

theorem State.writesToCome_enqueueProcessor (r : Request) (s : State) :
    (s.enqueueProcessor r).writesToCome = s.writesToCome := rfl

/-! ## Reads, and the completion of a cycle -/

theorem State.writesToCome_startRead_le (n : Fin 8) (d : CellDef) (w : ReadWait) (s : State) :
    (s.startInternal n d .read 0 (.newRead w)).writesToCome ≤ s.writesToCome := by
  rw [State.startInternal, State.writesToCome_enqueueInternal]
  simpa [cellRequest] using State.writesToCome_setOp_le (by simp) n s

theorem State.writesToCome_startNewRead_le (n : Fin 8) (s : State) :
    (s.startNewRead n).writesToCome ≤ s.writesToCome := by
  unfold State.startNewRead
  split
  · exact le_rfl
  · split
    · exact State.writesToCome_setOp_le (by simp) n s
    · exact State.writesToCome_startRead_le ..

theorem State.writesToCome_releaseRead_le (w : ReadWait) (n : Fin 8) (s : State) :
    (s.releaseRead w n).writesToCome ≤ s.writesToCome := by
  rcases State.releaseRead_cases w n s with ⟨d, -, -, e⟩ | e <;> rw [e]
  exact State.writesToCome_startRead_le ..

theorem State.writesToCome_completeCycle_le (data : Option Word) (s : State) :
    (s.completeCycle data).writesToCome ≤ s.writesToCome := by
  unfold State.completeCycle State.releaseReads
  exact forCells_induct (fun t => t.writesToCome ≤ s.writesToCome) _
    (fun n t h => (State.writesToCome_releaseRead_le _ n t).trans h) _ le_rfl

/-! ## Evaluations -/

theorem State.writesToCome_startWrite_le (n : Fin 8) (d : CellDef) (o : Origin) (v : Nat) (isSet : Bool) (s : State) :
    (s.startWrite n d o v isSet).writesToCome ≤ s.writesToCome + if o = .processor then 0 else 1 := by
  have h (op : Operation) (hop : op ≠ .scanRead) := State.writesToCome_setOp_le (op := some op) (by simpa using hop) n s
  cases o with
  | processor => simpa [State.startWrite, State.writesToCome_enqueueProcessor] using h _ (by simp)
  | hold =>
    simpa [State.startWrite, State.startInternal, State.writesToCome_enqueueInternal, cellRequest] using h _ (by simp)
  | ignition =>
    simpa [State.startWrite, State.startInternal, State.writesToCome_enqueueInternal, cellRequest] using h _ (by simp)

/-- A change of the live state that keeps the due mark and the pending half keeps the writes to come. -/
theorem State.writesToCome_modifyLive (n : Fin 8) (f : LiveState → LiveState) (s : State)
    (h : ∀ v, ((f v).due && (f v).half.isSome) = (v.due && v.half.isSome)) :
    (s.modifyLive n f).writesToCome = s.writesToCome := by
  have e := State.writesToCome_setCell n { s.cell n with live := (s.cell n).live.map f } s
  have hc : Cell.writesToCome { s.cell n with live := (s.cell n).live.map f } = (s.cell n).writesToCome := by
    unfold Cell.writesToCome
    cases (s.cell n).live <;> simp [h]
  rw [hc] at e
  exact Nat.add_right_cancel e

theorem State.writesToCome_counterSet_le (n : Fin 8) (d : CellDef) (o : Origin) (c : Option (Fin 4)) (p x : Nat)
    (s : State) :
    (s.counterSet n d o c p x).writesToCome ≤ s.writesToCome + if o = .processor then 0 else 1 := by
  refine (State.writesToCome_startWrite_le ..).trans (Nat.add_le_add_right (le_of_eq ?_) _)
  exact State.writesToCome_congr (by simp) (by simp)

theorem State.writesToCome_judgeByMode_le (n : Fin 8) (d : CellDef) (o : Origin) (p : Nat) (v : LiveState) (s : State) :
    (s.judgeByMode n d o p v).writesToCome ≤ s.writesToCome + if o = .processor then 0 else 1 := by
  have spend (k : Nat) : (s.modifyLive n fun x => { x with credit := x.credit - k }).writesToCome = s.writesToCome :=
    State.writesToCome_modifyLive n _ s fun _ => rfl
  unfold State.judgeByMode
  split
  · omega
  · split
    · rw [State.writesToCome_congr (s := s) (by simp) (by simp)]
      omega
    · split
      · exact State.writesToCome_startWrite_le ..
      · unfold State.rateRise
        split
        · exact (State.writesToCome_startWrite_le ..).trans (Nat.add_le_add_right (spend _).le _)
        · unfold State.clampRise
          simp only []
          split
          · refine (State.writesToCome_startWrite_le ..).trans (Nat.add_le_add_right (le_of_eq ?_) _)
            rw [← spend (v.credit / 65536 * 65536)]
            exact State.writesToCome_congr (by simp) (by simp)
          · refine le_trans (le_of_eq ?_) (Nat.le_add_right s.writesToCome _)
            rw [← spend (v.credit / 65536 * 65536)]
            exact State.writesToCome_congr (by simp) (by simp)

/-- An evaluation brings at most the one write that a due pending half counted for, and of origin PROCESSOR none. -/
theorem State.writesToCome_evaluate_le (n : Fin 8) (o : Origin) (p : Nat) (s : State)
    (h : o = .processor ∨ (s.cell n).live.any (fun v => v.due && v.half.isSome) = true) :
    (s.evaluate n o p).writesToCome ≤ s.writesToCome := by
  unfold State.evaluate
  split
  · rename_i d v hd hv
    have e : (s.modifyLive n fun x => { x with half := none }).writesToCome + (if o = .processor then 0 else 1) ≤
        s.writesToCome := by
      have e := State.writesToCome_setCell n
        { s.cell n with live := (s.cell n).live.map fun x => { x with half := none } } s
      simp only [Cell.writesToCome, hv] at e h
      rw [State.modifyLive, hv]
      rcases h with rfl | h
      · simp at e ⊢
        omega
      · simp [h] at e
        simp only [Option.map_some]
        split <;> omega
    simp only []
    split
    · exact (State.writesToCome_counterSet_le ..).trans e
    · exact (State.writesToCome_judgeByMode_le ..).trans e
  · exact le_rfl

/-! ## The ends of operations -/

theorem State.writesToCome_settleFloor_le (n : Fin 8) (s : State) :
    (s.settleFloor n).writesToCome ≤ s.writesToCome := by
  unfold State.settleFloor
  split
  · exact le_rfl
  · rename_i v hv
    have e : (s.modifyLive n fun x => { x with floor := x.shadow, due := false }).writesToCome ≤ s.writesToCome := by
      refine State.writesToCome_setCell_le ?_
      simp [Cell.writesToCome, hv]
    simp only []
    split
    · exact e
    · exact e

theorem State.writesToCome_settle_le (n : Fin 8) (s : State) : (s.settle n).writesToCome ≤ s.writesToCome := by
  unfold State.settle
  split
  · exact le_rfl
  · rename_i v hv
    split
    · rename_i hd
      have e : (s.evaluatePending n .ignition).writesToCome ≤ s.writesToCome := by
        unfold State.evaluatePending
        rw [hv]
        simp only []
        split
        · exact le_rfl
        · rename_i h hh
          exact State.writesToCome_evaluate_le _ _ _ _ (.inr (by simp [hv, hd.1, hh]))
      simp only []
      split
      · exact e
      · exact (State.writesToCome_settleFloor_le ..).trans e
    · exact le_rfl

/-- The write of the cycle in progress brings at most one internal write: that of a half which it leaves pending in a
cell that is due. -/
theorem State.writesToCome_takeWrite_le (n : Fin 8) (s : State) : (s.takeWrite n).writesToCome ≤ s.writesToCome + 1 := by
  have finish (t : State) (h : t.writesToCome ≤ s.writesToCome) :
      (t.finishWrite n).writesToCome ≤ s.writesToCome + 1 := by
    unfold State.finishWrite
    split
    · omega
    · exact (State.writesToCome_completeCycle_le ..).trans (by omega)
  have pend (h : Half) (x : Word) : (s.setPending n h x).writesToCome ≤ s.writesToCome + 1 := by
    refine (State.writesToCome_completeCycle_le ..).trans ?_
    have e := State.writesToCome_setCell n
      { s.cell n with live := (s.cell n).live.map fun y => { y with half := some { half := h, value := x, age := 0 } } } s
    rw [State.modifyLive]
    have hc : Cell.writesToCome
        { s.cell n with
          live := (s.cell n).live.map fun y => { y with half := some { half := h, value := x, age := 0 } } } ≤
        (s.cell n).writesToCome + 1 := by
      simp only [Cell.writesToCome]
      split <;> split <;> split <;> omega
    omega
  unfold State.takeWrite
  split
  · omega
  · split
    · split
      · exact finish _ (State.writesToCome_evaluate_le _ _ _ _ (.inl rfl))
      · unfold State.takeHalf
        split
        · exact pend ..
        · split
          · exact pend ..
          · exact finish _ (State.writesToCome_evaluate_le _ _ _ _ (.inl rfl))
    · exact (State.writesToCome_completeCycle_le ..).trans (by omega)

theorem State.writesToCome_takeWaiting_le (n : Fin 8) (s : State) :
    (s.takeWaiting n).writesToCome ≤ s.writesToCome := by
  unfold State.takeWaiting
  split
  · rename_i h
    refine (State.writesToCome_takeWrite_le ..).trans (le_of_eq ?_)
    simp [State.writesToCome, State.cell, h.1]
  · exact le_rfl

theorem State.writesToCome_afterOp_le (n : Fin 8) (s : State) : (s.afterOp n).writesToCome ≤ s.writesToCome :=
  (State.writesToCome_settle_le ..).trans (State.writesToCome_takeWaiting_le ..)

/-- The end of an operation brings no more writes than were to come. -/
theorem State.writesToCome_opEnd_le (n : Fin 8) (r : TransferResult) (s : State) :
    (s.opEnd n r).writesToCome ≤ s.writesToCome := by
  have clear : (s.setOp n none).writesToCome ≤ s.writesToCome := State.writesToCome_setOp_le (by simp) n s
  have live (v : LiveState) (hv : (v.due && v.half.isSome) = false) :
      (s.becomeLive n v).writesToCome + (if (s.cell n).op = some .scanRead then 1 else 0) ≤ s.writesToCome := by
    have e := State.writesToCome_setCell n { s.cell n with live := some v, loadedFloor := none, op := none } s
    have h0 : Cell.writesToCome { s.cell n with live := some v, loadedFloor := none, op := none } = 0 := by
      simp only [Cell.writesToCome, Option.any_some, hv]
      simp
    have h1 : (if (s.cell n).op = some .scanRead then 1 else 0) ≤ (s.cell n).writesToCome := Nat.le_add_right _ _
    rw [State.becomeLive]
    omega
  have keeps (f : LiveState → LiveState) (h : ∀ v, ((f v).due && (f v).half.isSome) = (v.due && v.half.isSome)) :
      (State.modifyLive n f (s.setOp n none)).writesToCome ≤ s.writesToCome :=
    (State.writesToCome_modifyLive n f _ h).le.trans clear
  unfold State.opEnd
  split
  · unfold State.staleEnd
    have e : (s.setCell n { s.cell n with op := none, stale := false }).writesToCome ≤ s.writesToCome := by
      refine State.writesToCome_setCell_le ?_
      simp [Cell.writesToCome]
    have e2 := (State.writesToCome_takeWaiting_le n _).trans e
    simp only []
    split
    · exact (State.writesToCome_startNewRead_le ..).trans e2
    · exact e2
  · split
    · rename_i d hd ho
      refine (State.writesToCome_afterOp_le ..).trans ?_
      have l (v : LiveState) (hv : (v.due && v.half.isSome) = false) := live v hv
      simp only [ho, if_true] at l
      unfold State.scanReadEnd
      simp only []
      split
      · have := l (.begin ((s.cell n).loadedFloor.getD 0) ((s.cell n).loadedFloor.getD 0) true) rfl
        omega
      · split
        · have := l (.begin (readValue d r) ((s.cell n).loadedFloor.getD 0) false) rfl
          omega
        · have h := l (.begin ((s.cell n).loadedFloor.getD 0) ((s.cell n).loadedFloor.getD 0) false) rfl
          rw [State.startInternal, State.writesToCome_enqueueInternal]
          refine (Nat.add_le_add_right (State.writesToCome_setOp_le (by simp) n _) _).trans ?_
          refine (Nat.add_le_add_right (le_of_eq (State.writesToCome_congr (s := s.becomeLive n
            (.begin ((s.cell n).loadedFloor.getD 0) ((s.cell n).loadedFloor.getD 0) false)) ?_ ?_)) _).trans ?_
          · simp
          · simp
          · simpa [cellRequest] using h
    · rename_i d w hd ho
      refine (State.writesToCome_afterOp_le ..).trans ?_
      unfold State.newReadEnd
      split
      · exact clear
      · exact (Nat.le_add_right _ _).trans (live _ rfl)
    · refine (State.writesToCome_afterOp_le ..).trans ?_
      unfold State.correctionEnd
      simp only []
      split
      · exact keeps _ fun _ => rfl
      · exact clear
    · refine (State.writesToCome_afterOp_le ..).trans ?_
      unfold State.restoreEnd
      simp only []
      split
      · exact keeps _ fun _ => rfl
      · exact clear
    · rename_i d o v isSet hd ho
      refine (State.writesToCome_afterOp_le ..).trans ?_
      unfold State.evaluationEnd
      simp only []
      split
      · exact clear
      · split
        · exact keeps _ fun _ => rfl
        · split
          · exact keeps _ fun _ => rfl
          · exact keeps _ fun _ => rfl
    · exact le_rfl

theorem State.writesToCome_tellNotMade_le (r : Request) (s : State) :
    (s.tellNotMade r).writesToCome ≤ s.writesToCome := by
  unfold State.tellNotMade
  split
  · exact State.writesToCome_opEnd_le ..
  · exact le_rfl

/-! ## Turns enough (R12, R20) -/

/-- A write that is not made leaves the list, and one write less is to come. -/
theorem State.writesToCome_dequeue {r : Request} {rest : List Request} {s : State} (hq : s.mem.queue = r :: rest)
    (hb : s.barred r = true) :
    State.writesToCome { s with mem := { s.mem with queue := rest } } + 1 = s.writesToCome := by
  have hd : r.direction = .write := by
    unfold State.barred at hb
    simp only [Bool.and_eq_true, decide_eq_true_eq] at hb
    exact hb.1
  simp only [State.writesToCome, State.cell, hq, List.countP_cons, hd]
  simp
  omega

/-- A turn at a write that is not made. -/
theorem State.serveWith_not_made (wide : Bool) (fuel : Nat) {r : Request} {rest : List Request} {s : State}
    (ht : s.mem.transfer = none) (hq : s.mem.queue = r :: rest) (hb : s.barred r = true) :
    State.serveWith wide (fuel + 1) s =
      State.serveWith wide fuel (State.tellNotMade r { s with mem := { s.mem with queue := rest } }) := by
  rw [State.serveWith_succ]
  split
  · simp_all
  · rename_i h
    obtain ⟨rfl, rfl⟩ : _ = r ∧ _ = rest := by simpa using h.symm.trans hq
    exact if_pos hb
  · simp_all
  · simp_all

/-- With more turns than writes to come, the number of turns makes no difference. -/
theorem State.serveWith_enough (wide : Bool) : ∀ (a b : Nat) (s : State), s.writesToCome < a → s.writesToCome < b →
    State.serveWith wide a s = State.serveWith wide b s
  | 0, _, _, h, _ => absurd h (Nat.not_lt_zero _)
  | _, 0, _, _, h => absurd h (Nat.not_lt_zero _)
  | a + 1, b + 1, s, ha, hb => by
    by_cases h : ∃ r rest, s.mem.transfer = none ∧ s.mem.queue = r :: rest ∧ s.barred r = true
    · obtain ⟨r, rest, ht, hq, hbar⟩ := h
      have e := State.writesToCome_dequeue hq hbar
      have e2 := State.writesToCome_tellNotMade_le r { s with mem := { s.mem with queue := rest } }
      rw [State.serveWith_not_made wide a ht hq hbar, State.serveWith_not_made wide b ht hq hbar]
      exact State.serveWith_enough wide a b _ (by omega) (by omega)
    · rw [State.serveWith_succ, State.serveWith_succ]
      split
      · rfl
      · rename_i r rest ht hq
        have hb : ¬ State.barred r { s with mem := { s.mem with queue := rest } } = true := fun hbar =>
          h ⟨r, rest, ht, hq, hbar⟩
        simp only []
        rw [if_neg hb, if_neg hb]
      · rfl
      · rfl

/-- R12, R20: a write that is not made is its requester's end, and then the arbiter serves the requests that wait. -/
theorem State.serve_not_made (wide : Bool) {r : Request} {rest : List Request} {s : State} (ht : s.mem.transfer = none)
    (hq : s.mem.queue = r :: rest) (hb : s.barred r = true) :
    s.serve wide = (State.tellNotMade r { s with mem := { s.mem with queue := rest } }).serve wide := by
  have e := State.writesToCome_dequeue hq hb
  have e2 := State.writesToCome_tellNotMade_le r { s with mem := { s.mem with queue := rest } }
  have l := s.writesToCome_lt
  have l2 := State.writesToCome_lt (State.tellNotMade r { s with mem := { s.mem with queue := rest } })
  rw [State.serve_eq, State.serve_eq, hq]
  rw [hq] at l
  refine (State.serveWith_not_made wide (rest.length + 32) ht hq hb).trans ?_
  exact State.serveWith_enough wide _ _ _ (by simp at l; omega) (by omega)

/-- R20, R21: the arbiter leaves no request waiting at a free port. -/
theorem State.serveWith_served (wide : Bool) : ∀ (fuel : Nat) (s : State), s.writesToCome < fuel →
    (State.serveWith wide fuel s).PortServed
  | 0, _, h => absurd h (Nat.not_lt_zero _)
  | fuel + 1, s, h => by
    by_cases hb : ∃ r rest, s.mem.transfer = none ∧ s.mem.queue = r :: rest ∧ s.barred r = true
    · obtain ⟨r, rest, ht, hq, hbar⟩ := hb
      have e := State.writesToCome_dequeue hq hbar
      have e2 := State.writesToCome_tellNotMade_le r { s with mem := { s.mem with queue := rest } }
      rw [State.serveWith_not_made wide fuel ht hq hbar]
      exact State.serveWith_served wide fuel _ (by omega)
    · rw [State.serveWith_succ]
      split
      · simp_all [State.PortServed]
      · rename_i r rest ht hq
        have hn : ¬ State.barred r { s with mem := { s.mem with queue := rest } } = true := fun hbar =>
          hb ⟨r, rest, ht, hq, hbar⟩
        simp only []
        rw [if_neg hn]
        simp [State.PortServed, State.begin]
      · simp [State.PortServed, State.begin]
      · simp_all [State.PortServed]

theorem State.serve_served (wide : Bool) (s : State) : (s.serve wide).PortServed :=
  State.serveWith_served wide _ s s.writesToCome_lt

end Sys2Proof.Machine
end

