-- ==== Sys2Proof/Laws/Link.lean ====
section
/-! SUPPORT. The numbers of the link's fields, the handing over of a message to its block, and the slot orders. -/

namespace Sys2Proof

/-- A number of `k` bytes is below 256 to the `k`. -/
theorem leNat_lt (l : List Byte) : leNat l < 256 ^ l.length := by
  induction l with
  | nil => simp [leNat]
  | cons b rest ih =>
    have hb : b.toNat < 256 := b.isLt
    simp only [leNat, List.length_cons, Nat.pow_succ]
    omega

/-- A field of `size` bytes holds a number below 256 to the `size`. -/
theorem fieldAt_lt (p : List Byte) (offset size : Nat) : fieldAt p offset size < 256 ^ size := by
  refine Nat.lt_of_lt_of_le (leNat_lt _) (Nat.pow_le_pow_right (by decide) ?_)
  simp only [bytesAt, List.length_take]
  exact Nat.min_le_left ..

/-- `finOf` answers the number itself, exactly where it is below the bound. -/
theorem finOf_eq_some {k n : Nat} {i : Fin k} : finOf k n = some i ↔ n = i.val := by
  unfold finOf
  split <;> rename_i h
  · simp [Fin.ext_iff]
  · simp only [reduceCtorEq, false_iff]
    intro e
    exact h (e ▸ i.isLt)

theorem finOf_eq_none {k n : Nat} : finOf k n = none ↔ k ≤ n := by
  unfold finOf
  split <;> simp <;> omega

end Sys2Proof

namespace Sys2Proof.Machine

/-! ## A message reaches its block (R139) -/

/-- A message with the command's code, a right check and a payload of the right length is executed by its block. -/
theorem State.runCommand_of_message {s : State} {code : Byte} {p : List Byte} {size : Nat} (body : Body)
    (hm : s.Message code p) (hl : p.length = size) : s.runCommand code size body = State.finish (body p s) := by
  obtain ⟨m, h, hc, hp, hz⟩ := hm
  subst hp hl
  simp [State.runCommand, h, hc, hz]

/-- Everything a command row can do: nothing, an answer without an effect, or its block's own effect and answer. -/
theorem State.runCommand_cases (code : Byte) (size : Nat) (body : Body) (s : State) :
    s.runCommand code size body = s ∨ (∃ a, s.runCommand code size body = s.completeCommand a) ∨
      ∃ p, s.Message code p ∧ p.length = size ∧ s.runCommand code size body = State.finish (body p s) := by
  unfold State.runCommand
  split
  · exact .inl rfl
  · rename_i m h
    split
    · rename_i hc
      split
      · exact .inr (.inl ⟨_, rfl⟩)
      · rename_i hz
        split
        · exact .inr (.inl ⟨_, rfl⟩)
        · rename_i hl
          exact .inr (.inr ⟨m.payload, ⟨m, h, hc, rfl, by simpa using hz⟩, by simpa using hl, rfl⟩)
    · exact .inl rfl

@[simp] theorem State.finish_answer (a : Answer) (s : State) : State.finish (s.answer a) = s.completeCommand a := rfl

@[simp] theorem State.finish_some (a : Answer) (s : State) : State.finish (s, some a) = s.completeCommand a := rfl

@[simp] theorem State.finish_none (s : State) : State.finish (s, none) = s := rfl

/-! ## Frame boundaries and the transmitter (R133) -/

@[simp] theorem Link.goOff_receiver (l : Link) : l.goOff.receiver = .off := rfl
@[simp] theorem Link.goOff_line (l : Link) : l.goOff.line = l.line := rfl
@[simp] theorem Link.goOff_execution (l : Link) : l.goOff.execution = l.execution := rfl
@[simp] theorem Link.goOff_reply (l : Link) : l.goOff.reply = none := rfl
@[simp] theorem Link.goOff_offDue (l : Link) : l.goOff.offDue = false := rfl

theorem Link.boundary_of_due {l : Link} (h : l.offDue = true) : l.boundary = l.goOff := if_pos h

@[simp] theorem Link.boundary_of_not_due {l : Link} (h : l.offDue = false) : l.boundary = l := if_neg (by simp [h])

/-- Everything a divisor made 0 can do to the link: nothing to one that is OFF, a mark within a frame, OFF at rest. -/
theorem Link.turnOff_cases (l : Link) :
    (l.receiver = .off ∧ l.turnOff = l) ∨ ((l.line.busy = true ∨ l.sending = true) ∧ l.turnOff = { l with offDue := true }) ∨
      (l.line.busy = false ∧ l.sending = false ∧ l.turnOff = l.goOff) := by
  unfold Link.turnOff
  split
  · exact .inl ⟨‹_›, rfl⟩
  · split <;> rename_i h
    · exact .inr (.inl ⟨by simpa using h, rfl⟩)
    · exact .inr (.inr (by simpa using h))

/-- Everything the boundary before a frame of a reply can be: the link's end, the reply's end, or the next frame. -/
theorem Link.nextFrame_cases (fr : Framing) (l : Link) :
    (l.offDue = true ∧ l.nextFrame fr = l.goOff) ∨
      (l.offDue = false ∧ l.nextFrame fr = { l with receiver := .listening, reply := none }) ∨
      ∃ x f rest, l.offDue = false ∧ l.reply = some { transmission := x, waiting := f :: rest } ∧
        l.nextFrame fr = { l with line := .watching, reply := some { transmission := .sending f fr 0, waiting := rest } } := by
  unfold Link.nextFrame
  split <;> rename_i h
  · exact .inl ⟨h, rfl⟩
  · have stays : l.offDue = false := by simpa using h
    split
    · exact .inr (.inr ⟨_, _, _, stays, ‹_›, rfl⟩)
    · exact .inr (.inl ⟨stays, rfl⟩)

/-- Everything a guard-clock period can do at the transmitter: nothing without a reply, a boundary, or a count. -/
theorem Link.transmit_cases (fr : Framing) (l : Link) :
    (l.reply = none ∧ l.transmit fr = l) ∨ l.transmit fr = l.nextFrame fr ∨
      ∃ r x, l.reply = some r ∧ l.transmit fr = { l with reply := some { r with transmission := x } } := by
  unfold Link.transmit
  split
  · exact .inl ⟨‹_›, rfl⟩
  · split <;> split
    · exact .inr (.inl rfl)
    · exact .inr (.inr ⟨_, _, ‹_›, rfl⟩)
    · exact .inr (.inl rfl)
    · exact .inr (.inr ⟨_, _, ‹_›, rfl⟩)

/-- A frame takes a bit time for each of its 11 to 13 bits (R131). -/
theorem ReplyFrame.bits_length (fr : Framing) (f : ReplyFrame) :
    (f.bits fr).length =
      10 + (match fr.parityMode with | .none => 0 | _ => 1) + (match fr.stopBits with | .one => 1 | .two => 2) := by
  cases hm : fr.parityMode <;> cases hs : fr.stopBits <;>
    simp [ReplyFrame.bits, ReplyFrame.parityBits, StopBits.levels, hm, hs]

/-! ## The slot order -/

theorem mem_slotOrder (i : Fin 4) : i ∈ slotOrder := by
  revert i
  decide

theorem mem_octOrder (n : Fin 8) : n ∈ octOrder := by
  revert n
  decide

/-- The first member with a property of a list in rising order that holds every number is the lowest one with it. -/
theorem find_rising_eq_some {k : Nat} {l : List (Fin k)} (hl : l.Pairwise (· < ·)) (all : ∀ i, i ∈ l)
    {p : Fin k → Bool} {i : Fin k} : l.find? p = some i ↔ p i = true ∧ ∀ j : Fin k, j < i → p j = false := by
  rw [List.find?_eq_some_iff_append]
  constructor
  · rintro ⟨hp, front, back, rfl, hf⟩
    refine ⟨hp, fun j hj => ?_⟩
    have hb : ∀ x ∈ back, i < x := (List.pairwise_cons.mp (List.pairwise_append.mp hl).2.1).1
    rcases List.mem_append.mp (all j) with h | h
    · simpa using hf j h
    · rcases List.mem_cons.mp h with rfl | h
      · exact absurd hj (lt_irrefl _)
      · exact absurd (hb j h) (lt_asymm hj)
  · rintro ⟨hp, hlt⟩
    obtain ⟨front, back, rfl⟩ := List.append_of_mem (all i)
    refine ⟨hp, front, back, rfl, fun x hx => ?_⟩
    simpa using hlt x ((List.pairwise_append.mp hl).2.2 x hx i (by simp))

/-- The first slot in slot order with a property is the lowest one with it. -/
theorem find_slotOrder_eq_some {p : Fin 4 → Bool} {i : Fin 4} :
    slotOrder.find? p = some i ↔ p i = true ∧ ∀ j : Fin 4, j < i → p j = false :=
  find_rising_eq_some (by decide) mem_slotOrder

theorem find_slotOrder_eq_none {p : Fin 4 → Bool} : slotOrder.find? p = none ↔ ∀ i : Fin 4, p i = false := by
  simp only [List.find?_eq_none, Bool.not_eq_true]
  exact ⟨fun h i => h i (mem_slotOrder i), fun h i _ => h i⟩

/-- The first cell in cell order with a property is the lowest one with it. -/
theorem find_octOrder_eq_some {p : Fin 8 → Bool} {n : Fin 8} :
    octOrder.find? p = some n ↔ p n = true ∧ ∀ k : Fin 8, k < n → p k = false :=
  find_rising_eq_some (by decide) mem_octOrder

theorem find_octOrder_eq_none {p : Fin 8 → Bool} : octOrder.find? p = none ↔ ∀ n : Fin 8, p n = false := by
  simp only [List.find?_eq_none, Bool.not_eq_true]
  exact ⟨fun h i => h i (mem_octOrder i), fun h i _ => h i⟩

end Sys2Proof.Machine
end

