-- ==== Sys2Proof/Laws/Timebase.lean ====
section
/-! SUPPORT. The timebase: the multiples that a count takes, one period after the other, the taking of an event, and the
ignition filter after a sample. -/

namespace Sys2Proof.Machine

/-! ## The multiples a count takes (R168) -/

@[simp] theorem passes_zero (k a : Nat) : passes k a 0 = 0 := by simp [passes]

/-- One more period takes one more multiple exactly where the count is then a multiple. -/
theorem passes_succ (k a n : Nat) : passes k a (n + 1) = passes k a n + if k ∣ a + n + 1 then 1 else 0 := by
  have hle : a / k ≤ (a + n) / k := Nat.div_le_div_right (Nat.le_add_right a n)
  rw [passes, passes, ← Nat.add_assoc, Nat.succ_div]
  split <;> omega

/-- The last multiple taken is that of the count reached. -/
theorem add_passes (k a n : Nat) : a / k + passes k a n = (a + n) / k := by
  have hle : a / k ≤ (a + n) / k := Nat.div_le_div_right (Nat.le_add_right a n)
  simp only [passes]
  omega

@[simp] theorem passed_zero (k a : Nat) : passed k a 0 = [] := by simp [passed]

/-- The multiples of one more period: those before, and the count's own where it is one. -/
theorem passed_succ (k a n : Nat) :
    passed k a (n + 1) = passed k a n ++ if k ∣ a + n + 1 then [(a + n + 1) / k] else [] := by
  simp only [passed, passes_succ]
  split
  · rename_i h
    have hk := add_passes k a (n + 1)
    rw [passes_succ, if_pos h] at hk
    simp only [List.range_succ, List.map_append, List.map_cons, List.map_nil]
    congr 2
    rw [← Nat.add_assoc a n 1] at hk
    omega
  · simp

/-- A block that waits for a multiple of `k` waits for one, and no more. -/
theorem passes_to_next (k a : Nat) (hk : 0 < k) : passes k a (k - a % k) = 1 := by
  have ha := Nat.div_add_mod a k
  have hr := Nat.mod_lt a hk
  have e : a + (k - a % k) = k * (a / k + 1) := by
    rw [Nat.mul_add, Nat.mul_one]
    omega
  simp [passes, e, Nat.mul_div_cancel_left _ hk]

/-! ## The taking of an event (R171) -/

/-- A block that takes a tick leaves its other ticks, and either one waited or time has passed to the next. -/
theorem Timebase.takeGuardTick_cases (t : Timebase) :
    (∃ n, t.guardTicks = n :: t.takeGuardTick.guardTicks ∧
        t.takeGuardTick = { t with guardTicks := t.takeGuardTick.guardTicks }) ∨
      (t.guardTicks = [] ∧ t.takeGuardTick = { t.toNext 4096 with guardTicks := (t.toNext 4096).guardTicks.tail }) := by
  cases h : t.guardTicks with
  | nil => exact .inr ⟨rfl, by simp [takeGuardTick, awaitGuardTick, h]⟩
  | cons n rest => exact .inl ⟨n, by simp [takeGuardTick, awaitGuardTick, h]⟩

/-- The same of a tick at the window table. -/
theorem Timebase.takeTableTick_cases (t : Timebase) :
    (∃ n, t.tableTicks = n :: t.takeTableTick.tableTicks ∧
        t.takeTableTick = { t with tableTicks := t.takeTableTick.tableTicks }) ∨
      (t.tableTicks = [] ∧ t.takeTableTick = { t.toNext 4096 with tableTicks := (t.toNext 4096).tableTicks.tail }) := by
  cases h : t.tableTicks with
  | nil => exact .inr ⟨rfl, by simp [takeTableTick, awaitTableTick, h]⟩
  | cons n rest => exact .inl ⟨n, by simp [takeTableTick, awaitTableTick, h]⟩

/-- Time passing leaves the period count in its range (R168). -/
theorem Timebase.elapse_periodCount_lt (n : Nat) (t : Timebase) : (t.elapse n).periodCount < 32768 :=
  Nat.mod_lt _ (by decide)

theorem Timebase.period_periodCount_lt (t : Timebase) : t.period.periodCount < 32768 := Nat.mod_lt _ (by decide)

/-! ## Events of the ignition filter (R174, R177) -/

/-- A sample joins the history, and either changes nothing else or makes the line the level and issues its event. -/
theorem IgnitionFilter.sample_cases (line : Bool) (f : IgnitionFilter) :
    (pushSample line f.history = [line, line, line, line] ∧ line ≠ f.level ∧
        f.sample line = IgnitionFilter.change line { f with history := pushSample line f.history }) ∨
      ¬ (pushSample line f.history = [line, line, line, line] ∧ line ≠ f.level) ∧
        f.sample line = { f with history := pushSample line f.history } := by
  by_cases h : pushSample line f.history = [line, line, line, line] ∧ line ≠ f.level
  · exact .inl ⟨h.1, h.2, if_pos h⟩
  · exact .inr ⟨h, if_neg h⟩

end Sys2Proof.Machine
end

