-- ==== Sys2Proof/Tests/Slice0.lean ====
section
/-! SUPPORT. Tests of single steps on small states, their expected results from the manual's worked sequences and tables
(the section named in each comment), and one witness theorem for the hypotheses of each statement. -/

namespace Sys2Proof.Tests

open Sys2Proof Sys2Proof.Machine

-- Each test waits for the kernel; one after the other they need one thread.
set_option Elab.async false

/-! ## A small running part: the windows of section 2.1's matching example and three cells -/

/-- A FIXED wide window's terms. -/
def terms (cls : WindowClass) (select : Fin 6) (deny : DenyResponse) : WindowTerms :=
  { cls := cls, deviceSelect := select, width := .wide16, waitStates := 1, readyMode := .fixed, denyResponse := deny }

def code : Window := { base := 0x000000, size := 0x100000, offset := 0, terms := terms .code 0 .quiet }
def priv4k : Window := { base := 0x1F0000, size := 0x1000, offset := 0, terms := terms .priv 1 .quiet }
def records : Window := { base := 0x180000, size := 0x10000, offset := 0, terms := terms .records 3 .quiet }
/-- Section 1.3's narrow READY window. -/
def slow : Window :=
  { base := 0x200000, size := 0x10000, offset := 0x010000
    terms :=
      { cls := .opn, deviceSelect := 4, width := .narrow8, waitStates := 3, readyMode := .ready, denyResponse := .quiet } }

def calib : Window := { base := 0x1C0000, size := 0x40000, offset := 0x010000, terms := terms .calibration 1 .flag }

def odometer : CellDef := { width := .w32, address := 0x180000, mode := .rate 31858 64 }
def hours : CellDef := { width := .w32, address := 0x180004, mode := .monotonic }
def starts : CellDef := { width := .w16, address := 0x1A0010, mode := .monotonic }

def live (shadow credit floor : Nat) : LiveState :=
  { shadow := shadow, credit := credit, floor := floor, half := none, repair := false, due := false }

def cellOf (d : CellDef) (v : LiveState) : Cell := { Cell.disabled with defn := some d, live := some v }

/-- A level-3 grant with every right, every window in scope and no allowance. -/
def master : Grant :=
  { toolId := 7, level := .three, rights := 0b111111, scope := 0b111111111, lifetime := 100, allowance := none
    survive := false }

/-- A level-1 grant with CLEAR and one write left. -/
def clearOnce : Grant :=
  { toolId := 0x5A11C0DE, level := .one, rights := 0b000001, scope := 0b000000100, lifetime := 1, allowance := some 1
    survive := false }

/-- The part right after start-up: no grant, its cells LIVE with nothing in flight. -/
def part : State :=
  { State.reset with
    start := { phase := .running, strap := false }
    port := { State.reset.port with state := .idle }
    table :=
      { State.reset.table with
        windows := #v[some code, some priv4k, some records, some calib, none, some slow, none, none]
        dflt := terms .opn 0 .quiet
        settings := { Settings.unprovisioned with nodeAddress := 17 } }
    guard :=
      { cells :=
          #v[cellOf odometer (live 1234567 2548640 1234500), cellOf hours (live 65535 0 65500),
            cellOf starts (live 200 0 150), .disabled, .disabled, .disabled, .disabled, .disabled]
        waitingWrite := none }
    link := { State.reset.link with receiver := .listening }
    out := { State.reset.out with started := true }
    store :=
      { State.reset.store with
        held :=
          { Items.blank with
            provisionedMark := some true
            keys := #v[some (zeros 32), some (zeros 32), some (zeros 32)] } } }

/-- The state a command leads to. -/
def after (s : State) (c : Instr) : State :=
  match exec c s with
  | .next t => t
  | _ => s

/-- The part as the ignition filter has just issued an ignition-off to its blocks (R177). -/
def switchedOff (s : State) : State :=
  { s with
    ignition :=
      { history := [false, false, false, false], level := false, grantOffs := 1, guardOffs := 1, mirrorEvents := [false] } }

/-- A slot set, and reported to the output unit. -/
def withSlot (i : Fin 4) (x : Slot) (s : State) : State := (s.setSlot i x).reportSlot i

/-- The lines of a cycle that passes parity. -/
def cycleLines (kindA kindB : Bool) (a : Nat) (low high : Bool) (data : Word) : CycleLines :=
  let l : CycleLines :=
    { kindA := kindA, kindB := kindB, address := BitVec.ofNat 23 (a / 2), laneLow := low, laneHigh := high
      parity := false, data := data }
  { l with parity := decide (assertedLines l % 2 = 0) }

def writeCycle (a : Nat) (data : Word) : Instr := .processorCycle (cycleLines true true a true true data) true
def readCycle (a : Nat) : Instr := .processorCycle (cycleLines false true a true true 0) true

/-- A complete message, its check right, waiting to be handed over. -/
def message (b : Byte) (p : List Byte) : MessageBuffer :=
  { addressedAs := .node, length := some (p.length + 2), taken := p.length + 2, command := some b, payload := p
    check := some (0 - (BitVec.ofNat 8 (p.length + 2) + b + sumBytes p)), gap := 0 }

def hearing (b : Byte) (p : List Byte) (s : State) : State :=
  { s with link := { s.link with receiver := .executing, buffer := some (message b p), execution := some .handOver } }

/-- What `hearing` is for: the message is there with its code, its payload and a right check. -/
theorem hearing_message (b : Byte) (p : List Byte) (s : State) : (hearing b p s).Message b p := by
  refine ⟨message b p, rfl, rfl, rfl, ?_⟩
  simp only [MessageBuffer.sumIsZero, message, Option.getD_some, beq_iff_eq]
  bv_omega

/-- The reply's status and payload after a command. -/
def replied (s : State) : Option (List Byte) := s.link.reply.map fun r => ((r.waiting.map ReplyFrame.data).drop 3).dropLast

/-! ## WellFormed: each check refuses an ill-formed report -/

def goodReport : Report :=
  { kind := .writeDenied, key := some (.window .dflt), reason := some .clear, address := some 0x180200
    valueA := some 0, valueB := none }

theorem test_wellFormed_takes_a_denial : (Instr.logRecord goodReport).wellFormed = true := by decide

theorem test_wellFormed_refuses_a_wrong_key :
    (Instr.logRecord { goodReport with key := some (.cell 0) }).wellFormed = false := by decide

theorem test_wellFormed_refuses_a_wrong_reason :
    (Instr.logRecord { goodReport with reason := some .parity }).wellFormed = false := by decide

theorem test_wellFormed_refuses_a_missing_address :
    (Instr.logRecord { goodReport with address := none }).wellFormed = false := by decide

theorem test_wellFormed_refuses_a_missing_value_a :
    (Instr.logRecord { goodReport with valueA := none }).wellFormed = false := by decide

theorem test_wellFormed_refuses_a_value_b :
    (Instr.logRecord { goodReport with valueB := some 1 }).wellFormed = false := by decide

theorem test_wellFormed_refuses_the_logs_own_kind :
    (Instr.logRecord { kind := .evidenceLost, key := none, reason := none, address := none, valueA := some 1
                       valueB := none }).wellFormed = false := by decide

/-! ## Windows (section 2.1) and cycles -/

/-- Section 2.1: the matches of the overlapping windows. -/
theorem test_match_in_the_overlap :
    (part.matchLive 0x1F0800).id = .numbered 1 ∧ (part.matchLive 0x1F1000).id = .numbered 3 ∧
      (part.matchLive 0x1EFFFE).id = .numbered 3 ∧ (part.matchLive 0x1A0000).id = .dflt ∧
      (part.matchLive 0x18FFFE).id = .numbered 2 ∧ (part.matchLive 0x04A2C0).id = .numbered 0 := by decide

/-- R49: a FETCH in CALIBRATION is denied whatever is open. -/
theorem test_decision_fetch_in_calibration :
    ((withSlot 0 (.opened master 0 0) part).decisionOf
      { kind := .fetch, address := BitVec.ofNat 23 0xE2000, lanes := .both, data := 0 }).outcome = .substitute := by
  decide +kernel

/-- Section 1.3's worked sequence: the odd byte times out, and the word returned is 0xFFFF. -/
theorem test_accessTimeout_last_of_two :
    let t := after (after (after part (readCycle 0x200020)) (.accessEnd 0x003C true)) (.accessTimeout true)
    t.port.completion = some { data := some 0xFFFF } ∧ t.mem.transfer = none ∧ t.out.alert.phase = .driving ∧
      t.log.records.map LogRecord.report =
        [{ kind := .deviceTimeout, key := some (.device 4), reason := some .read, address := some 0x010021
           valueA := none, valueB := none }] := by decide +kernel

/-- Section 3.4's cycle 1: both bytes read are 0xFF, so the write is requested and the grant is not charged. -/
theorem test_accessEnd_fill :
    let t := after (after (withSlot 2 (.opened clearOnce 0 0) part) (writeCycle 0x180200 0x1234)) (.accessEnd 0xFFFF true)
    t.grants.slots[(2 : Fin 4)] = .opened clearOnce 0 0 ∧
      t.mem.transfer.map (fun u => (u.request.direction, u.request.data0)) = some (.write, 0x1234) := by decide +kernel

/-- R22, R23: an abandoned PASS completes nothing, and its transfer's result is dropped. -/
theorem test_busResetAssert_abandons :
    let t := after (after part (readCycle 0x200020)) (.busResetAssert true)
    t.port.state = .resetHeld ∧ t.port.completion = none ∧
      t.mem.transfer.map (fun u => (u.dropped, u.remaining.length)) = some (true, 1) := by decide +kernel

/-- R2: a deasserted bus reset reopens the port. -/
theorem test_busResetDeassert_reopens :
    (after (after part (.busResetAssert true)) (.busResetDeassert true)).port.state = .idle := by decide +kernel

/-! ## Cells -/

/-- Section 4.3's worked sequence: the HIGH half brings P = 1,234,607, clamped to V = 1,234,605 with 58,272 of credit
left. -/
theorem test_processorCycle_clamped_odometer :
    let t := after (part.setCell 0 (cellOf odometer { live 1234567 2548640 1234500 with
      half := some { half := .low, value := 0xD6AF, age := 0 } })) (writeCycle 0x180002 0x0012)
    (t.cell 0).op = some (.evaluation .processor 1234605 false) ∧ (t.cell 0).live.map LiveState.credit = some 58272 ∧
      t.mem.transfer.map (fun u => (u.request.data0, u.request.data1)) = some (0xD6AD, 0x0012) ∧
      t.log.records.map (fun r => (r.report.valueA, r.report.valueB)) = [(some 1234607, some 1234605)] := by
  decide +kernel

/-- Section 4.5's worked sequence, tick 4: P = 0 is refused below 65,535, and the score 2 becomes 3. The cell needs repair
too, and its restore waits for a later tick (R75). -/
theorem test_counterTick_hold_expiry :
    let half : PendingHalf := { half := .low, value := 0, age := 3 }
    let s := part.setCell 1 (cellOf hours { live 65535 0 65500 with half := some half, repair := true })
    let t := after { s with decision := { s.decision with score := 2 } } (.counterTick true)
    (t.cell 1).live = some { live 65535 0 65500 with repair := true } ∧ (t.cell 1).op = none ∧ t.decision.score = 3 ∧
      t.log.records.map LogRecord.report =
        [{ kind := .counterRefused, key := some (.cell 1), reason := some .decrease, address := some 0x180004
           valueA := some 0, valueB := some 65535 }] := by decide +kernel

/-- Section 4.5's last paragraph: an expired HIGH half of 1 proposes 131,071, which the MONOTONIC cell takes. -/
theorem test_holdExpiry_high_half :
    ((after (part.setCell 1 (cellOf hours { live 65535 0 65500 with half := some { half := .high, value := 1, age := 3 } }))
      (.holdExpiry 1 true)).cell 1).op = some (.evaluation .hold 131071 false) := by decide +kernel

/-- R75: the tick of a hold expiry that writes nothing makes no restore of its cell, and the next tick does. -/
theorem test_holdExpiry_puts_the_restore_off :
    let half : PendingHalf := { half := .high, value := 0, age := 3 }
    let s := part.setCell 1 (cellOf hours { live 65535 0 65500 with half := some half, repair := true })
    let t := after s (.holdExpiry 1 true)
    (t.cell 1).op = none ∧ t.time = s.time.takeGuardTick ∧
      ((after t (.counterTick true)).cell 1).op = some .restore := by decide +kernel

/-- Section 4.3's worked sequence: one tick later the credit is 90,130. -/
theorem test_counterTick_accrues :
    let s := part.setCell 0 (cellOf odometer (live 1234605 58272 1234500))
    ((after { s with ignition := { s.ignition with level := true } } (.counterTick true)).cell 0).live =
      some (live 1234605 90130 1234500) := by decide +kernel

/-- R91: at ignition-off the floor of a settled cell becomes its shadow and is queued. -/
theorem test_ignitionOffCounterGuard_takes_floors :
    let t := after (switchedOff part) (.ignitionOffCounterGuard true)
    t.ignition.guardOffs = 0 ∧ (t.cell 0).live.map LiveState.floor = some 1234567 ∧ t.store.held.floors[(1 : Fin 8)] = some 65535 := by
  decide +kernel

/-- Section 4.9's worked sequence: cell 0 reads 1,234,580 below its floor 1,234,605. -/
theorem test_accessEnd_scan_regression :
    let s := part.setCell 0 { Cell.disabled with defn := some odometer, loadedFloor := some 1234605, op := some .scanRead }
    let r := cellRequest odometer .read 0 (.internal 0) none
    let u := { s with mem := { s.mem with transfer := some (r.start (s.windowOf r) true 4096) } }
    let t := after (after u (.accessEnd 0xD694 true)) (.accessEnd 0x0012 true)
    (t.cell 0).live = some (live 1234605 0 1234605) ∧ (t.cell 0).op = some .correction ∧ t.decision.score = 8 ∧
      t.log.records.map (fun r => (r.report.kind, r.report.valueA, r.report.valueB)) =
        [(.counterRegressed, some 1234580, some 1234605)] := by decide +kernel

/-! ## The staged copy (section 2.5's worked sequence) -/

/-- The tool's level-3 grant in slot 1. -/
def configuring (s : State) : State := withSlot 1 (.opened master 0 0) s

def acting : List Byte := [1, 7, 0, 0, 0]

/-- Cell 1 enabled, 32-bit and MONOTONIC at an address. -/
def counterAt (low mid high : Byte) : List Byte := acting ++ [1, 1, 32, low, mid, high, 0, 0, 0, 0, 0, 0]

/-- Window 4 enabled, OPEN, 0x1A0000, 4 KB, device select 2, offset 0x020000, WIDE16, 1 wait state, FIXED, QUIET. -/
def scratch : Window :=
  { base := 0x1A0000, size := 0x1000, offset := 0x020000, terms := terms .opn 2 .quiet }

def monotonicAt (a : Addr) : CellDef := { width := .w32, address := a, mode := .monotonic }

def stagedCell (a : Addr) : Staged := { Staged.empty with cells := Staged.empty.cells.set 1 (some (some (monotonicAt a))) }

/-- The part with its odometer alone, and a staged cell 1. -/
def adding (st : Staged) : State :=
  let s := configuring part
  { s with
    table := { s.table with staged := st }
    guard :=
      { s.guard with
        cells := #v[s.cell 0, .disabled, .disabled, .disabled, .disabled, .disabled, .disabled, .disabled] } }

theorem test_stageCell_refuses_an_unaligned_address :
    let t := after (hearing 0x32 (counterAt 0x02 0x80 0x1C) (adding .empty)) .stageCell
    replied t = some [0x09, 9] ∧ t.table.staged = .empty := by decide +kernel

theorem test_stageCell_stages :
    let t := after (hearing 0x32 (counterAt 0x04 0x80 0x1C) (adding .empty)) .stageCell
    replied t = some [0] ∧ t.table.staged = stagedCell 0x1C8004 := by decide +kernel

theorem test_applyStaged_refuses_a_protected_window :
    replied (after (hearing 0x34 acting (adding (stagedCell 0x1C8004))) .applyStaged) = some [0x09, 1, 1, 3] := by
  decide +kernel

/-- Cell 1 and window 4 staged together. -/
def bothStaged : Staged :=
  { stagedCell 0x180004 with windows := Staged.empty.windows.set 4 (some (some scratch)) }

/-- The part after step 8: the apply is PENDING for slot 1. -/
def applying : State := after (hearing 0x34 acting (adding bothStaged)) .applyStaged

theorem test_applyStaged_counts : replied applying = some [0, 2] ∧ applying.table.apply = .pending := by decide +kernel

theorem test_stageSettings_busy :
    replied (after (hearing 0x33 (acting ++ List.replicate 14 0) applying) .stageSettings) = some [0x01] := by
  decide +kernel

theorem test_applyTick_makes_live :
    let t := after applying (.applyTick true)
    t.table.apply = .storing ∧ t.table.windows[(4 : Fin 8)] = some scratch ∧
      (t.cell 1).defn = some (monotonicAt 0x180004) ∧ (t.matchLive 0x1A0010).translate 0x1A0010 = 0x020010 ∧
      t.mem.transfer.map (fun u => (u.request.requester, u.request.address)) = some (.internal 1, 0x180004) ∧
      t.log.records.map (fun r => (r.report.kind, r.report.key, r.report.valueA)) =
        [(.configApplied, some (.slot 1), some 2)] := by decide +kernel

/-! ## Grants (section 5's worked sequence) -/

/-- The request: level 2, CALIBRATE and COUNTER-SET, scope 3, lifetime 5400, allowance 4, survive-ignition no. -/
def calibrationRequest : List Byte :=
  [0x11, 0x44, 0x0A, 0x7C, 2, 0b010010, 0b1000, 0, 0x18, 0x15, 4, 0, 0]

/-- The granted terms: COUNTER-SET dropped and the lifetime clamped. -/
def calibration : Grant :=
  { toolId := 0x7C0A4411, level := .two, rights := 0b000010, scope := 0b000001000, lifetime := 3600, allowance := some 4
    survive := false }

/-- The part with the challenge counter and clock of the example. -/
def sessionPart : State :=
  { part with grants := { part.grants with counter := 0x117, clock := 0x3E91D0A7 } }

theorem test_requestGrant_trims :
    let t := after (hearing 0x10 calibrationRequest sessionPart) .requestGrant
    t.grants.slots[(0 : Fin 4)] = .challenged calibration { counter := 0x118, clock := 0x3E91D0A7 } 0 ∧
      replied t = some [0, 0, 0x18, 1, 0, 0, 0xA7, 0xD0, 0x91, 0x3E, 0b000010, 0x10, 0x0E] := by decide +kernel

theorem test_requestGrant_waits :
    replied (after (hearing 0x10 calibrationRequest
      { sessionPart with grants := { sessionPart.grants with backoff := 1 } }) .requestGrant) = some [0x02, 1, 0] := by
  decide +kernel

/-- The part with the proof engine at work on slot 0's challenge; `right` tells a right proof from a wrong one. -/
def proving (right : Bool) : State :=
  let c : Challenge := { counter := 0x118, clock := 0x3E91D0A7 }
  let text := proofMessage (zeros 8) 0 calibration c
  let s := withSlot 0 (.challenged calibration c 0) { sessionPart with time := { sessionPart.time with seconds := 1001 } }
  { hearing 0x11 [] s with
    engine := some
      { slot := 0, challenge := c, key := zeros 32, message := text
        received := if right then (Sha256.hmac (zeros 32) text).take 16 else zeros 16 }
    link := { (hearing 0x11 [] s).link with execution := some .proving } }

theorem test_proofResult_mismatch :
    let t := after (proving false) .proofResult
    t.grants.slots[(0 : Fin 4)] = .free ∧ t.grants.failed = 1 ∧ t.grants.backoff = 1 ∧ t.decision.score = 4 ∧
      replied t = some [0x08] ∧
      t.log.records.map (fun r => (r.report.kind, r.report.valueA, r.report.valueB)) =
        [(.grantRefused, some 0x7C0A4411, some 1)] := by decide +kernel

theorem test_proofResult_match :
    let t := after (proving true) .proofResult
    t.grants.slots[(0 : Fin 4)] = .opened calibration 0 1001 ∧ t.out.workshopActive = true ∧
      t.out.workshopLamp.pattern = .steady ∧
      t.log.records.map (fun r => (r.report.kind, r.report.reason, r.report.valueB)) =
        [(.grantOpened, some (.level .two), some 3600)] := by decide +kernel

/-- A calibration write charges slot 0: tally 1, allowance 3. -/
theorem test_charge_lowers_the_allowance :
    ((withSlot 0 (.opened calibration 0 1001) part).charge 0).grants.slots[(0 : Fin 4)] =
      .opened { calibration with allowance := some 3 } 1 1001 := by decide +kernel

/-- Section 6.2's worked sequence: the message's check is 0x0C, and the reply is the address frame 0 and then 3, 0x12, OK,
0xEB; its first frame begins two bit times later (R133). -/
theorem test_closeGrant_reply :
    let p : List Byte := [0, 0x11, 0x44, 0x0A, 0x7C]
    (message 0x12 p).check = some 0x0C ∧
      (after (hearing 0x12 p (withSlot 0 (.opened calibration 3 1001) part)) .closeGrant).link.reply =
        some
          { transmission := .lead (2 * 16 * 104)
            waiting :=
              [{ mark := true, data := 0 }, { mark := false, data := 3 }, { mark := false, data := 0x12 },
                { mark := false, data := 0 }, { mark := false, data := 0xEB }] } := by decide +kernel

/-- R121, R169: the last second of a lifetime closes the grant EXPIRED, and the record carries the new second. -/
theorem test_grantTableSecond_expires :
    let t := after (withSlot 2 (.opened clearOnce 0 0) part) .grantTableSecond
    t.grants.slots[(2 : Fin 4)] = .free ∧ t.time.seconds = 1 ∧
      t.log.records.map (fun r => (r.report.reason, r.seconds)) = [(some .expired, 1)] := by decide +kernel

/-- R169: the seconds have risen before the second reaches the slot. -/
theorem test_lifetimeExpired_is_stamped_with_the_new_second :
    (after (withSlot 2 (.opened clearOnce 0 0) part) (.lifetimeExpired 2)).log.records.map LogRecord.seconds = [1] := by
  decide +kernel

/-- R113: a challenge frees its slot at age 30 and not at 29. -/
theorem test_challengeExpiry_at_thirty :
    let s (age : Nat) := withSlot 0 (.challenged calibration { counter := 0, clock := 0 } age) part
    (after (s 29) (.challengeExpiry 0)).grants.slots[(0 : Fin 4)] = .free ∧
      (after (s 28) (.challengeExpiry 0)).grants.slots[(0 : Fin 4)] ≠ .free := by decide +kernel

/-! ## Score and lockdown (section 3.6's worked sequence) -/

def clearConfigure : Grant := { master with rights := 0b100001 }

/-- Thresholds 4 and 8; window 3 FLAG; slots 0, 1 and 3 as the example has them. -/
def watched (score : Nat) : State :=
  let st := { part.table.settings with alertThreshold := 4, lockdownThreshold := 8 }
  let s := { part with
    table := { part.table with settings := st }, decision := { part.decision with score := score, decayCount := 12 } }
  withSlot 0 (.opened { calibration with scope := 0b000000010 } 0 0)
    (withSlot 1 (.challenged clearOnce { counter := 0, clock := 0 } 0) (withSlot 3 (.opened clearConfigure 0 0) s))

theorem test_processorCycle_enters_lockdown :
    let t := after (watched 7) (writeCycle 0x1C4000 0x55AA)
    t.decision = { record := none, score := 8, decayCount := 12, lockdown := true } ∧
      t.grants.slots = #v[.free, .free, .free, .opened clearConfigure 0 0] ∧
      t.out.resetRequest.phase = .driving ∧ t.store.held.lockdownMark = some true ∧
      t.log.records.map (fun r => (r.report.kind, r.report.reason)) =
        [(.writeDenied, some .calibrate), (.grantClosed, some .lockdown), (.lockdown, some .denial)] := by decide +kernel

theorem test_unlock_returns_to_normal :
    let s := withSlot 1 (.opened master 0 0) part
    let t := after (hearing 0x41 acting { s with decision := { s.decision with lockdown := true, score := 9 } }) .unlock
    t.decision.lockdown = false ∧ t.decision.score = 0 ∧ replied t = some [0] ∧
      t.log.records.map (fun r => (r.report.kind, r.report.valueA)) = [(.unlock, some 9)] := by decide +kernel

/-- R66: the second that brings the count to the interval of 60 lowers the score. -/
theorem test_decayCount_at_the_interval :
    (after { part with decision := { part.decision with score := 5, decayCount := 59 } } .decayCount).decision =
      { part.decision with score := 4, decayCount := 0 } := by decide +kernel

/-! ## The log (section 7) -/

/-- A record of a kind with a sequence number. -/
def recordOf (k : RecordKind) (key : Option RecordKey) (n : Nat) : LogRecord :=
  { sequence := n, seconds := 0, repeats := 1
    report := { kind := k, key := key, reason := none, address := none, valueA := none, valueB := none } }

/-- Section 7.2's full list: 64 records, 201 to 264, one NOTE (230) and two ALARM (201, 240). -/
def fullLog : List LogRecord :=
  (List.range 64).map fun i =>
    if i = 0 then recordOf .counterRegressed (some (.cell 0)) 201
    else if i = 29 then recordOf .grantOpened (some (.slot 0)) 230
    else if i = 39 then recordOf .lockdown none 240
    else { recordOf .writeDenied (some (.window (.numbered 3))) (201 + i) with repeats := if i = 63 then 5 else 1 }

def pressed : State :=
  { part with log := { records := fullLog, nextSeq := 265, dropped := 0, markCopy := true, alarm := true } }

theorem test_logRecord_displaces_the_note :
    let t := after pressed (.logRecord (recordOf .grantClosed (some (.slot 0)) 0).report)
    t.log.records.length = 64 ∧ t.log.nextSeq = 266 ∧ t.log.dropped = 0 ∧
      t.log.records.all (fun r => r.sequence ≠ 230) = true := by decide +kernel

theorem test_logRecord_coalesces :
    let t := after pressed (.logRecord (recordOf .writeDenied (some (.window (.numbered 3))) 0).report)
    t.log.records.getLast?.map (fun r => (r.sequence, r.repeats)) = some (264, 6) ∧ t.log.nextSeq = 265 := by decide +kernel

/-- Section 7.3: three records, read two at a time and released. -/
def threeRecords : State :=
  { configuring part with
    log :=
      { records :=
          [recordOf .grantOpened (some (.slot 1)) 1, recordOf .counterClamped (some (.cell 0)) 2,
            recordOf .writeDenied (some (.window (.numbered 2))) 3]
        nextSeq := 4, dropped := 0, markCopy := true, alarm := false } }

theorem test_readLog_two_records :
    (replied (after (hearing 0x20 [0] threeRecords) .readLog)).map (fun p => (p.take 3, p.length)) =
      some ([0, 3, 2], 3 + 2 * 25) := by decide +kernel

theorem test_releaseLog_leaves_its_own_record :
    let t := after (hearing 0x21 (acting ++ [64]) threeRecords) .releaseLog
    replied t = some [0, 3] ∧ t.log.markCopy = false ∧ t.log.records.map LogRecord.sequence = [4] := by decide +kernel

/-! ## Timebase, ignition, outputs, store -/

/-- Section 8.4: the fourth OFF sample in a row changes the level, and the event goes to the three blocks of R177. -/
theorem test_ignitionSample_off :
    let f : IgnitionFilter :=
      { history := [true, false, false, false], level := true, grantOffs := 0, guardOffs := 0, mirrorEvents := [] }
    (after { part with ignition := f } (.ignitionSample false)).ignition = (switchedOff part).ignition := by decide +kernel

theorem test_ignitionSample_bounce :
    let f : IgnitionFilter :=
      { history := [true, true, true, false], level := true, grantOffs := 0, guardOffs := 0, mirrorEvents := [] }
    (after { part with ignition := f } (.ignitionSample true)).ignition =
      { f with history := [true, true, false, true] } := by decide +kernel

/-- R177: the grant table and the output unit take the event that was issued to them, and no other. -/
theorem test_ignition_events_are_taken_once :
    let s := withSlot 0 (.opened master 0 0) (switchedOff part)
    let t := after s .ignitionOffGrantTable
    t.grants.slots[(0 : Fin 4)] = .free ∧ after t .ignitionOffGrantTable = t ∧ after s (.ignitionMirror true) = s ∧
      (after s (.ignitionMirror false)).ignition.mirrorEvents = [] := by decide +kernel

/-- Section 9.2: a cause held in the gap starts a second pulse. -/
theorem test_alertGapEnd_held :
    let s := { part with out := { part.out with alert := { phase := .gap, count := 63, held := true } } }
    (after s .alertGapEnd).out.alert = { phase := .driving, count := 0, held := false } := by decide +kernel

/-- Section 9.4: with the workshop lamp SLOW, a SLOW tamper lamp is lit in the opposite half. -/
theorem test_lampStep_alternates :
    let s := withSlot 0 (.challenged master { counter := 0, clock := 0 } 0)
      { part with out := { part.out with scoreMirror := 16, ignitionMirror := true } }
    let at_ (n : Fin 32) := (after { s with time := { s.time with lampSteps := [n] } } (.lampStep n)).out
    let lit (n : Fin 32) := ((at_ n).workshopLamp.lit, (at_ n).tamperLamp.lit)
    lit 15 = (true, false) ∧ lit 16 = (false, true) := by decide +kernel

/-- R170: the first lamp step after power-on is number 1, so a step with another number is no event of the part. -/
theorem test_lampStep_with_another_number : after part (.lampStep 2) = part ∧ after part (.lampStep 1) ≠ part := by
  decide +kernel

/-- R168, R170: the period count 4096 brings a sample, lamp step 4 and tick 1. -/
theorem test_timebase_period_at_a_tick :
    ({ part.time with periodCount := 4095 } : Timebase).period =
      { part.time with periodCount := 4096, samples := 1, lampSteps := [4], guardTicks := [1], tableTicks := [1] } := by
  decide

/-- Section 10.2: FINISH PROVISIONING names the missing level 2. -/
theorem test_finishProvisioning_missing_key :
    let s := { part with store := { part.store with held := { Items.blank with keys := #v[some (zeros 32), none, some (zeros 32)] } } }
    replied (after (hearing 0x52 [] s) .finishProvisioning) = some [0x09, 2] := by decide +kernel

/-- The link within a frame, its start bit just confirmed. -/
def started (s : State) : State := after s (.startBitConfirmed { rose := true, low := true })

/-- R131, R135: a GOOD address frame with the node address opens a message. -/
theorem test_frameArrival_opens_a_message :
    let f : FrameBits := { data := 17, mark := true, parity := true, stop1 := true, stop2 := true }
    (after (started part) (.frameArrival f)).link.receiver = .receiving := by decide +kernel

/-- R132: a line held low after a FRAMING-ERROR gives one frame arrival and no more. -/
theorem test_startBitConfirmed_on_a_line_held_low :
    let low : FrameBits := { data := 0, mark := false, parity := false, stop1 := false, stop2 := false }
    let t := after (started part) (.frameArrival low)
    t.link.line = .waitingHigh ∧ after t (.startBitConfirmed { rose := false, low := true }) = t := by decide +kernel

/-- R131: the address frame of a reply, EVEN parity, one stop bit: twelve bits, the mark and the parity bit high. -/
theorem test_reply_address_frame :
    ReplyFrame.bits Settings.unprovisioned.framing { mark := true, data := 0 } =
      [false, false, false, false, false, false, false, false, false, true, true, true] := by decide

/-- R133: a tick that makes the divisor 0 turns a link at rest OFF. -/
theorem test_applyTick_turns_the_link_off :
    let st : Staged := { Staged.empty with settings := some { Settings.unprovisioned with divisor := 0 } }
    (after { part with table := { part.table with staged := st, apply := .pending } } (.applyTick true)).link.receiver =
      .off := by decide +kernel

/-- Start-up of a new part, from reset: the load ends, then the scan, and the port opens. -/
theorem test_scanEnd_opens_a_new_part :
    let t := after (after State.reset (.storeLoadEnd true)) (.scanEnd true)
    t.port.state = .idle ∧ t.link.receiver = .listening ∧ t.out.started = true := by decide +kernel

/-- R194: an unprovisioned part loads no settings item, but the other items. -/
theorem test_storeLoadEnd_unprovisioned :
    let m : Items := { Items.blank with settings := some { Settings.unprovisioned with divisor := 5 }, failedCount := some 3 }
    let t := after (State.fresh m false false none) (.storeLoadEnd true)
    t.store.held.settings = none ∧ t.table.settings.divisor = 104 ∧ t.grants.failed = 3 := by decide +kernel

/-! ## The proof value's functions (FIPS 180-4 and RFC 4231's published values) -/

theorem test_sha256_abc :
    (Sha256.hash [0x61, 0x62, 0x63]).take 4 = [0xBA, 0x78, 0x16, 0xBF] := by decide +kernel

theorem test_hmac_hi_there :
    (Sha256.hmac (List.replicate 20 0x0B) [0x48, 0x69, 0x20, 0x54, 0x68, 0x65, 0x72, 0x65]).take 4 =
      [0xB0, 0x34, 0x4C, 0x61] := by decide +kernel

/-- No row of the command table has bits (log entry 31). -/
theorem test_decodeTableWord_spells_nothing : decodeTableWord 32 0x12345678 = none := by decide

/-! ## Witnesses: states and operands that meet the hypotheses of each statement, clause by clause -/

/-- A cell with an operation in flight. -/
def busyCell (n : Fin 8) (o : Operation) (s : State) : State := s.setCell n { s.cell n with op := some o }

/-- A LIVE cell with a pending half. -/
def halfCell (n : Fin 8) (d : CellDef) (v : LiveState) (h : Half) (w : Word) (age : Nat) (s : State) : State :=
  s.setCell n (cellOf d { v with half := some { half := h, value := w, age := age } })

/-- A READING cell with nothing in flight. -/
def readingCell (n : Fin 8) (d : CellDef) (s : State) : State := s.setCell n { Cell.disabled with defn := some d }

/-- The transfer of a request in progress. -/
def carry (r : Request) (s : State) : State :=
  { s with mem := { s.mem with transfer := some (r.start (s.windowOf r) true 4096) } }

/-- The cycle that lines present. -/
def cycleOf (k : Kind) (a : Nat) (l : Lanes) (data : Word) : Cycle :=
  { kind := k, address := BitVec.ofNat 23 (a / 2), lanes := l, data := data }

def linesOf (c : Cycle) : CycleLines :=
  cycleLines (decide (c.kind ≠ .read)) (decide (c.kind ≠ .fetch)) (2 * c.address.toNat) c.lanes.low? c.lanes.high? c.data

/-- A charged calibration write in progress under slot 0's grant. -/
def atWork : State := after (withSlot 0 (.opened master 0 0) part) (writeCycle 0x1C4000 5)

/-- The link with a message coming in, its gap timer at a count. -/
def incoming (gap : Nat) (line : LineReceiver) : State :=
  { part with
    link := { part.link with receiver := .receiving, line := line, buffer := some { message 1 [] with gap := gap } } }

/-- The link sending a reply: a transmission, the frames that wait, and whether the link goes OFF. -/
def sendingReply (x : Transmission) (waiting : List ReplyFrame) (offDue : Bool) : State :=
  { part with
    link := { part.link with
      receiver := .replying, reply := some { transmission := x, waiting := waiting }, offDue := offDue } }

/-- R132: the frame that a sender had begun is given up as the part sends. -/
theorem test_replySent_gives_up_a_received_frame :
    let s := sendingReply (.lead 9) [{ mark := true, data := 0 }] false
    let t := after { s with link := { s.link with line := .inFrame s.table.settings.framing } } .replySent
    t.link.receiver = .listening ∧ t.link.line = .watching := by decide +kernel

theorem witness_IdleStepIsOneGuardClockPeriod :
    (part.pending = [] ∧ part.link.receiver ≠ .receiving ∧ part.link.receiver ≠ .replying) ∧
      (639998 + 1 < 640000 ∧ (incoming 639998 .watching).pending = [] ∧
        (incoming 639998 .watching).link.receiver = .receiving) ∧
      (incoming 639999 (.inFrame part.table.settings.framing)).link.line.busy = true ∧
      (640000 ≤ 639999 + 1 ∧ (incoming 639999 .watching).link.line.busy = false) ∧
      (∀ x ∈ [Transmission.lead 2, .lead 1, .sending { mark := true, data := 0 } part.table.settings.framing 19966,
          .sending { mark := true, data := 0 } part.table.settings.framing 19967],
        ∀ waiting ∈ [replyFrames 1 (.plain .ok), []], ∀ off ∈ [true, false],
          (sendingReply x waiting off).pending = [] ∧ (sendingReply x waiting off).link.receiver = .replying ∧
            (sendingReply x waiting off).link.reply = some { transmission := x, waiting := waiting } ∧
            (sendingReply x waiting off).link.offDue = off) ∧
      16 * 104 * (ReplyFrame.bits part.table.settings.framing { mark := true, data := 0 }).length = 19967 + 1 := by
  decide +kernel

/-- The witness of ScoreAndLockdownLawsKept, GrantTermsLawKept, ChargeGrantLawKept, OutputLawKept, LogAndStoreLawsKept
and of CellLawKept's first clause: a state that meets each law, with a cycle in progress and a charge grant, steps. -/
theorem witness_laws_kept :
    (∃ t, step { atWork with pending := [.accessEnd 0 true] } = .next t) ∧ atWork.decision.record.isSome = true ∧
      atWork.ScoreLaw ∧ atWork.ProofAccountLaw ∧ atWork.StartUpLaw ∧ atWork.LockdownLaw ∧ atWork.GrantTermsLaw ∧
      atWork.ChargeGrantLaw ∧ atWork.OutputLaw ∧ atWork.log.Law ∧ atWork.store.Law ∧ atWork.CellLaw ∧
      atWork.LampLaw ∧ atWork.out.started = true ∧ State.reset.LampLaw := by
  refine ⟨⟨_, rfl⟩, ?_, ?_, ?_, ?_, ?_, ?_, ?_, ?_, ?_, ?_, ?_, ?_, ?_, ?_⟩ <;> decide +kernel

theorem witness_TrafficLawKept :
    (∃ t, step { atWork with pending := [.accessEnd 0 true] } = .next t) ∧ atWork.TrafficLaw := by
  refine ⟨⟨_, rfl⟩, ?_, ?_, ⟨?_, ?_, ?_, ?_, ?_, ?_, ?_, ?_, ?_, ?_⟩, ⟨?_, ?_, ?_, ?_, ?_, ?_, ?_⟩, ?_⟩ <;> decide +kernel

/-- The witness of CellLawKept's second clause: a running part with windows and cells, an apply PENDING. -/
theorem witness_TableLaw : applying.table.apply = .pending ∧ applying.TableLaw ∧ applying.ClockLaw := by
  have windows : ∀ n : Fin 8, ∀ w ∈ applying.table.windows[n], w.inRange = true := by decide +kernel
  have cells : ∀ n : Fin 8, ∀ d ∈ (applying.cell n).defn, d.inRange = true := by decide +kernel
  refine ⟨by decide +kernel, ⟨by decide +kernel, by decide +kernel, by decide +kernel, fun n w h => windows n w h,
    fun n d h => cells n d h, by decide +kernel, by decide +kernel, by decide +kernel, by decide +kernel⟩, by decide +kernel⟩

/-- The witness of ProtectedWriteNeedsItsRight's first clause: a protected write in progress, beside the laws of
`witness_TrafficLawKept`. -/
theorem witness_ProtectedWriteLaw :
    atWork.ProtectedWriteLaw ∧ atWork.TableLaw ∧ (∃ r ∈ atWork.mem.procRequests, r.direction = .write) := by
  have windows : ∀ n : Fin 8, ∀ w ∈ atWork.table.windows[n], w.inRange = true := by decide +kernel
  have cells : ∀ n : Fin 8, ∀ d ∈ (atWork.cell n).defn, d.inRange = true := by decide +kernel
  have decided : ∀ c ∈ atWork.port.cycle, ∀ d ∈ atWork.decision.record,
      (d.outcome = .pass ∧ c.kind = .write) ∧ d.held = true ∧ d.right = d.window.terms.cls.writeRight := by decide +kernel
  have sent : ∀ r ∈ atWork.mem.procRequests, r.requester = .processor .pass ∧
      r.window = atWork.decision.record.map DecisionRecord.window := by decide +kernel
  refine ⟨⟨⟨by decide +kernel, fun c d hc hd => ?_⟩, fun r hr hf => ?_, fun r hr _ => ?_⟩,
    ⟨by decide +kernel, by decide +kernel, by decide +kernel, fun n w h => windows n w h, fun n d h => cells n d h,
      by decide +kernel, by decide +kernel, by decide +kernel, by decide +kernel⟩, by decide +kernel⟩
  · obtain ⟨⟨hp, _⟩, held, right⟩ := decided c hc d hd
    exact ⟨fun _ _ _ => ⟨held, right⟩, fun h => by simp [hp] at h, fun h => by simp [hp] at h⟩
  · simp [(sent r hr).1] at hf
  · obtain ⟨c, hc⟩ := Option.isSome_iff_exists.mp (show atWork.port.cycle.isSome = true by decide +kernel)
    obtain ⟨d, hd⟩ := Option.isSome_iff_exists.mp (show atWork.decision.record.isSome = true by decide +kernel)
    obtain ⟨⟨hp, hk⟩, held, right⟩ := decided c hc d hd
    obtain ⟨hq, hw⟩ := sent r hr
    rw [hd] at hw
    exact ⟨d.window, hw, fun _ => ⟨hq, c, d, hc, hk, hd, hp, rfl, held, right⟩⟩

/-- A restore in progress: an internal write in a RECORDS window. -/
def restoring : State :=
  carry (cellRequest odometer .write 1234567 (.internal 0) none) (busyCell 0 .restore part)

/-- The witness of ProtectedWriteNeedsItsRight's second clause. -/
theorem witness_InternalWriteLaw :
    (∃ t, step { restoring with pending := [.accessEnd 0 true] } = .next t) ∧ restoring.TrafficLaw ∧
      restoring.InternalWriteLaw ∧
      restoring.mem.transfer.map (fun t => (t.request.requester, t.request.direction, t.window.terms.cls)) =
        some (.internal 0, .write, .records) := by
  refine ⟨⟨_, rfl⟩, ⟨?_, ?_, ⟨?_, ?_, ?_, ?_, ?_, ?_, ?_, ?_, ?_, ?_⟩, ⟨?_, ?_, ?_, ?_, ?_, ?_, ?_⟩, ?_⟩, ?_, ?_⟩ <;>
    decide +kernel

theorem witness_MatchIsTheLowestEnabledWindow :
    (part.table.windows[(1 : Fin 8)] = some priv4k ∧ priv4k.covers 0x1F0FFF = true ∧
        ∀ k : Fin 8, k < 1 → ∀ v ∈ part.table.windows[k], v.covers 0x1F0FFF = false) ∧
      (∀ n : Fin 8, ∀ w ∈ part.table.windows[n], w.covers 0x1A0000 = false) ∧
      (0x1F00FF : Addr).toNat / 256 = (0x1F0000 : Addr).toNat / 256 ∧
      ∀ n : Fin 8, ∀ w ∈ part.table.windows[n], 256 ∣ w.size ∧ 256 ∣ w.base.toNat := by decide

theorem witness_AccessesOfATransfer :
    (calib.covers 0x1FFFFF = true ∧ calib.offset.toNat + calib.size ≤ 16777216) ∧
      (cellRequest odometer .read 0 (.internal 0) none).lanes = .both ∧
      (cellRequest odometer .read 0 (.internal 0) none).twoWords = true ∧
      (cellRequest starts .read 0 (.internal 2) none).twoWords = false ∧ part.mem.transfer = none ∧
      atWork.mem.transfer.map (fun t => (t.request.direction, t.width, t.remaining.length)) = some (.write, .wide, 1) ∧
      (after part (readCycle 0x200020)).mem.transfer.map (fun t => (t.request.direction, t.width, t.remaining.length)) =
        some (.read, .narrow, 2) ∧
      (after part (writeCycle 0x200020 5)).mem.transfer.map (fun t => (t.request.direction, t.width, t.remaining.length)) =
        some (.write, .narrow, 2) := by decide +kernel

/-- A RESTORE of a cell in the CALIBRATION window, alone at a free port: a write that is not made (R12). -/
def barredRestore : State :=
  let d : CellDef := monotonicAt 0x1C8004
  let s := busyCell 3 .restore (part.setCell 3 (cellOf d (live 5 0 5)))
  { s with mem := { s.mem with queue := [cellRequest d .write 5 (.internal 3) none] } }

/-- A RESTORE of an old definition that a window change has put into the CALIBRATION window, before another request. -/
def barredMoved : State :=
  let s := part.setCell 3
    { Cell.disabled with defn := some (monotonicAt 0x180008), op := some .restore, stale := true }
  { s with
    mem := { s.mem with
      queue :=
        [cellRequest (monotonicAt 0x1C8004) .write 5 (.internal 3) none,
         cellRequest odometer .write 5 (.internal 0) none] } }

theorem witness_ArbiterServesTheFreePort :
    atWork.mem.transfer ≠ none ∧ (part.mem.transfer = none ∧ part.mem.queue = [] ∧ part.mem.place = none) ∧
      part.barred (cellRequest odometer .write 5 (.internal 0) none) = false ∧
      (barredRestore.mem.transfer = none ∧ barredRestore.mem.place = none ∧
        barredRestore.mem.queue = [cellRequest (monotonicAt 0x1C8004) .write 5 (.internal 3) none] ∧
        barredRestore.barred (cellRequest (monotonicAt 0x1C8004) .write 5 (.internal 3) none) = true ∧
        (barredRestore.cell 3).op = some .restore ∧ (barredRestore.cell 3).stale = false ∧
        (barredRestore.cell 3).defn.isSome = true ∧ barredRestore.guard.waitingWrite = none ∧
        ∀ v ∈ (barredRestore.cell 3).live, v.due = false) ∧
      (barredMoved.mem.transfer = none ∧ barredMoved.mem.queue.length = 2 ∧ (barredMoved.cell 3).stale = true ∧
        (barredMoved.mem.queue.head?).all (fun r => barredMoved.barred r) = true) ∧
      (busyCell 0 .correction part).cell 0 = { part.cell 0 with op := some .correction } ∧
      (part.cell 0).defn.isSome = true ∧ (part.cell 0).stale = false ∧ notMade.made = false := by decide +kernel

/-- R12, R101: the write that is not made is the end of the old operation: the MOVED cell's new read joins the list, and
the request that waited behind the write takes the port. -/
theorem test_write_not_made_goes_on :
    let t := barredMoved.serve true
    t.mem.transfer.map (fun x => x.request.requester) = some (.internal 0) ∧
      t.mem.queue.map (fun r => (r.requester, r.direction)) = [(.internal 3, .read)] ∧
      t.cell 3 = { barredMoved.cell 3 with op := some (.newRead .requested), stale := false } := by decide +kernel

theorem witness_UndecidedCyclesCompleteAtOnce :
    let good := cycleLines true true 0x1000 true true 5
    let odd : CycleLines := { good with parity := !good.parity }
    let invalid := cycleLines false false 0x1000 true true 0
    let noLane := cycleLines false true 0x1000 false false 0
    State.reset.port.state = .closed ∧ part.port.state = .idle ∧ part.table.settings.parityCheck = true ∧
      (countedLines odd).count true % 2 = 0 ∧
      ((countedLines invalid).count true % 2 = 1 ∧ invalid.kindA = false ∧ invalid.kindB = false) ∧
      ((countedLines noLane).count true % 2 = 1 ∧ noLane.kindB = true ∧ noLane.laneLow = false ∧
        noLane.laneHigh = false) := by decide

theorem witness_HolderIsTheLowestOpenSlot :
    (withSlot 2 (.opened clearOnce 0 0) part).grants.holder .clear (.numbered 2) = some 2 ∧
      part.grants.holder .clear (.numbered 2) = none := by decide

/-- One word of each class that is no cell word; cell words in an OPEN and in a RECORDS window. -/
theorem witness_ClassTable :
    (∀ x ∈ ([(0x1A0020, .opn), (0x000000, .code), (0x1C0000, .calibration), (0x1F0FFE, .priv), (0x18FFFE, .records)] :
        List (Nat × WindowClass)),
      ∀ k ∈ ([.fetch, .read, .write] : List Kind), part.guard.cellAt (byteAddress (cycleOf k x.1 .both 0).address) = none ∧
        (part.decisionOf (cycleOf k x.1 .both 0)).window.terms.cls = x.2) ∧
      (∀ x ∈ ([(0x1A0010, .opn), (0x180006, .records)] : List (Nat × WindowClass)),
        ∀ k ∈ ([.fetch, .read, .write] : List Kind),
          (part.decisionOf (cycleOf k x.1 .both 0)).cell ≠ none ∧
            (part.decisionOf (cycleOf k x.1 .both 0)).window.terms.cls = x.2) ∧
      (atWork.decisionOf (cycleOf .write 0x1C4000 .both 5)).right = some .calibrate ∧
      part.guard.cellAt (odometer.address + 2) = some 0 ∧ part.guard.cellAt (starts.address + 2) = none := by
  decide +kernel

theorem witness_PassedCyclesRequestTheirTransfer :
    let s := withSlot 0 (.opened master 0 0) part
    let c := cycleOf .write 0x1C4000 .both 5
    let f := cycleOf .write 0x180200 .low 5
    s.port.state = .idle ∧ s.PassesChecks (linesOf c) c ∧ (s.decisionOf c).outcome = .pass ∧
      s.PassesChecks (linesOf f) f ∧ (s.decisionOf f).outcome = .fillCheck := by decide +kernel

theorem witness_DeniedCyclesCompleteAtOnce :
    let c := cycleOf .write 0x1C4000 .both 5
    let f := cycleOf .fetch 0x1FFFFE .high 0
    part.port.state = .idle ∧ part.PassesChecks (linesOf c) c ∧ (part.decisionOf c).outcome = .absorb ∧
      part.PassesChecks (linesOf f) f ∧ (part.decisionOf f).outcome = .substitute := by decide +kernel

theorem witness_CounterWrites :
    let low := cycleOf .write 0x180000 .both 0xD6AF
    let part16 := cycleOf .write 0x1A0010 .both 201
    let oneLane := cycleOf .write 0x180002 .high 0
    let half := halfCell 0 odometer (live 1234567 2548640 1234500) .high 0x0012 0 part
    (∀ c ∈ [low, part16, oneLane], part.port.state = .idle ∧ part.PassesChecks (linesOf c) c ∧ c.kind = .write ∧
        (part.decided c).port.cycle = some c) ∧
      part.guard.cellAt (byteAddress low.address) = some 0 ∧ part.guard.cellAt (byteAddress part16.address) = some 2 ∧
      part.guard.cellAt (byteAddress oneLane.address) = some 0 ∧ oneLane.lanes ≠ .both ∧
      ((busyCell 0 .restore part).cell 0).op ≠ none ∧ (part.cell 0).op = none ∧
      (((readingCell 0 odometer part).decided low).port.cycle = some low ∧
        (((readingCell 0 odometer part).decided low).cell 0).live = none) ∧
      (((part.decided part16).cell 2) = cellOf starts (live 200 0 150) ∧ starts.width = .w16) ∧
      ((part.decided low).cell 0 = cellOf odometer (live 1234567 2548640 1234500) ∧ odometer.width = .w32) ∧
      (byteAddress low.address = odometer.address ∧
        ((half.decided low).cell 0).live.map LiveState.half =
          some (some { half := .high, value := 0x0012, age := 0 })) := by
  decide +kernel

theorem witness_CounterReads :
    let c := cycleOf .read 0x180000 .both 0
    let f := cycleOf .fetch 0x1A0010 .both 0
    let x : LiveState := { live 1234567 0 1234500 with half := some { half := .low, value := 0xD6AF, age := 0 } }
    let half := halfCell 0 odometer (live 1234567 0 1234500) .low 0xD6AF 0 part
    (part.port.state = .idle ∧ part.PassesChecks (linesOf c) c ∧ part.guard.cellAt (byteAddress c.address) = some 0 ∧
        (part.cell 0).live.map LiveState.half = some none) ∧
      (part.PassesChecks (linesOf f) f ∧ part.guard.cellAt (byteAddress f.address) = some 2 ∧
        (part.matchLive (byteAddress f.address)).terms.cls = .opn) ∧
      half.PassesChecks (linesOf c) c ∧ half.guard.cellAt (byteAddress c.address) = some 0 ∧
      ((half.cell 0).defn = some odometer ∧ (half.cell 0).live = some x ∧ odometer.width = .w32 ∧
        byteAddress c.address = odometer.address) ∧
      byteAddress (cycleOf .read 0x180002 .both 0).address = odometer.address + 2 := by
  refine ⟨?_, ?_, ?_, ?_, ?_, ?_⟩ <;> decide +kernel

theorem witness_ProtectedWriteNeedsItsRight :
    let s := withSlot 0 (.opened master 0 0) part
    let l := cycleLines true true 0x1C4000 true true 5
    s.port.state = .idle ∧ s.PortServed ∧ s.guard.cellAt (byteAddress l.address) = none ∧
      exec (.processorCycle l true) s = .next atWork ∧ s.mem.transfer = none ∧ s.mem.place = none ∧
      atWork.mem.transfer.map (fun t => (t.request.requester.isInternal, t.request.direction)) = some (false, .write) ∧
      (atWork.mem.transfer.bind fun t => t.request.window).map (fun w => w.terms.cls.internalWriteBarred) = some true := by
  refine ⟨?_, ?_, ?_, rfl, ?_, ?_, ?_, ?_⟩ <;> decide +kernel

/-- A processor read of a cell word and a cell's processor write, each at its last access. -/
def cellReadAt : State := carry
  { requester := .processor .cellRead, direction := .read, address := 0x180000, twoWords := false, lanes := .both
    data0 := 0, data1 := 0, window := some (part.matchLive 0x180000) }
  { part with port := { part.port with state := .active, cycle := some (cycleOf .read 0x180000 .both 0) } }

def cellWriteAt : State := carry (cellRequest starts .write 201 (.processor (.cellWrite 2)) none)
  (busyCell 2 (.evaluation .processor 201 false)
    { part with port := { part.port with state := .active, cycle := some (cycleOf .write 0x1A0010 .both 201) } })

/-- The transfers of a cell's scan read, of a processor read of a cell word and of a cell's processor write, each at its
last access; the same with the cycle abandoned, under bus reset and after it; a fill's write; and a dropped transfer. -/
theorem witness_AccessesAndTransfersEnd :
    let scan := carry (cellRequest starts .read 0 (.internal 2) none) (busyCell 2 .scanRead part)
    let fill := after (after (withSlot 2 (.opened clearOnce 0 0) part) (writeCycle 0x180200 0x1234)) (.accessEnd 0xFFFF true)
    (∀ x ∈ [(scan, Requester.internal 2), (cellReadAt, .processor .cellRead), (cellWriteAt, .processor (.cellWrite 2)),
        (fill, .processor .fillWrite)],
      x.1.mem.transfer.map (fun t => (t.request.requester, t.dropped, t.timedOut, t.remaining.length, t.canEnd)) =
        some (x.2, false, none, 1, true)) ∧
      cellReadAt.port.state = .active ∧ cellWriteAt.port.state = .active ∧ cellWriteAt.guard.waitingWrite = none ∧
      (∀ s ∈ [cellReadAt, cellWriteAt],
        let held := after s (.busResetAssert true)
        held.port.state = .resetHeld ∧ held.port.busReset = true ∧ (after held (.busResetDeassert true)).port.state = .resetHeld ∧
          (after held (.busResetDeassert true)).port.busReset = false ∧ held.mem.transfer = s.mem.transfer) ∧
      (after (after part (readCycle 0x004A20)) (.busResetAssert true)).mem.transfer.map (fun t =>
        (t.request.requester, t.dropped, t.remaining.length)) = some (.processor .pass, true, 1) := by decide +kernel

/-- A PASS at its one access, and a narrow READY PASS at its first. -/
theorem witness_AccessesAndTransfersEnd_of_a_pass :
    let two := after part (readCycle 0x200020)
    (after part (readCycle 0x004A20)).mem.transfer.map (fun t =>
        (t.request.requester, t.dropped, t.timedOut, t.remaining.length, t.window.terms.readyMode)) =
        some (.processor .pass, false, none, 1, .fixed) ∧
      two.mem.transfer.map (fun t => (t.remaining.length, t.window.terms.readyMode, t.canEnd)) = some (2, .ready, true) ∧
      part.mem.transfer = none := by
  decide +kernel

/-- A PASS read of one word in progress, in a FIXED window of a width. -/
def passRead (width : WindowWidth) (l : Lanes) : Request × MatchedWindow :=
  let w : MatchedWindow := { id := .dflt, base := 0, offset := 0, terms := { terms .opn 0 .quiet with width := width } }
  ({ requester := .processor .pass, direction := .read, address := 0x300000, twoWords := false, lanes := l
     data0 := 0, data1 := 0, window := some w }, w)

/-- A READY transfer whose ready limit comes before its base duration, and the fill check's read, undropped. -/
theorem witness_AccessesAndTransfersEnd_out_of_turn :
    let short : Request × MatchedWindow := passRead .wide16 .both
    let w : MatchedWindow := { short.2 with terms := { short.2.terms with readyMode := .ready, waitStates := 15 } }
    let t := short.1.start w true 16
    (t.window.terms.readyMode = .ready ∧ t.readyLimit < 2 + t.window.terms.waitStates.val) ∧
      (after part (writeCycle 0x180200 0x1234)).mem.transfer.map (fun t =>
        (t.request.requester, t.dropped, t.remaining.length, t.window.terms.readyMode)) =
        some (.processor .fillRead, false, 1, .fixed) := by decide +kernel

/-- The narrow READY PASS at its last access, its first ended normally or timed out. -/
theorem witness_AccessesAndTransfersEnd_of_a_narrow_pass :
    let two := after part (readCycle 0x200020)
    (after two (.accessEnd 0x003C true)).mem.transfer.map (fun t => (t.dropped, t.timedOut, t.remaining.length, t.canEnd)) =
        some (false, none, 1, true) ∧
      (after two (.accessTimeout true)).mem.transfer.map (fun t => (t.dropped, t.timedOut, t.remaining.length, t.canEnd)) =
        some (false, some 0x010020, 1, true) := by decide +kernel

theorem witness_ReadDataIsAssembledPerLane :
    ∀ x ∈ [passRead .wide16 .high, passRead .narrow8 .low, passRead .narrow8 .high, passRead .narrow8 .both],
      let s := carry x.1 part
      s.mem.transfer = some (x.1.start x.2 true 4096) ∧ s.mem.queue = [] ∧ s.mem.place = none ∧
        (∀ n : Fin 8, (s.cell n).op ≠ some (.newRead .forCycle)) ∧ x.1.requester = .processor .pass ∧ x.1.direction = .read ∧
        x.1.twoWords = false ∧ x.2.terms.readyMode = .fixed ∧
        (x.2.terms.width = .wide16 ∨ x.2.terms.width = .narrow8) := by decide +kernel

/-- A fill check at the last access of its read, with and without CLEAR held, in a READY window, and in a narrow one whose
first access timed out. -/
theorem witness_FillCheckIsJudged :
    let ready (width : WindowWidth) : State :=
      { part with
        table := { part.table with
          windows := part.table.windows.set 2
            (some { records with terms := { records.terms with readyMode := .ready, width := width } }) } }
    let c := writeCycle 0x180200 0x1234
    let timed := after (after (ready .narrow8) c) (.accessTimeout true)
    (∀ s ∈ [after (withSlot 2 (.opened clearOnce 0 0) part) c, after part c, after (ready .wide16) c, timed],
      s.mem.transfer ≠ none ∧ (∀ d ∈ s.port.cycle, d.kind = .write) ∧ s.port.cycle ≠ none ∧
        (∀ t ∈ s.mem.transfer, t.request.requester = .processor .fillRead ∧ t.dropped = false ∧
          t.request.direction = .read ∧ t.remaining.length = 1 ∧
          (t.window.terms.readyMode = .fixed ∨ 2 + t.window.terms.waitStates.val ≤ t.readyLimit)) ∧
        s.decision.record.map DecisionRecord.right = some (some .clear)) ∧
      (after (withSlot 2 (.opened clearOnce 0 0) part) c).decision.record.map DecisionRecord.held = some true ∧
      (after part c).decision.record.map DecisionRecord.held = some false ∧
      (∀ t ∈ (after part c).mem.transfer, t.timedOut = none) ∧
      (∀ t ∈ (after (ready .wide16) c).mem.transfer, t.window.terms.readyMode = .ready) ∧
      ∀ t ∈ timed.mem.transfer, t.timedOut ≠ none := by decide +kernel

/-- A PASS that waits at the arbiter behind the narrow transfer of a cycle that bus reset abandoned. -/
def behindAbandoned : State :=
  after (after (after (after part (readCycle 0x200020)) (.busResetAssert true)) (.busResetDeassert true))
    (readCycle 0x004A20)

theorem witness_BusResetAsserts :
    let pass := after part (readCycle 0x200020)
    let half := halfCell 0 odometer (live 1234567 0 1234500) .low 0xD6AF 16 part
    let behind := { pass with mem := { pass.mem with place := cellWriteAt.mem.transfer.map Transfer.request } }
    let held (s : State) : State := busyCell 1 (.newRead .forCycle) (readingCell 1 hours s)
    part.port.state ≠ .active ∧
      (pass.port.state = .active ∧
        pass.mem.transfer.map (fun t => (t.request.requester, t.dropped)) = some (.processor .pass, false)) ∧
      ((held pass).cell 1).op = some (.newRead .forCycle) ∧ ((held pass).cell 1).defn.isSome = true ∧
      (pass.cell 0).op ≠ some (.newRead .forCycle) ∧ (pass.cell 0).defn.isSome = true ∧
      (((held pass).cell 1).live = none ∧ (part.cell 7).defn = none) ∧
      (behindAbandoned.port.state = .active ∧ behindAbandoned.mem.transfer.map Transfer.dropped = some true ∧
        ((held behindAbandoned).cell 1).op = some (.newRead .forCycle)) ∧
      (cellWriteAt.port.state = .active ∧
        cellWriteAt.mem.transfer.map (fun t => t.request.requester) = some (.processor (.cellWrite 2))) ∧
      behind.mem.place.map Request.requester = some (.processor (.cellWrite 2)) ∧
      { part with port := cellWriteAt.port }.mem.transfer = none ∧
      ((half.cell 0).defn.isSome = true ∧
        (half.cell 0).live =
          some { live 1234567 0 1234500 with half := some { half := .low, value := 0xD6AF, age := 16 } }) := by
  decide +kernel

/-- R97: a new read held for a cycle that waited behind an earlier cycle's transfer is requested as bus reset abandons its
cycle; one held for a cycle whose transfer remains is requested at that transfer's end. -/
theorem test_busResetAssert_requests_held_reads :
    let held (s : State) : State := busyCell 1 (.newRead .forCycle) (readingCell 1 hours s)
    let t := after (held behindAbandoned) (.busResetAssert true)
    let u := after (held (after part (readCycle 0x004A20))) (.busResetAssert true)
    (t.cell 1).op = some (.newRead .requested) ∧ t.mem.queue = [cellRequest hours .read 0 (.internal 1) none] ∧
      (u.cell 1).op = some (.newRead .forTransfer) ∧ u.mem.queue = [] ∧
      ((after u (.accessEnd 0 true)).cell 1).op = some (.newRead .requested) := by decide +kernel

theorem witness_BusResetDeasserts :
    let held := after part (.busResetAssert true)
    let waiting := after held (readCycle 0x004A20)
    let remains := after (after part (readCycle 0x180000)) (.busResetAssert true)
    part.port.state ≠ .resetHeld ∧ (remains.port.state = .resetHeld ∧
        remains.mem.transfer.map (fun t => t.request.requester) = some (.processor .cellRead)) ∧
      (held.port.state = .resetHeld ∧ held.mem.transfer = none ∧ held.mem.place = none ∧ held.port.presented = none) ∧
      waiting.port.state = .resetHeld ∧ waiting.mem.transfer = none ∧ waiting.mem.place = none ∧
      waiting.port.presented.isSome = true := by
  decide +kernel

/-- The part with a grant that holds COUNTER-SET for every window. -/
def settable : State := withSlot 0 (.opened master 0 0) part

theorem witness_Evaluations :
    (part.cell 0 = cellOf odometer (live 1234567 2548640 1234500) ∧
        part.cell 1 = cellOf hours (live 65535 0 65500) ∧ (part.cell 0).op = none ∧ (part.cell 1).op = none) ∧
      (settable.cell 0 = part.cell 0 ∧ settable.setHeld odometer .hold = true ∧ part.setHeld odometer .hold = false) ∧
      odometer.mode = .rate 31858 64 ∧ hours.mode = .monotonic ∧
      (1234566 < 1234567 ∧ min (1234568 - 1234567) (65535 / 65536) = 0 ∧ 0 < min (1234607 - 1234567) (2548640 / 65536)) ∧
      (2548640 / 65536 < 1234607 - 1234567 ∧ 1234605 - 1234567 ≤ 2548640 / 65536) ∧
      (part.setCell 0 (cellOf odometer (live 1234567 65535 1234500))).cell 0 =
        cellOf odometer (live 1234567 65535 1234500) := by decide +kernel

theorem witness_OperationsEnd :
    (∀ o ∈ [Operation.evaluation .processor 65536 false, .evaluation .hold 0 true, .restore, .correction],
      let s := busyCell 1 o part
      (s.cell 1).defn = some hours ∧ (s.cell 1).stale = false ∧ s.guard.waitingWrite = none ∧ (s.cell 1).op = some o ∧
        (s.cell 1).live = some (live 65535 0 65500) ∧ (live 65535 0 65500).due = false) ∧
      (∀ o ∈ [Operation.scanRead, .newRead .requested],
        let s := busyCell 1 o (readingCell 1 hours part)
        (s.cell 1).defn = some hours ∧ (s.cell 1).stale = false ∧ s.guard.waitingWrite = none ∧ (s.cell 1).op = some o ∧
          (s.cell 1).live = none) := by decide +kernel

/-- Operations that end with a waiting write and a due mark; a stale one of a cell that is READING, with and without a
waiting write; and new reads, with and without a cycle at the cell's words. -/
theorem witness_OperationsEnd_after :
    let waiting (s : State) : State :=
      { s.modifyLive 1 fun v => { v with due := true } with guard := { s.guard with waitingWrite := some 1 } }
    let s := waiting (busyCell 1 .restore part)
    let stale (op : Operation) : Cell := { Cell.disabled with defn := some hours, op := some op, stale := true }
    let busy := part.decided (cycleOf .write 0x180004 .both 5)
    let passing : State :=
      { busy with decision := { busy.decision with
          record := busy.decision.record.map fun d => { d with outcome := .pass } } }
    ((s.cell 1).defn = some hours ∧ (s.cell 1).stale = false ∧ (s.cell 1).op = some .restore ∧
        s.guard.waitingWrite = some 1 ∧ ((part.cell 1).op = none ∧ part.guard.waitingWrite ≠ some 1)) ∧
      ((part.setCell 1 (stale .restore)).cell 1 = stale .restore ∧ part.guard.waitingWrite ≠ some 1 ∧
        busy.port.cycle ≠ none) ∧
      (part.cell 7).defn = none ∧ (part.cell 1).defn = some hours ∧ part.port.cycle = none ∧
      (passing.port.cycle = some (cycleOf .write 0x180004 .both 5) ∧
        passing.decision.record.map DecisionRecord.outcome = some .pass ∧
        byteAddress (cycleOf .write 0x180004 .both 5).address ∈ hours.words) := by decide +kernel

theorem witness_TicksAtACell :
    let half (age : Nat) := halfCell 1 hours (live 65535 0 65500) .low 0 age part
    (part.cell 7).defn = none ∧ (part.cell 7).live = none ∧
      (((readingCell 1 hours part).cell 1).defn ≠ none ∧ ((readingCell 1 hours part).cell 1).live = none ∧
        ((readingCell 1 hours part).cell 1).op = none) ∧
      ((busyCell 1 .restore part).cell 1).op ≠ none ∧ (part.cell 1).op = none ∧
      (part.setCell 1 (cellOf hours { live 65535 0 65500 with repair := true })).cell 1 =
        cellOf hours { live 65535 0 65500 with repair := true } ∧
      part.table.settings.holdLimit = 4 ∧ ((half 2).cell 1).op = none ∧ min (2 + 1) 16 < 4 ∧
      4 ≤ min (3 + 1) 16 ∧ 4 ≤ min (16 + 1) 16 ∧
      ((half 3).cell 1).live.map LiveState.half = some (some { half := .low, value := 0, age := 3 }) := by decide +kernel

theorem witness_IgnitionOffTakesFloors :
    let due (v : LiveState) : State := part.setCell 1 (cellOf hours { v with due := true })
    (part.ignition.guardOffs = 0 ∧ (switchedOff part).ignition.guardOffs ≠ 0) ∧
    let half (x : Word) : LiveState := { live 65535 0 65500 with half := some { half := .high, value := x, age := 0 } }
    (part.cell 7).live = none ∧ ((busyCell 0 .restore part).cell 0).op ≠ none ∧ (part.cell 0).op = none ∧
      (part.cell 0).live = some (live 1234567 2548640 1234500) ∧ (1234500 : Nat) ≠ 1234567 ∧
      (∀ v ∈ [live 65535 0 65500, half 1, half 0],
        ((due v).cell 1).live = some { v with due := true } ∧ ((due v).cell 1).op = none ∧ ((due v).cell 1).defn ≠ none) ∧
      ((State.evaluate 1 .ignition 131071 (due (half 1))).cell 1).op ≠ none ∧
      ((State.evaluate 1 .ignition 65535 (due (half 0))).cell 1).op = none := by decide +kernel

/-! ### The staged copy -/

theorem witness_StagingCommands :
    (∀ (b : Byte) (p : List Byte), (hearing b p part).Message b p) ∧ (counterAt 0x04 0x80 0x1C).length = 17 ∧
      part.configureAuthority acting = none ∧ (adding .empty).configureAuthority (counterAt 0x04 0x80 0x1C) = some (some 1) ∧
      (adding .empty).table.apply = .idle ∧ applying.table.apply ≠ .idle ∧ applying.configureAuthority acting ≠ none ∧
      State.reset.store.held.provisionedMark ≠ some true ∧ part.store.held.provisionedMark = some true := by
  refine ⟨fun b p => hearing_message b p part, ?_, ?_, ?_, ?_, ?_, ?_, ?_, ?_⟩ <;> decide +kernel

/-- The ranges of STAGE CELL: all hold for a RATE or MONOTONIC cell or a disabled one, and each bound just missed. -/
theorem witness_StagingCommands_cells :
    let cell (index enabled width low mode rate cap : Byte) : List Byte :=
      acting ++ [index, enabled, width, low, 0x80, 0x1C, mode, rate, 0, 0, cap, 0]
    let holds (p : List Byte) : Prop :=
      fieldAt p 6 1 ≤ 7 ∧ fieldAt p 7 1 ≤ 1 ∧ (fieldAt p 8 1 = 16 ∨ fieldAt p 8 1 = 32) ∧
        (if fieldAt p 8 1 = 16 then 2 else 4) ∣ fieldAt p 9 3 ∧ fieldAt p 12 1 ≤ 1 ∧
        (fieldAt p 12 1 = 1 → 1 ≤ fieldAt p 13 3 ∧ 1 ≤ fieldAt p 16 2)
    holds (cell 7 1 32 4 1 1 1) ∧ holds (cell 0 1 16 2 0 0 0) ∧ fieldAt (cell 7 0 0 0 9 0 0) 7 1 = 0 ∧
      ¬ fieldAt (cell 8 1 32 4 1 1 1) 6 1 ≤ 7 ∧ ¬ fieldAt (cell 7 2 32 4 1 1 1) 7 1 ≤ 1 ∧ ¬ 4 ∣ fieldAt (cell 7 1 32 2 1 1 1) 9 3 ∧
      ¬ fieldAt (cell 7 1 32 4 2 1 1) 12 1 ≤ 1 ∧ ¬ 1 ≤ fieldAt (cell 7 1 32 4 1 0 1) 13 3 := by decide +kernel

/-- The ranges of STAGE WINDOW at their bounds: the whole address space, a window at its top, the default window. -/
theorem witness_StagingCommands_windows :
    let window (index enabled : Byte) (base size offset : Nat) : List Byte :=
      acting ++ [index, enabled] ++ toLe 3 base ++ toLe 4 size ++ [4, 5] ++ toLe 3 offset ++ [2, 15, 1, 1]
    let holds (p : List Byte) (k : Nat) : Prop :=
      fieldAt p 6 1 ≤ 7 ∧ fieldAt p 7 1 = 1 ∧ fieldAt p 11 4 ∣ fieldAt p 8 3 ∧ (8 ≤ k ∧ k ≤ 24 ∧ fieldAt p 11 4 = 2 ^ k) ∧
        fieldAt p 15 1 ≤ 4 ∧ fieldAt p 16 1 ≤ 5 ∧ 256 ∣ fieldAt p 17 3 ∧ fieldAt p 17 3 + fieldAt p 11 4 ≤ 16777216 ∧
        fieldAt p 20 1 ≤ 2 ∧ fieldAt p 21 1 ≤ 15 ∧ fieldAt p 22 1 ≤ 1 ∧ fieldAt p 23 1 ≤ 1
    (window 0 1 0 16777216 0).length = 23 ∧ holds (window 0 1 0 16777216 0) 24 ∧ holds (window 7 1 0xFFFF00 256 0xFFFF00) 8 ∧
      fieldAt (window 8 9 1 1 1) 6 1 = 8 ∧ fieldAt (window 0 0 1 1 1) 7 1 = 0 ∧ ¬ 512 ∣ fieldAt (window 0 1 0x100 512 0) 8 3 ∧
      ¬ fieldAt (window 0 1 0 512 0xFFFF00) 17 3 + 512 ≤ 16777216 := by decide +kernel

/-- The ranges of STAGE SETTINGS hold for the defaults. -/
theorem witness_StagingCommands_settings :
    let p : List Byte := acting ++ Layout.bytes (Layout.settings Settings.unprovisioned)
    p.length = 19 ∧ (1 ≤ fieldAt p 6 1 ∧ fieldAt p 6 1 ≤ 254) ∧ fieldAt p 7 2 ≤ 1023 ∧ fieldAt p 9 1 ≤ 2 ∧
      (1 ≤ fieldAt p 10 1 ∧ fieldAt p 10 1 ≤ 2) ∧ 1 ≤ fieldAt p 11 1 ∧ (1 ≤ fieldAt p 13 2 ∧ fieldAt p 13 2 ≤ 3600) ∧
      16 ≤ fieldAt p 15 2 ∧ (1 ≤ fieldAt p 17 1 ∧ fieldAt p 17 1 ≤ 16) ∧ fieldAt p 18 1 ≤ 1 ∧ fieldAt p 19 1 ≤ 1 := by
  decide +kernel

theorem witness_ApplyStagedCommand :
    (∀ s : State, (hearing 0x34 acting s).Message 0x34 acting) ∧ acting.length = 5 ∧
      part.configureAuthority acting = none ∧ (adding .empty).configureAuthority acting = some (some 1) ∧
      (adding .empty).table.staged.writes = [] ∧ bothStaged.writes ≠ [] ∧ applying.table.apply ≠ .idle ∧
      (adding (stagedCell 0x1C8004)).checkWouldBe = some (1, .window (.numbered 3)) ∧
      (adding (stagedCell 0x180000)).checkWouldBe = some (1, .overlap 0) ∧ (adding bothStaged).checkWouldBe = none := by
  refine ⟨fun s => hearing_message 0x34 acting s, ?_, ?_, ?_, ?_, ?_, ?_, ?_, ?_, ?_⟩ <;> decide +kernel

theorem witness_WouldBeTableIsChecked :
    let t := part.table
    let cells (a : Addr) : Vector (Option CellDef) 8 :=
      #v[some odometer, some (monotonicAt a), none, none, none, none, none, none]
    checkTable t.windows t.dflt (cells 0x180004) = none ∧
      checkTable t.windows t.dflt (cells 0x1C8004) = some (1, .window (.numbered 3)) ∧
      checkTable t.windows t.dflt (cells 0x180000) = some (1, .overlap 0) := by decide +kernel

/-- A tick that finds a PENDING apply and one that finds none; an apply with an entry of each kind; and one that makes the
divisor 0 on a link at rest, within a frame received, within a frame sent and before a reply's first frame. -/
theorem witness_ApplyTick :
    let off : Settings := { Settings.unprovisioned with divisor := 0 }
    let pending (l : Link) : State :=
      { applying with link := l, table := { applying.table with staged := { bothStaged with settings := some off } } }
    let f : ReplyFrame := { mark := true, data := 0 }
    part.table.apply ≠ .pending ∧ applying.table.apply = .pending ∧
      ({ bothStaged with dflt := some part.table.dflt, settings := some off } : Staged).writes.length = 4 ∧
      (∀ l : Link, (pending l).table.apply = .pending ∧ (pending l).table.staged.settings = some off) ∧
      (part.link.receiver ≠ .off ∧ part.link.line.busy = false ∧ part.link.sending = false) ∧
      (started part).link.line.busy = true ∧
      (sendingReply (.sending f part.table.settings.framing 7) [] false).link.sending = true ∧
      ((sendingReply (.lead 9) [f] false).link.sending = false ∧
        (sendingReply (.lead 9) [f] false).link.receiver = .replying) := by
  refine ⟨by decide, by decide, by decide, fun l => ⟨rfl, rfl⟩, by decide, by decide, by decide, by decide⟩

/-- A change of each kind, of a cell with a pending half, of one with an operation in flight and of one whose write
waits. -/
theorem witness_ChangedCells :
    (odometer.address ≠ hours.address ∧ odometer.mode ≠ hours.mode ∧
        odometer.address = (monotonicAt 0x180000).address ∧ odometer.width = (monotonicAt 0x180000).width ∧
        odometer.mode ≠ (monotonicAt 0x180000).mode) ∧
      (part.cell 0).live = some (live 1234567 2548640 1234500) ∧ ((readingCell 0 odometer part).cell 0).live = none := by
  decide +kernel

/-- R101, R103: a cell MOVED during its new read is READING with a NEW-READ in flight; one MOVED during a restore has
none of the reads. -/
theorem test_readCell_of_a_moved_cell :
    let moved (o : Operation) : State := (busyCell 1 o part).changeCell 1 (some hours) (some starts)
    let bytes (o : Operation) := (replied (after (hearing 0x28 [1] (moved o)) .readCell)).map fun p => (p.drop 13).take 2
    bytes (.newRead .requested) = some [1, 2] ∧ bytes .restore = some [1, 0] := by decide +kernel

/-- R100, R101: a REMOVED cell's pending half is torn, its waiting write completes absorbed, its restore runs on as a stale
one, and its floor item is queued as cleared. -/
theorem test_changeCell_removed :
    let half : PendingHalf := { half := .high, value := 0x12, age := 2 }
    let s := (part.decided (cycleOf .write 0x180004 .both 5)).setCell 1
      { cellOf hours { live 65535 0 65500 with half := some half, due := true } with op := some .restore }
    let t := { s with guard := { s.guard with waitingWrite := some 1 } }.changeCell 1 (some hours) none
    ((t.cell 1).live, (t.cell 1).op, (t.cell 1).stale) = (none, some .restore, true) ∧
      (t.guard.waitingWrite, t.port.state) = (none, .idle) ∧ t.store.queue = [.logMark true, .floor 1 none] ∧
      t.log.records.map (fun r => (r.report.kind, r.report.reason, r.report.address, r.report.valueA)) =
        [(.halfTorn, some .apply, some 0x180006, some 0x12)] := by decide +kernel

/-! ### Grants -/

theorem witness_ChargesAndCloses :
    (∀ x ∈ [(none : Option Nat), some 65535, some 2, some 1],
      (withSlot 0 (.opened { master with allowance := x } 65535 0) part).grants.slots[(0 : Fin 4)] =
        .opened { master with allowance := x } 65535 0) ∧
      part.grants.slots[(0 : Fin 4)] = .free := by decide +kernel

theorem witness_RequestGrantCommand :
    let p := calibrationRequest
    (∀ s : State, (hearing 0x10 p s).Message 0x10 p) ∧ p.length = 13 ∧ State.reset.provisioned = false ∧
      sessionPart.provisioned = true ∧ sessionPart.decision.lockdown = false ∧ sessionPart.grants.backoff = 0 ∧
      sessionPart.grants.slots[(0 : Fin 4)] = .free ∧
      ∀ i : Fin 4, ({ GrantTable.mk #v[.opened master 0 0, .opened master 0 0, .opened master 0 0, .opened master 0 0] 0 0 0 0
        with backoff := 0 } : GrantTable).slots[i] ≠ .free := by
  refine ⟨fun s => hearing_message 0x10 calibrationRequest s, ?_, ?_, ?_, ?_, ?_, ?_, ?_⟩ <;> decide +kernel

/-- The ranges of REQUEST GRANT hold, at either end, and each is just missed. -/
theorem witness_RequestGrantCommand_ranges :
    let p (level rights low high life : Byte) : List Byte := [1, 0, 0, 0, level, rights, low, high, life, 0, 0, 0, 1]
    let holds (p : List Byte) : Prop :=
      fieldAt p 1 4 ≠ 0 ∧ (1 ≤ fieldAt p 5 1 ∧ fieldAt p 5 1 ≤ 3) ∧ fieldAt p 6 1 ≤ 63 ∧
        (1 ≤ fieldAt p 7 2 ∧ fieldAt p 7 2 ≤ 511) ∧ (1 ≤ fieldAt p 9 2 ∧ fieldAt p 9 2 ≤ 7200) ∧ fieldAt p 13 1 ≤ 1
    holds (p 1 0 1 0 1) ∧ holds (p 3 63 255 1 255) ∧ holds calibrationRequest ∧ fieldAt calibrationRequest 5 1 ≠ 3 ∧
      fieldAt (p 3 63 255 1 255) 5 1 = 3 ∧ ¬ fieldAt (p 4 0 1 0 1) 5 1 ≤ 3 ∧ ¬ fieldAt (p 1 64 1 0 1) 6 1 ≤ 63 ∧
      ¬ fieldAt (p 1 0 0 2 1) 7 2 ≤ 511 ∧ ¬ 1 ≤ fieldAt (p 1 0 1 0 0) 9 2 := by decide +kernel

theorem witness_ProofsAreSettled :
    let p : List Byte := 0 :: zeros 16
    (∀ s : State, (hearing 0x11 p s).Message 0x11 p) ∧ p.length = 17 ∧ fieldAt p 1 1 = 0 ∧ 4 ≤ fieldAt (p.set 0 4) 1 1 ∧
      part.grants.slots[(0 : Fin 4)] = .free ∧
      (∀ b : Bool, ∃ e, (proving b).engine = some e ∧ (proving b).link.execution = some .proving ∧
        (proving b).grants.slots[e.slot] = .challenged calibration e.challenge 0 ∧
        ((Sha256.hmac e.key e.message).take 16 = e.received ↔ b = true)) := by
  refine ⟨fun s => hearing_message _ _ s, by decide, by decide, by decide, by decide, fun b => ⟨_, rfl, rfl, rfl, ?_⟩⟩
  cases b <;> decide +kernel

theorem witness_CloseGrantCommand :
    let p : List Byte := [3, 7, 0, 0, 0]
    let s := withSlot 3 (.opened master 0 0) part
    (∀ s : State, (hearing 0x12 p s).Message 0x12 p) ∧ p.length = 5 ∧ fieldAt p 1 1 = 3 ∧ 4 ≤ fieldAt (p.set 0 4) 1 1 ∧
      part.grants.slots[(3 : Fin 4)] = .free ∧ (s.grants.slots[(3 : Fin 4)]).grant? = some master ∧
      master.toolId = BitVec.ofNat 32 (fieldAt p 2 4) ∧ master.toolId ≠ BitVec.ofNat 32 (fieldAt (p.set 1 8) 2 4) := by
  refine ⟨fun s => hearing_message _ _ s, ?_, ?_, ?_, ?_, ?_, ?_, ?_⟩ <;> decide +kernel

theorem witness_SecondsOfTheGrantTable :
    let challenged := withSlot 1 (.challenged master { counter := 1, clock := 2 } 29) part
    challenged.grants.slots[(1 : Fin 4)] = .challenged master { counter := 1, clock := 2 } 29 ∧
      (withSlot 2 (.opened clearOnce 0 0) part).grants.slots[(2 : Fin 4)] = .opened clearOnce 0 0 ∧
      clearOnce.lifetime = 1 ∧ 1 < master.lifetime ∧ part.grants.slots[(0 : Fin 4)] = .free := by decide +kernel

theorem witness_IgnitionOffFreesSlots :
    let s := withSlot 0 (.opened { master with survive := true } 0 0) (withSlot 1 (.opened master 0 0) part)
    (s.grants.slots[(0 : Fin 4)]).grant? = some { master with survive := true } ∧
      (s.grants.slots[(1 : Fin 4)]).grant? = some master ∧ (s.grants.slots[(2 : Fin 4)]).grant? = none ∧
      s.ignition.grantOffs = 0 ∧ (switchedOff s).ignition.grantOffs ≠ 0 := by decide +kernel

theorem witness_ActingGrantsUnlockAndReset :
    (∀ s : State, (hearing 0x41 acting s).Message 0x41 acting ∧ (hearing 0x40 acting s).Message 0x40 acting) ∧
      acting.length = 5 ∧ part.actingGrant (.read acting) = none ∧
      (configuring part).actingGrant (.read acting) = some (1, master) ∧ master.level = .three ∧
      (withSlot 1 (.opened { master with level := .one } 0 0) part).actingGrant (.read acting) =
        some (1, { master with level := .one }) ∧
      part.decision.lockdown = false ∧
      (let s := configuring { part with decision := { part.decision with lockdown := true } }
       s.decision.lockdown = true ∧ s.actingGrant (.read acting) = some (1, master)) := by
  refine ⟨fun s => ⟨hearing_message _ _ s, hearing_message _ _ s⟩, ?_, ?_, ?_, ?_, ?_, ?_, ?_⟩ <;> decide +kernel

theorem witness_ScoreIncrement :
    let enters (s : State) (n : Nat) : Prop := s.decision.lockdown = false ∧ s.table.settings.lockdownThreshold ≠ 0 ∧
      s.table.settings.lockdownThreshold ≤ min (s.decision.score + n) 255
    enters (watched 7) 1 ∧ ¬ enters (watched 6) 1 ∧ enters (watched 255) 8 := by decide +kernel

theorem witness_DecaySteps :
    part.table.settings.decayInterval = 60 ∧ 58 + 1 < 60 ∧ 60 ≤ 59 + 1 ∧ part.decision.decayCount = 0 := by decide

/-! ### The link -/

theorem witness_FrameArrivals :
    let fr := part.table.settings.framing
    let f : FrameBits := { data := 17, mark := true, parity := true, stop1 := true, stop2 := true }
    let g (d : Byte) (p : Bool) : FrameBits := { f with data := d, mark := false, parity := p }
    let opened := started (after (started part) (.frameArrival f))
    let due : State := { started part with link := { (started part).link with offDue := true } }
    State.reset.link.receiver = .off ∧ part.link.line.busy = false ∧
      ((started part).link.receiver = .listening ∧ (started part).link.line = .inFrame fr ∧
        (started part).link.offDue = false) ∧
      (frameResult fr f = .good ∧ f.data = part.table.settings.nodeAddress) ∧
      frameResult fr { f with data := 255, parity := true } = .good ∧ frameResult fr { f with parity := false } ≠ .good ∧
      (opened.link.receiver = .receiving ∧ opened.link.line = .inFrame fr ∧
        opened.link.buffer.map MessageBuffer.length = some none ∧
        frameResult fr (g 2 true) = .good ∧ frameResult fr (g 62 true) = .good ∧
        frameResult fr (g 1 true) = .good ∧ frameResult fr (g 63 false) = .good) ∧
      ((after opened (.frameArrival (g 2 true))).link.buffer.map fun m => (m.length, m.taken)) = some (some 2, 0) ∧
      (started (hearing 1 [] part)).link.receiver = .executing ∧
      (due.link.offDue = true ∧ due.link.receiver ≠ .off ∧ due.link.line.busy = true) := by decide +kernel

/-- Its second clause: the same arrival without the divisor made 0 changes the link only. -/
theorem witness_FrameArrivals_going_off (f : FrameBits) :
    ∃ l : Link, exec (.frameArrival f) (started part) = .next { started part with link := l } := ⟨_, rfl⟩

theorem witness_LinkEvents :
    let due (s : State) : State := { s with link := { s.link with offDue := true } }
    let waiting : State := { part with link := { part.link with line := .waitingHigh } }
    let sending := sendingReply (.sending { mark := true, data := 0 } part.table.settings.framing 7) []
    (part.link.receiver ≠ .off ∧ part.link.sending = false ∧ part.link.line = .watching) ∧
      (waiting.link.receiver ≠ .off ∧ waiting.link.sending = false ∧ waiting.link.line = .waitingHigh) ∧
      State.reset.link.receiver = .off ∧ (sending false).link.sending = true ∧ (started part).link.line.busy = true ∧
      ((incoming 640000 .watching).link.receiver = .receiving ∧ (incoming 640000 .watching).link.line.busy = false) ∧
      ((due part).link.offDue = true ∧ (due part).link.line.busy = false ∧ part.link.offDue = false) ∧
      part.link.receiver ≠ .replying ∧
      (∀ off ∈ [true, false], (sending off).link.receiver = .replying ∧ (sending off).link.offDue = off) := by
  decide +kernel

theorem witness_MessagesRefusedByTheLink :
    let wrong : MessageBuffer := { message 0x20 [0] with check := some 0 }
    let waiting (m : MessageBuffer) : State :=
      { part with link := { part.link with receiver := .executing, buffer := some m, execution := some .handOver } }
    ((waiting wrong).message = some wrong ∧ wrong.command = some 0x20 ∧ wrong.sumIsZero = false) ∧
      ((message 0x20 []).sumIsZero = true ∧ (message 0x20 []).payload.length ≠ 1) ∧
      ((message 0x99 []).command = some 0x99 ∧ (message 0x99 []).sumIsZero = true) ∧
      ({ part.link with execution := some (.lengthError 1) } : Link).execution = some (.lengthError 1) := by decide +kernel

theorem witness_CommandsComplete :
    let fr := part.table.settings.framing
    let f : ReplyFrame := { mark := true, data := 0 }
    ((hearing 1 [] part).link.buffer = some (message 1 []) ∧ (hearing 1 [] part).link.receiver ≠ .off ∧
        (message 1 []).addressedAs = .node ∧
        ({ message 1 [] with addressedAs := .all } : MessageBuffer).addressedAs = .all) ∧
      (fr.parityMode ≠ .none ∧ ({ fr with parityMode := .none } : Framing).parityMode = .none) ∧ part.link.sending = false ∧
      ∀ elapsed ∈ [11 * 1664, 12 * 1664 - 1],
        (sendingReply (.sending f fr elapsed) [] false).link.reply =
            some { transmission := .sending f fr elapsed, waiting := [] } ∧
          16 * fr.divisor * 11 ≤ elapsed ∧ elapsed < 16 * fr.divisor * (11 + 1) ∧ 11 < (f.bits fr).length := by
  decide +kernel

theorem witness_ReportingCommands :
    (∀ (b : Byte) (p : List Byte) (s : State), (hearing b p s).Message b p) ∧
      (fieldAt [63] 1 1 ≤ 63 ∧ 63 < fieldAt [64] 1 1) ∧ (fieldAt [7] 1 1 = 7 ∧ 7 < fieldAt [8] 1 1) ∧
      (fieldAt [1, 17] 1 1 = 1 ∧ fieldAt [1, 17] 2 1 = 17) ∧ (fieldAt [0, 7] 1 1 = 0 ∧ fieldAt [0, 7] 2 1 = 7) ∧
      fieldAt [0, 8] 2 1 = 8 ∧ fieldAt [0, 16] 2 1 = 9 + 7 ∧ 1 < fieldAt [2, 0] 1 1 ∧ 17 < fieldAt [1, 18] 2 1 := by
  refine ⟨fun b p s => hearing_message b p s, ?_⟩; decide

/-! ### Outputs, ignition, log, store -/

theorem witness_LampsAreEvaluated :
    State.reset.out.started = false ∧ part.out.started = true ∧ (1 : Fin 32) = part.time.nextLampStep ∧
      (2 : Fin 32) ≠ part.time.nextLampStep ∧
      ((switchedOff part).ignition.mirrorEvents = [false] ∧
        (switchedOff part).ignition.mirrorEvents.head? ≠ some true) ∧
      (part.out.scoreMirror = part.decision.score ∧ part.out.lockdownMirror = part.decision.lockdown ∧
        part.out.alarmMirror = part.log.alarm) ∧
      (part.out.scoreMirror ≠ part.decision.score + 1 ∧ part.out.lockdownMirror ≠ !part.decision.lockdown ∧
        part.out.alarmMirror ≠ !part.log.alarm) := by decide +kernel

/-- R185, R187: a score report lights the tamper lamp at once, without a lamp step. -/
theorem test_score_report_evaluates :
    let t := State.reportScore { part with decision := { part.decision with score := 200 } }
    (part.table.settings.alertThreshold ≤ 200 ∧ part.out.tamperLamp.pattern = .off) ∧
      t.out.tamperLamp.pattern = .slow ∧ t.out.tamperLamp.lit = true := by decide +kernel

theorem witness_PulseChannels :
    Channel.quiet.phase = .idle ∧ 62 + 1 < 64 ∧ 64 ≤ 63 + 1 ∧
      ({ phase := .driving, count := 63, held := false } : Channel).phase = .driving ∧
      ({ phase := .gap, count := 63, held := true } : Channel).phase = .gap := by decide

theorem witness_IgnitionSampleIsFiltered :
    (part.ignition.history.length < 4 ∧ [true, false, false, false].tail.length = 3 ∧
        (after { part with ignition := { part.ignition with history := [true, true, true] } }
          (.ignitionSample true)).ignition.history = [true, true, true, true]) ∧
      (∀ a ∈ [0, 127, 1023, 4095, 32767], ({ part.time with periodCount := a } : Timebase).periodCount ≤ 32767) ∧
      (1024 * (31 : Fin 32).val = 31743 + 1 ∧ 4096 * (7 : Fin 8).val = 28671 + 1 ∧ ¬ 128 ∣ 1) ∧
      (part.time.samples = 0 ∧ part.time.lampSteps = [] ∧ part.time.guardTicks = [] ∧ part.time.tableTicks = [] ∧
        part.time.grantSeconds = 0 ∧ part.time.decisionSeconds = 0) ∧
      ({ part.time with periodCount := 32767 } : Timebase).period =
        { periodCount := 0, seconds := 1, samples := 1, lampSteps := [0], guardTicks := [0], tableTicks := [0]
          grantSeconds := 1, decisionSeconds := 1 } := by decide +kernel

theorem witness_LogTakesARecord :
    let rank (k : RecordKind) : Nat := (Layout.kindCode k).2
    (pressed.log.records.length = 64 ∧ pressed.log.nextSeq ≤ 0xFFFFFFFF) ∧
      pressed.log.records = fullLog.take 29 ++ recordOf .grantOpened (some (.slot 0)) 230 :: fullLog.drop 30 ∧
      (∀ x ∈ fullLog, rank .grantOpened ≤ rank x.report.kind) ∧
      (∀ x ∈ fullLog.take 29, rank x.report.kind ≠ rank .grantOpened) ∧ rank .grantOpened ≤ rank .unlock ∧
      rank .grantOpened < rank .writeDenied ∧
      (threeRecords.log.records.length < 64 ∧ threeRecords.log.nextSeq ≤ 0xFFFFFFFF) ∧
      (RecordKind.writeDenied ∈ [RecordKind.writeDenied, .fetchDenied] ∧
        threeRecords.log.records.getLast?.map (fun r => r.report.kind) = some .writeDenied) ∧
      0xFFFFFFFF < ({ threeRecords.log with nextSeq := 4294967296 } : Log).nextSeq := by decide +kernel

theorem witness_ReleaseLogCommand :
    let p := acting ++ [64]
    (∀ s : State, (hearing 0x21 p s).Message 0x21 p) ∧ p.length = 6 ∧
      threeRecords.actingGrant (.read p) = some (1, master) ∧ master.hasRight .clear = true ∧
      ({ master with rights := 0b111110 } : Grant).hasRight .clear = false ∧ fieldAt p 6 1 = 64 ∧
      fieldAt (p.set 5 0) 6 1 = 0 ∧ 64 < fieldAt (p.set 5 65) 6 1 ∧ threeRecords.log.records.length ≤ 64 ∧
      threeRecords.log.nextSeq ≤ 0xFFFFFFFF := by
  refine ⟨fun s => hearing_message _ _ s, ?_, ?_, ?_, ?_, ?_, ?_, ?_, ?_, ?_⟩ <;> decide +kernel

theorem witness_StoreWrites :
    let st := part.store
    ({ st with inFlight := none } : Store).queue = [] ∧ st.inFlight = some (.powerOnCount 1) ∧
      (∀ x ∈ st.queue, x.item ≠ .lockdownMark) ∧
      (([ItemWrite.logMark true, .lockdownMark true] : List ItemWrite) = [.logMark true] ++ .lockdownMark true :: [] ∧
        (ItemWrite.lockdownMark true).item = (ItemWrite.lockdownMark false).item ∧
        (ItemWrite.logMark true).item ≠ (ItemWrite.lockdownMark false).item) ∧
      (after applying (.applyTick true)).table.apply = .storing := by decide +kernel

/-- A provisioned non-volatile memory with a cell that passes the load check, one that overlaps it and a set mark. -/
def provisionedItems : Items :=
  { Items.blank with
    provisionedMark := some true, logMark := some true, failedCount := some 255
    windows := #v[some (some code), some (some priv4k), some (some records), some (some calib), none, none, none, none]
    cells := #v[some (some odometer), some (some (monotonicAt 0x180000)), some (some starts), none, none, none, none, none]
    floors := #v[some 1234605, none, some 70000, none, none, none, none, none] }

theorem witness_StoreLoadEnds :
    let s := State.fresh provisionedItems false false none
    let m := (s.store.inFlight.toList ++ s.store.queue).foldl Items.write s.store.stored.loaded
    part.start.phase ≠ .loading ∧ s.start.phase = .loading ∧ m.provisionedMark = some true ∧ m.logMark = some true ∧
      s.log.records = [] ∧ s.log.nextSeq = 1 ∧ s.OutputLaw ∧ s.out.started = false ∧ s.out.LampsDark ∧
      State.reset.start.phase = .loading ∧ State.reset.OutputLaw ∧ State.reset.store.stored.logMark ≠ some true ∧
      State.reset.store.stored.provisionedMark ≠ some true ∧
      ((after s (.storeLoadEnd true)).cell 0).defn = some odometer ∧
      ((after s (.storeLoadEnd true)).cell 1).defn = none ∧
      ((after s (.storeLoadEnd true)).cell 2).loadedFloor = some 65535 := by decide +kernel

theorem witness_ScanEndOpensThePart :
    let s := after State.reset (.storeLoadEnd true)
    part.start.phase ≠ .scanning ∧ s.start.phase = .scanning ∧ s.port.busReset = false ∧ s.port.presented = none ∧
      (∀ n : Fin 8, ∀ d ∈ (s.cell n).defn, (s.cell n).live.isSome = true ∧ d.address = 0 ∧ (s.cell n).op = none) ∧
      (after s (readCycle 0x004A20)).port.presented.isSome = true ∧ (after s (.busResetAssert true)).port.busReset = true := by
  decide +kernel

theorem witness_ProvisioningCommands :
    (∀ (b : Byte) (p : List Byte) (s : State), (hearing b p s).Message b p) ∧
      part.store.held.provisionedMark = some true ∧ State.reset.store.held.provisionedMark ≠ some true ∧
      (fieldAt (3 :: zeros 32) 1 1 = Layout.levelCode .three ∧ 3 < fieldAt (4 :: zeros 32) 1 1 ∧ fieldAt (zeros 33) 1 1 = 0) ∧
      (bytesAt (zeros 9) 1 8 = zeros 8 ∧ bytesAt (1 :: zeros 7 ++ [254]) 1 8 ≠ zeros 8 ∧
        fieldAt (1 :: zeros 7 ++ [254]) 9 1 = 254 ∧ fieldAt (1 :: zeros 7 ++ [255]) 9 1 = 255) ∧
      State.reset.store.held.keys[Level.index .one] = none ∧ part.store.held.keys[Level.index .two] ≠ none := by
  refine ⟨fun b p s => hearing_message b p s, ?_, ?_, ?_, ?_, ?_, ?_⟩ <;> decide +kernel

end Sys2Proof.Tests
end

section
namespace Sys2Proof.Machine

/-! ## What the law of the ports reads -/

/-- What the law of the ports and of the arbiter reads of a cell. -/
def Cell.traffic (c : Cell) : Option CellDef × Option Operation × Bool × Bool := (c.defn, c.op, c.stale, c.live.isSome)

/-- The second state stands to the law of the ports as the first: the same traffic, with no slot filled and no cell
enabled before start-up allows it. -/
structure State.SameTraffic (s t : State) : Prop where
  start : t.start = s.start
  port : t.port = s.port
  mem : t.mem = s.mem
  waiting : t.guard.waitingWrite = s.guard.waitingWrite
  outcome : t.outcome? = s.outcome?
  cell : ∀ n, (t.cell n).traffic = (s.cell n).traffic
  startUp : s.StartUpLaw → t.StartUpLaw
  loading : s.LoadingLaw → t.LoadingLaw

namespace State.SameTraffic

variable {s t u : State}

theorem refl (s : State) : s.SameTraffic s := ⟨rfl, rfl, rfl, rfl, rfl, fun _ => rfl, id, id⟩

theorem trans (h : s.SameTraffic t) (k : t.SameTraffic u) : s.SameTraffic u where
  start := k.start.trans h.start
  port := k.port.trans h.port
  mem := k.mem.trans h.mem
  waiting := k.waiting.trans h.waiting
  outcome := k.outcome.trans h.outcome
  cell n := (k.cell n).trans (h.cell n)
  startUp := k.startUp ∘ h.startUp
  loading := k.loading ∘ h.loading

theorem defn (h : s.SameTraffic t) (n : Fin 8) : (t.cell n).defn = (s.cell n).defn := congrArg (·.1) (h.cell n)
theorem op (h : s.SameTraffic t) (n : Fin 8) : (t.cell n).op = (s.cell n).op := congrArg (·.2.1) (h.cell n)
theorem stale (h : s.SameTraffic t) (n : Fin 8) : (t.cell n).stale = (s.cell n).stale :=
  congrArg (·.2.2.1) (h.cell n)
theorem live (h : s.SameTraffic t) (n : Fin 8) : (t.cell n).live.isSome = (s.cell n).live.isSome :=
  congrArg (·.2.2.2) (h.cell n)

/-- An operation that leaves these blocks as they are, and fills no slot, leaves the traffic as it is. -/
theorem of_blocks (start : t.start = s.start) (port : t.port = s.port) (mem : t.mem = s.mem) (guard : t.guard = s.guard)
    (outcome : t.outcome? = s.outcome?) (link : t.link = s.link) (apply : t.table.apply = s.table.apply)
    (free : ∀ i : Fin 4, s.grants.slots[i] = .free → t.grants.slots[i] = .free) : s.SameTraffic t where
  start := start
  port := port
  mem := mem
  waiting := by rw [guard]
  outcome := outcome
  cell n := by rw [State.cell, guard, State.cell]
  startUp h p := by
    obtain ⟨hfree, hoff, hnone⟩ := h (start ▸ p)
    exact ⟨fun i => free i (hfree i), link ▸ hoff, link ▸ hnone⟩
  loading h p := by
    obtain ⟨hmem, hcell, happly⟩ := h (start ▸ p)
    exact ⟨mem ▸ hmem, fun n => by rw [State.cell, guard]; exact hcell n, apply ▸ happly⟩

end State.SameTraffic

/-! ## Operations that leave the traffic as it is -/

theorem State.outcome?_congr {s t : State} (h : t.decision = s.decision) : t.outcome? = s.outcome? := by
  rw [State.outcome?, h, State.outcome?]

/-- A charge grant that is forgotten leaves the outcome. -/
theorem DecisionRecord.forget_outcome (i : Fin 4) (d : DecisionRecord) : (d.forget i).outcome = d.outcome := by
  unfold DecisionRecord.forget
  split <;> rfl

@[simp] theorem State.forgetCharge_outcome? (i : Fin 4) (s : State) : (s.forgetCharge i).outcome? = s.outcome? := by
  simp only [State.outcome?, State.forgetCharge, Option.map_map]
  exact congrArg (Option.map · _) (funext (DecisionRecord.forget_outcome i))

theorem State.sameTraffic_takeRecord (r : Report) (s : State) : s.SameTraffic (s.takeRecord r) :=
  .of_blocks (by simp) (by simp) (by simp) (by simp) (outcome?_congr (by simp)) (by simp) (by simp) (by simp)

theorem State.sameTraffic_alertCause (s : State) : s.SameTraffic s.alertCause :=
  .of_blocks rfl rfl rfl rfl rfl rfl rfl fun _ => id

theorem State.sameTraffic_resetRequestCause (s : State) : s.SameTraffic s.resetRequestCause :=
  .of_blocks rfl rfl rfl rfl rfl rfl rfl fun _ => id

theorem State.sameTraffic_queueItem (w : ItemWrite) (s : State) : s.SameTraffic (s.queueItem w) :=
  .of_blocks rfl rfl rfl rfl rfl rfl rfl fun _ => id

/-- A slot that becomes FREE, or takes another content where it was not FREE, fills no slot. -/
theorem State.sameTraffic_setSlot {i : Fin 4} {x : Slot} {s : State} (h : x = .free ∨ s.grants.slots[i] ≠ .free) :
    s.SameTraffic (s.setSlot i x) := by
  refine .of_blocks rfl rfl rfl rfl rfl rfl rfl fun j hj => ?_
  rw [State.slot_setSlot]
  split
  · rename_i e
    exact h.resolve_right fun k => k (e ▸ hj)
  · exact hj

theorem State.sameTraffic_forgetCharge (i : Fin 4) (s : State) : s.SameTraffic (s.forgetCharge i) :=
  .of_blocks rfl rfl rfl rfl (by simp) rfl rfl fun _ => id

theorem State.sameTraffic_reportSlot (i : Fin 4) (s : State) : s.SameTraffic (s.reportSlot i) :=
  .of_blocks rfl rfl rfl rfl rfl rfl rfl fun _ => id

theorem State.sameTraffic_freeSlot (i : Fin 4) (s : State) : s.SameTraffic (s.freeSlot i) :=
  ((sameTraffic_setSlot (.inl rfl)).trans (sameTraffic_forgetCharge ..)).trans (sameTraffic_reportSlot ..)

theorem State.sameTraffic_closeSlot (i : Fin 4) (reason : Reason) (s : State) :
    s.SameTraffic (s.closeSlot i reason) := by
  unfold State.closeSlot
  split
  · exact (((sameTraffic_setSlot (.inl rfl)).trans (sameTraffic_takeRecord ..)).trans
      (sameTraffic_forgetCharge ..)).trans (sameTraffic_reportSlot ..)
  · exact .refl s

theorem State.sameTraffic_endSlot (i : Fin 4) (reason : Reason) (s : State) : s.SameTraffic (s.endSlot i reason) := by
  unfold State.endSlot
  split
  · exact .refl s
  · exact sameTraffic_freeSlot ..
  · exact sameTraffic_closeSlot ..

theorem State.sameTraffic_charge (i : Fin 4) (s : State) : s.SameTraffic (s.charge i) := by
  unfold State.charge
  split
  · rename_i g tally at_ h
    have hs (x : Slot) : s.SameTraffic (s.setSlot i x) := sameTraffic_setSlot (.inr (by simp [h]))
    simp only []
    split
    · exact (hs _).trans (sameTraffic_closeSlot ..)
    · exact hs _
  · exact .refl s

theorem State.sameTraffic_chargeOpt (c : Option (Fin 4)) (s : State) : s.SameTraffic (s.chargeOpt c) := by
  unfold State.chargeOpt
  split
  · exact .refl s
  · exact sameTraffic_charge ..

/-- A walk over the slots leaves the traffic as it is where each of its steps does. -/
theorem State.sameTraffic_forSlots {f : Fin 4 → State → State} (h : ∀ i (s : State), s.SameTraffic (f i s))
    (s : State) :
    s.SameTraffic (forSlots f s) :=
  forSlots_induct (s.SameTraffic ·) f (fun i t k => k.trans (h i t)) s (.refl s)

/-- A walk over the cells leaves the traffic as it is where each of its steps does. -/
theorem State.sameTraffic_forCells {f : Fin 8 → State → State} (h : ∀ n (s : State), s.SameTraffic (f n s))
    (s : State) :
    s.SameTraffic (forCells f s) :=
  forCells_induct (s.SameTraffic ·) f (fun n t k => k.trans (h n t)) s (.refl s)

theorem State.sameTraffic_lockdownSlot (i : Fin 4) (s : State) : s.SameTraffic (s.lockdownSlot i) := by
  unfold State.lockdownSlot
  split
  · exact sameTraffic_endSlot ..
  · exact .refl s

theorem State.sameTraffic_enterLockdown (cause : Reason) (s : State) : s.SameTraffic (s.enterLockdown cause) := by
  unfold State.enterLockdown
  have marked : s.SameTraffic (State.queueItem (.lockdownMark true)
      (State.reportLockdown { s with decision := { s.decision with lockdown := true } })) :=
    .of_blocks rfl rfl rfl rfl rfl rfl rfl fun _ => id
  have freed := marked.trans (sameTraffic_forSlots sameTraffic_lockdownSlot _)
  exact ((freed.trans (sameTraffic_takeRecord ..)).trans (sameTraffic_alertCause _)).trans
    (sameTraffic_resetRequestCause _)

theorem State.sameTraffic_lockdownCheck (cause : Reason) (s : State) : s.SameTraffic (s.lockdownCheck cause) := by
  unfold State.lockdownCheck
  split
  · exact sameTraffic_enterLockdown ..
  · exact .refl s

theorem State.sameTraffic_scoreIncrement (n : Nat) (cause : Reason) (s : State) :
    s.SameTraffic (s.scoreIncrement n cause) := by
  unfold State.scoreIncrement
  have raised (x : Nat) (old : Nat) : s.SameTraffic
      (State.alertCheck old (State.reportScore { s with decision := { s.decision with score := x } })) :=
    .of_blocks (by simp) (by simp) (by simp) (by simp) (by simp [State.outcome?]) (by simp) (by simp) (by simp)
  exact (raised (min (s.decision.score + n) Config.scoreLimit) s.decision.score).trans
    (sameTraffic_lockdownCheck cause _)

theorem State.sameTraffic_denial (c : Cycle) (d : DecisionRecord) (s : State) : s.SameTraffic (s.denial c d) := by
  have told := (sameTraffic_takeRecord (denialReport c d) s).trans (sameTraffic_scoreIncrement 1 .denial _)
  unfold State.denial
  simp only []
  split
  · exact told.trans (sameTraffic_alertCause _)
  · exact told

theorem State.sameTraffic_chargePass (c : Cycle) (d : DecisionRecord) (s : State) :
    s.SameTraffic (s.chargePass c d) := by
  unfold State.chargePass
  split
  · exact sameTraffic_chargeOpt ..
  · exact .refl s

theorem State.sameTraffic_reportTimeout (t : Transfer) (s : State) : s.SameTraffic (s.reportTimeout t) := by
  unfold State.reportTimeout
  split
  · exact .refl s
  · exact (sameTraffic_takeRecord ..).trans (sameTraffic_alertCause _)

/-! ## Operations on the live state of a cell -/

/-- A cell that keeps its definition, its operation and whether it is LIVE leaves the traffic as it is. -/
theorem State.sameTraffic_setCell {n : Fin 8} {c : Cell} {s : State} (h : c.traffic = (s.cell n).traffic)
    (hd : s.cell n = .disabled → c = .disabled) : s.SameTraffic (s.setCell n c) where
  start := rfl
  port := rfl
  mem := rfl
  waiting := rfl
  outcome := rfl
  cell m := by
    rw [State.cell_setCell]
    split
    · rename_i e
      rw [e, h]
    · rfl
  startUp := id
  loading hl p := by
    obtain ⟨hmem, hcell, happly⟩ := hl p
    refine ⟨hmem, fun m => ?_, happly⟩
    rw [State.cell_setCell]
    split
    · exact hd (hcell n)
    · exact hcell m

theorem State.sameTraffic_modifyLive (n : Fin 8) (f : LiveState → LiveState) (s : State) :
    s.SameTraffic (s.modifyLive n f) :=
  sameTraffic_setCell (by simp [Cell.traffic]) fun h => by rw [h]; rfl

theorem State.sameTraffic_settleFloor (n : Fin 8) (s : State) : s.SameTraffic (s.settleFloor n) := by
  unfold State.settleFloor
  split
  · exact .refl s
  · simp only []
    split
    · exact sameTraffic_modifyLive ..
    · exact (sameTraffic_modifyLive ..).trans (sameTraffic_queueItem ..)

theorem State.sameTraffic_accrueCell (n : Fin 8) (s : State) : s.SameTraffic (s.accrueCell n) := by
  unfold State.accrueCell
  split
  · exact .refl s
  · split
    · exact sameTraffic_modifyLive ..
    · exact .refl s

theorem State.sameTraffic_tearHalf (n : Fin 8) (d : CellDef) (reason : Reason) (s : State) :
    s.SameTraffic (s.tearHalf n d reason) := by
  unfold State.tearHalf
  split
  · exact .refl s
  · split
    · exact .refl s
    · exact (sameTraffic_modifyLive ..).trans (sameTraffic_takeRecord ..)

theorem State.sameTraffic_tearForReset (n : Fin 8) (s : State) : s.SameTraffic (s.tearForReset n) := by
  unfold State.tearForReset
  split
  · exact .refl s
  · exact sameTraffic_tearHalf ..

/-! ## What an evaluation can do (R76 to R80) -/

/-- An evaluation leaves the traffic as it is, but for the one write that it may start. -/
def State.EndsInWrite (n : Fin 8) (d : CellDef) (o : Origin) (s t : State) : Prop :=
  ∃ u, s.SameTraffic u ∧ (t = u ∨ ∃ v isSet, t = u.startWrite n d o v isSet)

theorem State.EndsInWrite.of_sameTraffic {n : Fin 8} {d : CellDef} {o : Origin} {s t u : State} (h : s.SameTraffic t)
    (k : t.EndsInWrite n d o u) : s.EndsInWrite n d o u := by
  obtain ⟨x, hx, e⟩ := k
  exact ⟨x, h.trans hx, e⟩

theorem State.judgeByMode_endsInWrite (n : Fin 8) (d : CellDef) (o : Origin) (p : Nat) (v : LiveState) (s : State) :
    s.EndsInWrite n d o (s.judgeByMode n d o p v) := by
  have spend (k : Nat) : s.SameTraffic (s.modifyLive n fun x => { x with credit := x.credit - k }) :=
    sameTraffic_modifyLive ..
  unfold State.judgeByMode
  split
  · exact ⟨s, .refl s, .inl rfl⟩
  · split
    · exact ⟨_, ((sameTraffic_takeRecord ..).trans (sameTraffic_scoreIncrement ..)).trans
        (sameTraffic_alertCause _), .inl rfl⟩
    · split
      · exact ⟨s, .refl s, .inr ⟨_, _, rfl⟩⟩
      · unfold State.rateRise
        split
        · exact ⟨_, spend _, .inr ⟨_, _, rfl⟩⟩
        · have clamped := ((spend (v.credit / 65536 * 65536)).trans (sameTraffic_takeRecord
            (cellReport .counterClamped n none d.address p (some (v.shadow + v.credit / 65536))) _)).trans
            (sameTraffic_alertCause _)
          unfold State.clampRise
          simp only []
          split
          · exact ⟨_, clamped, .inr ⟨_, _, rfl⟩⟩
          · exact ⟨_, clamped, .inl rfl⟩

/-- An evaluation of a cell that has no live state does nothing; otherwise it ends in its write, or in none. -/
theorem State.evaluate_endsInWrite (n : Fin 8) (o : Origin) (p : Nat) (s : State) :
    s.evaluate n o p = s ∨ ∃ d, (s.cell n).defn = some d ∧ s.EndsInWrite n d o (s.evaluate n o p) := by
  unfold State.evaluate
  split
  · rename_i d v hd hv
    refine .inr ⟨d, hd, .of_sameTraffic (sameTraffic_modifyLive n (fun x => { x with half := none }) s) ?_⟩
    simp only []
    split
    · exact ⟨_, (sameTraffic_chargeOpt ..).trans (sameTraffic_takeRecord ..), .inr ⟨_, _, rfl⟩⟩
    · exact judgeByMode_endsInWrite ..
  · exact .inl rfl

end Sys2Proof.Machine
end

section
namespace Sys2Proof.Machine

/-! ## The law of the ports, clause by clause -/

/-- The jobs a requester stands for: that of a processor-origin one. -/
def Requester.jobs : Requester → List ProcJob
  | .processor j => [j]
  | .internal _ => []

@[simp] theorem Requester.jobs_processor (j : ProcJob) : (Requester.processor j).jobs = [j] := rfl
@[simp] theorem Requester.jobs_internal (n : Fin 8) : (Requester.internal n).jobs = [] := rfl

theorem MemPort.procJobs_eq (m : MemPort) : m.procJobs =
    (m.transfer.elim [] fun t => if t.dropped then [] else t.request.requester.jobs) ++
      m.place.elim [] fun r => r.requester.jobs := by
  unfold MemPort.procJobs
  congr 1
  · cases m.transfer with
    | none => rfl
    | some t => cases h : t.request.requester <;> simp [h]
  · cases m.place with
    | none => rfl
    | some r => cases h : r.requester <;> simp [h]

/-- The clauses of `State.PortLaw` by name. -/
structure State.PortOrder (s : State) : Prop where
  active_iff : s.port.state = .active ↔ s.port.cycle.isSome = true
  decided : s.outcome?.isSome = true → s.port.state = .active
  presented : s.port.presented.isSome = true → s.port.state = .closed ∨ s.port.state = .resetHeld
  busReset : s.port.busReset = true → s.port.state = .closed ∨ s.port.state = .resetHeld
  closed_iff : s.port.state = .closed ↔ s.start.phase ≠ .running
  jobs_le : s.mem.procJobs.length ≤ 1
  jobs_nil : s.port.state = .idle ∨ s.port.state = .closed → s.mem.procJobs = []
  jobs_outcome : s.mem.procJobs.any ProcJob.ofCycle = true → s.outcome? = some .pass ∨ s.outcome? = some .fillCheck
  waiting : s.guard.waitingWrite.isSome = true → s.mem.procJobs = [] ∧ s.outcome? = some .counter
  dropped : ∀ t ∈ s.mem.transfer, t.dropped = true → t.request.requester.cutByReset = true

theorem State.outcome?_isSome (s : State) : s.outcome?.isSome = s.decision.record.isSome := by simp [State.outcome?]

theorem State.portLaw_iff (s : State) : s.PortLaw ↔ s.PortOrder := by
  constructor
  · rintro ⟨active, decided, presented, busReset, closed, le, nil, outcome, waiting, dropped⟩
    exact ⟨active, s.outcome?_isSome ▸ decided, presented, busReset, closed, le, nil, outcome, waiting, dropped⟩
  · rintro ⟨active, decided, presented, busReset, closed, le, nil, outcome, waiting, dropped⟩
    exact ⟨active, s.outcome?_isSome ▸ decided, presented, busReset, closed, le, nil, outcome, waiting, dropped⟩

/-- What a new read waits for is there (R97). -/
def State.WaitHolds (s : State) : ReadWait → Prop
  | .requested => True
  | .forCycle => s.port.state = .active
  | .forTransfer => s.abandonedRemains = true

/-- What the law of requests says of cell `n`. While an apply has replaced the definition of a cell whose change the
counter guard has still to take (`todo`), its operation may have no definition and its new read no cycle. -/
structure State.CellOrder (s : State) (todo : Prop) (n : Fin 8) : Prop where
  internal : s.mem.requesters.count (.internal n) = if (s.cell n).op.any Operation.isInternal then 1 else 0
  counter : s.mem.requesters.count (.processor (.cellWrite n)) =
    if (s.cell n).op.any Operation.isProcessor then 1 else 0
  owner : ¬ todo → (s.cell n).op.isSome = true → (s.cell n).stale = true ∨ (s.cell n).defn.isSome = true
  stale : (s.cell n).stale = true → (s.cell n).op.isSome = true ∧ (s.cell n).op.all Operation.atArbiter = true
  waits : (todo → (s.cell n).defn.isSome = true) → ∀ x, (s.cell n).op = some (.newRead x) → s.WaitHolds x

/-- The clauses of `State.RequestLaw` by name, the cells of `todo` being those whose change is still to be taken. -/
structure State.RequestOrder (s : State) (todo : List (Fin 8)) : Prop where
  queue : ∀ r ∈ s.mem.queue, r.requester.isInternal = true
  place : ∀ r ∈ s.mem.place, r.requester.isInternal = false
  cell : ∀ n, s.CellOrder (n ∈ todo) n

theorem State.requestLaw_iff (s : State) : s.RequestLaw ↔ s.RequestOrder [] := by
  constructor
  · rintro ⟨internal, counter, queue, place, owner, stale, forCycle, forTransfer⟩
    refine ⟨queue, place, fun n => ⟨internal n, counter n, fun _ => owner n, stale n, fun _ x => ?_⟩⟩
    cases x with
    | requested => exact fun _ => trivial
    | forCycle => exact forCycle n
    | forTransfer => exact forTransfer n
  · rintro ⟨queue, place, cell⟩
    exact ⟨fun n => (cell n).internal, fun n => (cell n).counter, queue, place, fun n => (cell n).owner (by simp),
      fun n => (cell n).stale, fun n => (cell n).waits (by simp) .forCycle,
      fun n => (cell n).waits (by simp) .forTransfer⟩

/-- The law of the ports and of the arbiter but for the arbiter's grant at the end of a command. -/
structure State.Orderly (s : State) (todo : List (Fin 8)) : Prop where
  startUp : s.StartUpLaw
  loading : s.LoadingLaw
  port : s.PortOrder
  request : s.RequestOrder todo

/-- Once the part runs, start-up asks nothing. -/
theorem State.Orderly.of_running {s : State} {todo : List (Fin 8)} (hrun : s.start.phase = .running)
    (port : s.PortOrder) (request : s.RequestOrder todo) : s.Orderly todo :=
  ⟨fun p => absurd hrun p, (fun p => nomatch hrun.symm.trans p), port, request⟩

theorem State.trafficLaw_iff (s : State) : s.TrafficLaw ↔ s.Orderly [] ∧ s.PortServed := by
  constructor
  · rintro ⟨startUp, loading, port, request, served⟩
    exact ⟨⟨startUp, loading, s.portLaw_iff.1 port, s.requestLaw_iff.1 request⟩, served⟩
  · rintro ⟨⟨startUp, loading, port, request⟩, served⟩
    exact ⟨startUp, loading, s.portLaw_iff.2 port, s.requestLaw_iff.2 request, served⟩

/-! ## What the clauses depend on -/

theorem State.waitHolds_of_eq {s t : State} (port : t.port = s.port) (mem : t.mem = s.mem) {x : ReadWait}
    (h : s.WaitHolds x) : t.WaitHolds x := by
  cases x with
  | requested => trivial
  | forCycle => exact (congrArg ProcPort.state port).trans h
  | forTransfer => rwa [State.WaitHolds, State.abandonedRemains, mem]

section
variable {s t : State} {todo : List (Fin 8)}

theorem State.PortOrder.of_eq (h : s.PortOrder) (port : t.port = s.port) (start : t.start = s.start)
    (jobs : t.mem.procJobs = s.mem.procJobs) (waiting : t.guard.waitingWrite = s.guard.waitingWrite)
    (outcome : t.outcome? = s.outcome?)
    (dropped : ∀ x ∈ t.mem.transfer, x.dropped = true → x.request.requester.cutByReset = true) : t.PortOrder where
  active_iff := port ▸ h.active_iff
  decided := by rw [outcome, port]; exact h.decided
  presented := port ▸ h.presented
  busReset := port ▸ h.busReset
  closed_iff := by rw [port, start]; exact h.closed_iff
  jobs_le := jobs ▸ h.jobs_le
  jobs_nil := by rw [port, jobs]; exact h.jobs_nil
  jobs_outcome := by rw [outcome, jobs]; exact h.jobs_outcome
  waiting := by rw [waiting, jobs, outcome]; exact h.waiting
  dropped := dropped

theorem State.CellOrder.of_eq {p : Prop} {n : Fin 8} (h : s.CellOrder p n)
    (defn : (t.cell n).defn = (s.cell n).defn) (op : (t.cell n).op = (s.cell n).op)
    (stale : (t.cell n).stale = (s.cell n).stale)
    (internal : t.mem.requesters.count (.internal n) = s.mem.requesters.count (.internal n))
    (counter : t.mem.requesters.count (.processor (.cellWrite n)) =
      s.mem.requesters.count (.processor (.cellWrite n)))
    (waits : ∀ x, s.WaitHolds x → t.WaitHolds x) : t.CellOrder p n where
  internal := by rw [internal, op]; exact h.internal
  counter := by rw [counter, op]; exact h.counter
  owner := by rw [op, stale, defn]; exact h.owner
  stale := by rw [op, stale]; exact h.stale
  waits := by rw [op, defn]; exact fun p x e => waits x (h.waits p x e)

/-- What the law says of the other cells stays when one cell and its own requests change. -/
theorem State.RequestOrder.update (h : s.RequestOrder todo) (n : Fin 8)
    (queue : ∀ r ∈ t.mem.queue, r.requester.isInternal = true)
    (place : ∀ r ∈ t.mem.place, r.requester.isInternal = false)
    (others : ∀ m, m ≠ n → (t.cell m).traffic = (s.cell m).traffic ∧
      t.mem.requesters.count (.internal m) = s.mem.requesters.count (.internal m) ∧
      t.mem.requesters.count (.processor (.cellWrite m)) = s.mem.requesters.count (.processor (.cellWrite m)))
    (waits : ∀ x, s.WaitHolds x → t.WaitHolds x) (self : t.CellOrder (n ∈ todo) n) :
    t.RequestOrder todo where
  queue := queue
  place := place
  cell m := by
    by_cases e : m = n
    · exact e ▸ self
    · obtain ⟨traffic, internal, counter⟩ := others m e
      simp only [Cell.traffic, Prod.mk.injEq] at traffic
      obtain ⟨defn, op, stale, -⟩ := traffic
      exact (h.cell m).of_eq defn op stale internal counter waits

theorem State.RequestOrder.of_eq (h : s.RequestOrder todo) (mem : t.mem = s.mem)
    (cells : t.guard.cells = s.guard.cells) (active : s.port.state = .active → t.port.state = .active) :
    t.RequestOrder todo where
  queue := mem ▸ h.queue
  place := mem ▸ h.place
  cell n := by
    have cell : t.cell n = s.cell n := State.cell_congr cells n
    refine (h.cell n).of_eq (by rw [cell]) (by rw [cell]) (by rw [cell]) (by rw [mem]) (by rw [mem]) fun x hx => ?_
    cases x with
    | requested => trivial
    | forCycle => exact active hx
    | forTransfer => rwa [State.WaitHolds, State.abandonedRemains, mem]

theorem State.Orderly.of_sameTraffic (h : s.Orderly todo) (k : s.SameTraffic t) : t.Orderly todo where
  startUp := k.startUp h.startUp
  loading := k.loading h.loading
  port := h.port.of_eq k.port k.start (by rw [k.mem]) k.waiting k.outcome (k.mem ▸ h.port.dropped)
  request :=
    { queue := k.mem ▸ h.request.queue
      place := k.mem ▸ h.request.place
      cell := fun n => (h.request.cell n).of_eq (k.defn n) (k.op n) (k.stale n) (by rw [k.mem])
        (by rw [k.mem]) (fun _ => State.waitHolds_of_eq k.port k.mem) }

/-! ## Consequences -/

theorem State.Orderly.not_loading_of_defn (h : s.Orderly todo) {n : Fin 8} {d : CellDef}
    (hd : (s.cell n).defn = some d) : s.start.phase ≠ .loading := fun p => by
  rw [(h.loading p).2.1 n] at hd
  exact nomatch hd

theorem State.Orderly.running (h : s.Orderly todo) (hc : s.port.state ≠ .closed) : s.start.phase = .running :=
  Decidable.by_contra fun p => hc (h.port.closed_iff.2 p)

theorem State.Orderly.not_loading (h : s.Orderly todo) (hc : s.port.state ≠ .closed) : s.start.phase ≠ .loading :=
  fun p => by
    rw [h.running hc] at p
    exact nomatch p

/-- An operation that waits or is none belongs to the live definition. -/
theorem State.Orderly.not_stale (h : s.Orderly todo) {n : Fin 8} (ho : (s.cell n).op.all Operation.atArbiter = false ∨
    (s.cell n).op = none) : (s.cell n).stale = false := by
  rw [← Bool.not_eq_true]
  intro hs
  obtain ⟨some, at_⟩ := (h.request.cell n).stale hs
  rcases ho with ho | ho <;> simp_all

/-- With no work of the processor's wanted, the processor place is free. -/
theorem State.RequestOrder.place_none (h : s.RequestOrder todo) (hj : s.mem.procJobs = []) : s.mem.place = none := by
  cases hp : s.mem.place with
  | none => rfl
  | some r =>
    have hr := h.place r hp
    rw [MemPort.procJobs_eq, List.append_eq_nil_iff, hp] at hj
    cases e : r.requester <;> simp_all [Requester.isInternal]

/-- A waiting write holds the port ACTIVE. -/
theorem State.PortOrder.active_of_waiting (h : s.PortOrder) (hw : s.guard.waitingWrite.isSome = true) :
    s.port.state = .active := h.decided (by rw [(h.waiting hw).2]; rfl)

theorem State.PortOrder.waiting_none (h : s.PortOrder) (ha : s.port.state ≠ .active ∨ s.mem.procJobs ≠ []) :
    s.guard.waitingWrite = none := by
  rw [← Option.not_isSome_iff_eq_none]
  intro hw
  exact ha.elim (· (h.active_of_waiting hw)) (· (h.waiting hw).1)

theorem State.PortOrder.outcome_none (h : s.PortOrder) (ha : s.port.state ≠ .active) : s.outcome? = none := by
  rw [← Option.not_isSome_iff_eq_none]
  exact fun ho => ha (h.decided ho)

end

/-! ## Joining the waiting places (R20, R73) -/

/-- The places of the arbiter come in some order, which no count sees. -/
theorem MemPort.count_requesters_place {m : MemPort} (hp : m.place = none) (r : Request) (q : Requester) :
    (MemPort.requesters { m with place := some r }).count q = m.requesters.count q + [r.requester].count q := by
  simp only [MemPort.requesters, hp, List.count_append, Option.map_some, Option.map_none, Option.toList_some,
    Option.toList_none, List.count_nil]
  omega

theorem State.cell_setOp (n m : Fin 8) (op : Option Operation) (s : State) :
    (s.setOp n op).cell m = if m = n then { s.cell n with op := op } else s.cell m := State.cell_setCell ..

theorem State.cell_startInternal (n m : Fin 8) (d : CellDef) (dir : Direction) (v : Nat) (op : Operation) (s : State) :
    (s.startInternal n d dir v op).cell m = if m = n then { s.cell n with op := some op } else s.cell m :=
  State.cell_setOp ..

/-- An internal request joins those at the arbiter. -/
theorem State.count_requesters_startInternal (n : Fin 8) (d : CellDef) (dir : Direction) (v : Nat) (op : Operation)
    (s : State) (q : Requester) : (s.startInternal n d dir v op).mem.requesters.count q =
      s.mem.requesters.count q + [Requester.internal n].count q := by
  rw [← List.count_append]
  simp [MemPort.requesters, cellRequest]

theorem Operation.isProcessor_eq_false {op : Operation} (h : op.isInternal = true) : op.isProcessor = false := by
  unfold Operation.isProcessor
  split
  · exact h.symm
  · rfl

section
variable {s : State} {todo : List (Fin 8)} {n : Fin 8} {d : CellDef}

/-- R73: an internal transfer joins the list with its operation. -/
theorem State.Orderly.startInternal (h : s.Orderly todo) (ho : (s.cell n).op = none) (hd : (s.cell n).defn = some d)
    {op : Operation} (hi : op.isInternal = true) (dir : Direction) (v : Nat) :
    (s.startInternal n d dir v op).Orderly todo where
  startUp := h.startUp
  loading p := absurd p (h.not_loading_of_defn hd)
  port := h.port.of_eq rfl rfl rfl rfl rfl h.port.dropped
  request := by
    have hself := h.request.cell n
    refine h.request.update n ?_ h.request.place (fun m hm => ⟨?_, ?_, ?_⟩) (fun x => ?_) ⟨?_, ?_, ?_, ?_, ?_⟩
    · intro r hr
      rcases List.mem_append.1 hr with hr | hr
      · exact h.request.queue r hr
      · rw [List.mem_singleton.1 hr]; rfl
    · rw [State.cell_startInternal, if_neg hm]
    · rw [State.count_requesters_startInternal]
      simp [Ne.symm hm]
    · rw [State.count_requesters_startInternal]
      simp
    · cases x <;> exact id
    · rw [State.count_requesters_startInternal, hself.internal, State.cell_startInternal]
      simp [ho, hi]
    · rw [State.count_requesters_startInternal, hself.counter, State.cell_startInternal]
      simp [ho, Operation.isProcessor_eq_false hi]
    · simp [State.cell_startInternal, hd]
    · simp [State.cell_startInternal, h.not_stale (.inr ho)]
    · intro _ x e
      cases x with
      | requested => trivial
      | _ =>
        simp only [State.cell_startInternal, if_true, Option.some.injEq] at e
        exact absurd hi (by simp [e, Operation.isInternal])

end
end Sys2Proof.Machine
end

section
namespace Sys2Proof.Machine

section
variable {s t : State} {todo : List (Fin 8)} {n : Fin 8} {d : CellDef}

/-- R97: a new read that waits for the cycle in progress is at no place of the arbiter. -/
theorem State.Orderly.waitForCycle (h : s.Orderly todo) (ho : (s.cell n).op = none) (hd : (s.cell n).defn = some d)
    (ha : s.port.state = .active) : (s.setOp n (some (.newRead .forCycle))).Orderly todo where
  startUp := h.startUp
  loading p := absurd p (h.not_loading_of_defn hd)
  port := h.port.of_eq rfl rfl rfl rfl rfl h.port.dropped
  request := by
    have hself := h.request.cell n
    refine h.request.update n h.request.queue h.request.place (fun m hm => ⟨?_, rfl, rfl⟩) (fun x => ?_)
      ⟨?_, ?_, ?_, ?_, ?_⟩
    · rw [State.cell_setOp, if_neg hm]
    · cases x <;> exact id
    · simpa [ho, Operation.isInternal] using hself.internal
    · simpa [ho, Operation.isProcessor] using hself.counter
    · simp [hd]
    · simp [h.not_stale (.inr ho)]
    · intro _ x e
      rw [State.cell_setOp_self] at e
      cases e
      exact ha

/-- R97: the new read of a cell with nothing in flight is requested, or waits for the cycle in progress. -/
theorem State.Orderly.startNewRead (h : s.Orderly todo) (ho : (s.cell n).op = none) :
    (s.startNewRead n).Orderly todo := by
  unfold State.startNewRead
  split
  · exact h
  · rename_i d hd
    split
    · rename_i hc
      refine h.waitForCycle ho hd (h.port.active_iff.2 ?_)
      unfold State.cycleUses at hc
      split at hc
      · rename_i e _
        rw [e]; rfl
      · exact nomatch hc
    · exact h.startInternal ho hd rfl .read 0

/-- A request of the processor's joins its place, which was free. -/
theorem State.PortOrder.enqueueProcessor (h : s.PortOrder) (ha : s.port.state = .active) (hj : s.mem.procJobs = [])
    (hw : s.guard.waitingWrite = none) {r : Request} {j : ProcJob} (hr : r.requester = .processor j)
    (ho : j.ofCycle = true → s.outcome? = some .pass ∨ s.outcome? = some .fillCheck) :
    (s.enqueueProcessor r).PortOrder := by
  have jobs : (s.enqueueProcessor r).mem.procJobs = [j] := by
    rw [MemPort.procJobs_eq, List.append_eq_nil_iff] at hj
    rw [MemPort.procJobs_eq, State.enqueueProcessor_mem]
    simp [hj.1, hr]
  refine ⟨h.active_iff, h.decided, h.presented, h.busReset, h.closed_iff, (congrArg List.length jobs).le, ?_, ?_, ?_,
    h.dropped⟩
  · rw [State.enqueueProcessor_port, ha]
    exact fun e => by simp at e
  · rw [jobs]
    exact fun e => ho (by simpa using e)
  · rw [State.enqueueProcessor_guard, hw]
    exact fun e => by simp at e

theorem State.count_requesters_enqueueProcessor (hp : s.mem.place = none) (r : Request) (q : Requester) :
    (s.enqueueProcessor r).mem.requesters.count q = s.mem.requesters.count q + [r.requester].count q :=
  MemPort.count_requesters_place hp r q

/-- R8, R58, R85: the transfer of the cycle in progress, or the read of a cell word, is requested. -/
theorem State.Orderly.enqueueProcessor (h : s.Orderly todo) (ha : s.port.state = .active) (hj : s.mem.procJobs = [])
    (hw : s.guard.waitingWrite = none) {r : Request} {j : ProcJob} (hr : r.requester = .processor j)
    (hc : ∀ n, j ≠ .cellWrite n)
    (ho : j.ofCycle = true → s.outcome? = some .pass ∨ s.outcome? = some .fillCheck) :
    (s.enqueueProcessor r).Orderly todo where
  startUp := h.startUp
  loading p := absurd p (h.not_loading (by simp [ha]))
  port := h.port.enqueueProcessor ha hj hw hr ho
  request :=
    { queue := h.request.queue
      place := by simp [hr, Requester.isInternal]
      cell := fun n => by
        have hp := h.request.place_none hj
        refine (h.request.cell n).of_eq rfl rfl rfl ?_ ?_ (fun x => ?_)
        · rw [State.count_requesters_enqueueProcessor hp, hr]
          simp
        · rw [State.count_requesters_enqueueProcessor hp, hr]
          simp [hc n]
        · cases x <;> exact id }

/-- R80: the write of an evaluation is requested with its operation. -/
theorem State.Orderly.startWrite (h : s.Orderly todo) (ho : (s.cell n).op = none) (hd : (s.cell n).defn = some d)
    {o : Origin} (hp : o = .processor → s.port.state = .active ∧ s.mem.procJobs = [] ∧ s.guard.waitingWrite = none)
    (v : Nat) (isSet : Bool) : (s.startWrite n d o v isSet).Orderly todo := by
  cases o with
  | hold => exact h.startInternal ho hd rfl .write v
  | ignition => exact h.startInternal ho hd rfl .write v
  | processor =>
    obtain ⟨ha, hj, hw⟩ := hp rfl
    have hfree := h.request.place_none hj
    have hself := h.request.cell n
    have count (q : Requester) : (s.startWrite n d .processor v isSet).mem.requesters.count q =
        s.mem.requesters.count q + [Requester.processor (.cellWrite n)].count q :=
      State.count_requesters_enqueueProcessor (s := s.setOp n _) hfree _ q
    refine ⟨h.startUp, fun p => absurd p (h.not_loading (by simp [ha])), ?_, ?_⟩
    · exact State.PortOrder.enqueueProcessor (j := .cellWrite n)
        (h.port.of_eq (t := s.setOp n _) rfl rfl rfl rfl rfl h.port.dropped) ha hj hw rfl (fun e => nomatch e)
    · refine h.request.update n h.request.queue ?_ (fun m hm => ⟨?_, ?_, ?_⟩) (fun x => ?_) ⟨?_, ?_, ?_, ?_, ?_⟩
      · rintro r hr
        obtain rfl : _ = r := Option.some.inj hr
        rfl
      · exact congrArg Cell.traffic ((State.cell_setOp n m _ s).trans (if_neg hm))
      · rw [count]; simp
      · rw [count]; simp [Ne.symm hm]
      · cases x <;> exact id
      · rw [count, hself.internal]
        change _ = if ((s.setOp n (some (.evaluation .processor v isSet))).cell n).op.any _ = true then 1 else 0
        simp [ho, Operation.isInternal]
      · rw [count, hself.counter]
        change _ = if ((s.setOp n (some (.evaluation .processor v isSet))).cell n).op.any _ = true then 1 else 0
        simp [ho, Operation.isProcessor]
      · exact fun _ _ => .inr (by change ((s.setOp n _).cell n).defn.isSome = true; simp [hd])
      · intro e
        change ((s.setOp n _).cell n).stale = true at e
        simp [h.not_stale (.inr ho)] at e
      · intro _ x e
        change ((s.setOp n (some (.evaluation .processor v isSet))).cell n).op = _ at e
        simp at e

/-! ## The reads that waited are requested (R97) -/

/-- Whether a cell's new read waits so. -/
def Cell.waits (w : ReadWait) (c : Cell) : Bool := c.op == some (.newRead w) && c.defn.isSome

theorem Cell.waits_iff {w : ReadWait} {c : Cell} :
    c.waits w = true ↔ c.op = some (.newRead w) ∧ c.defn.isSome = true := by simp [Cell.waits]

/-- The cell with its new read requested, if it waits so. -/
def Cell.released (w : ReadWait) (c : Cell) : Cell :=
  if c.waits w then { c with op := some (.newRead .requested) } else c

/-- The request of a cell's new read, if it waits so. -/
def Cell.readRequest (w : ReadWait) (n : Fin 8) (c : Cell) : Option Request :=
  if c.waits w then c.defn.map fun d => cellRequest d .read 0 (.internal n) none else none

/-- One cell of the walk. -/
theorem State.releaseRead_eq (w : ReadWait) (n : Fin 8) (s : State) :
    s.releaseRead w n =
      { s.setCell n ((s.cell n).released w) with
        mem := { s.mem with queue := s.mem.queue ++ ((s.cell n).readRequest w n).toList } } := by
  have hset : s.setCell n (s.cell n) = s := by simp [State.setCell, State.cell]
  unfold State.releaseRead Cell.released Cell.readRequest Cell.waits
  cases hd : (s.cell n).defn with
  | none => simp [hset]
  | some d =>
    cases ho : (s.cell n).op with
    | none => simp [hset]
    | some op =>
      by_cases e : op = .newRead w
      · subst e
        simp [State.startInternal, State.setOp, State.enqueueInternal, hd]
      · cases op with
        | newRead x =>
          have hx : x ≠ w := fun k => e (by rw [k])
          simp [hx, hset]
        | _ => simp [hset]

/-- The walk over some cells: each is as released, and the requests join in the walk's order. -/
theorem State.foldl_releaseRead (w : ReadWait) : ∀ (l : List (Fin 8)) (s : State), l.Nodup →
    (∀ m, (l.foldl (fun s n => s.releaseRead w n) s).cell m = if m ∈ l then (s.cell m).released w else s.cell m) ∧
    (l.foldl (fun s n => s.releaseRead w n) s).mem =
      { s.mem with queue := s.mem.queue ++ l.filterMap fun n => (s.cell n).readRequest w n }
  | [], s, _ => by simp
  | n :: rest, s, hl => by
    obtain ⟨hn, hrest⟩ := List.nodup_cons.1 hl
    obtain ⟨hcell, hmem⟩ := foldl_releaseRead w rest (s.releaseRead w n) hrest
    have step (m : Fin 8) : (s.releaseRead w n).cell m = if m = n then (s.cell n).released w else s.cell m := by
      rw [State.releaseRead_eq]
      exact State.cell_setCell ..
    constructor
    · intro m
      rw [List.foldl_cons, hcell, step]
      by_cases e : m = n
      · simp [e, hn]
      · simp [e]
    · have later : (rest.filterMap fun m => ((s.releaseRead w n).cell m).readRequest w m) =
          rest.filterMap fun m => (s.cell m).readRequest w m :=
        List.filterMap_congr fun m hm => by
            rw [step, if_neg fun e : m = n => hn (e ▸ hm)]
      rw [List.foldl_cons, hmem, later, State.releaseRead_eq, List.filterMap_cons]
      cases (s.cell n).readRequest w n <;> simp

/-- R97: every cell whose new read waits so has it requested. -/
theorem State.cell_releaseAll (w : ReadWait) (s : State) (m : Fin 8) :
    (forCells (State.releaseRead w) s).cell m = (s.cell m).released w := by
  have h := (State.foldl_releaseRead w octOrder s (by decide)).1 m
  rwa [if_pos (mem_octOrder m)] at h

/-- R97: the new reads that waited so join the list in cell order. -/
theorem State.mem_releaseAll (w : ReadWait) (s : State) :
    (forCells (State.releaseRead w) s).mem =
      { s.mem with queue := s.mem.queue ++ octOrder.filterMap fun n => (s.cell n).readRequest w n } :=
  (State.foldl_releaseRead w octOrder s (by decide)).2

end
end Sys2Proof.Machine
end

section
namespace Sys2Proof.Machine

section
variable {s t : State} {todo : List (Fin 8)} {n : Fin 8} {d : CellDef}

/-- The walk requests one read of each cell that waits so, and none of another. -/
theorem count_readRequests (w : ReadWait) (s : State) (n : Fin 8) :
    ((octOrder.filterMap fun m => (s.cell m).readRequest w m).map Request.requester).count (.internal n) =
        (if (s.cell n).waits w then 1 else 0) ∧
      ((octOrder.filterMap fun m => (s.cell m).readRequest w m).map Request.requester).count
        (.processor (.cellWrite n)) = 0 := by
  have requester (m : Fin 8) : ((s.cell m).readRequest w m).map Request.requester =
      if (s.cell m).waits w then some (.internal m) else none := by
    unfold Cell.readRequest
    split
    · rename_i h
      obtain ⟨-, hd⟩ := Cell.waits_iff.1 h
      cases e : (s.cell m).defn with
      | none => rw [e] at hd; exact nomatch hd
      | some d => rfl
    · rfl
  rw [List.map_filterMap, funext requester]
  constructor
  · have walk : ∀ l : List (Fin 8), l.Nodup →
        (l.filterMap fun m => if (s.cell m).waits w then some (Requester.internal m) else none).count (.internal n) =
          if n ∈ l ∧ (s.cell n).waits w = true then 1 else 0 := by
      intro l hl
      induction l with
      | nil => simp
      | cons m rest ih =>
        obtain ⟨hm, hrest⟩ := List.nodup_cons.1 hl
        rw [List.filterMap_cons]
        by_cases e : n = m
        · subst e
          cases hw : (s.cell n).waits w <;> simp [ih hrest, hm, hw]
        · cases hw : (s.cell m).waits w <;> simp [ih hrest, e, Ne.symm e]
    simpa [mem_octOrder] using walk octOrder (by decide)
  · refine List.count_eq_zero_of_not_mem fun h => ?_
    obtain ⟨m, -, e⟩ := List.mem_filterMap.1 h
    split at e <;> simp at e

/-- After the walk nothing waits so any more: the wait need not hold. -/
theorem State.CellOrder.released {p : Prop} {w : ReadWait} (hw : w ≠ .requested) (h : s.CellOrder p n)
    (cell : t.cell n = (s.cell n).released w)
    (internal : t.mem.requesters.count (.internal n) =
      s.mem.requesters.count (.internal n) + if (s.cell n).waits w then 1 else 0)
    (counter : t.mem.requesters.count (.processor (.cellWrite n)) =
      s.mem.requesters.count (.processor (.cellWrite n)))
    (waits : ∀ x, x ≠ w → s.WaitHolds x → t.WaitHolds x) : t.CellOrder p n := by
  cases hc : (s.cell n).waits w with
  | false =>
    have e : t.cell n = s.cell n := by rw [cell, Cell.released, hc]; rfl
    rw [hc] at internal
    refine ⟨by rw [e, internal]; exact h.internal, by rw [e, counter]; exact h.counter, e ▸ h.owner, e ▸ h.stale, ?_⟩
    rw [e]
    intro hp x hx
    refine waits x (fun k => ?_) (h.waits hp x hx)
    subst k
    have hdefn : (s.cell n).defn.isSome = false := by simpa [Cell.waits, hx] using hc
    have notAtArbiter : Operation.atArbiter (.newRead x) = false := by cases x <;> first | rfl | exact absurd rfl hw
    by_cases hp' : p
    · exact absurd (hp hp') (by simp [hdefn])
    · rcases h.owner hp' (by simp [hx]) with hs | hd
      · simpa [hx, notAtArbiter] using (h.stale hs).2
      · simp [hdefn] at hd
  | true =>
    obtain ⟨hop, hd⟩ := Cell.waits_iff.1 hc
    have e : t.cell n = { s.cell n with op := some (.newRead .requested) } := by rw [cell, Cell.released, hc]; rfl
    have notInternal : Operation.isInternal (.newRead w) = false := by cases w <;> first | rfl | exact absurd rfl hw
    have notStale : (s.cell n).stale = false := by
      rw [← Bool.not_eq_true]
      intro hs
      exact absurd (h.stale hs).2 (by cases w <;> simp_all [Operation.atArbiter])
    refine ⟨?_, ?_, ?_, ?_, ?_⟩
    · rw [internal, h.internal, e, hop, hc]
      simp [notInternal, show Operation.isInternal (.newRead .requested) = true from rfl]
    · rw [counter, h.counter, e, hop]
      simp [Operation.isProcessor]
    · rw [e]; exact fun _ _ => .inr hd
    · rw [e]; simp [notStale]
    · rw [e]
      intro _ x hx
      cases hx
      trivial

/-- R97: the reads that waited so are requested, where what they waited for may be gone. -/
theorem State.RequestOrder.released {w : ReadWait} (hw : w ≠ .requested) (h : s.RequestOrder todo)
    (cell : ∀ m, t.cell m = (s.cell m).released w)
    (queue : t.mem.queue = s.mem.queue ++ octOrder.filterMap fun m => (s.cell m).readRequest w m)
    (place : ∀ r ∈ t.mem.place, r.requester.isInternal = false)
    (count : ∀ m, ∀ q ∈ [Requester.internal m, .processor (.cellWrite m)], t.mem.requesters.count q =
      s.mem.requesters.count q +
        ((octOrder.filterMap fun m => (s.cell m).readRequest w m).map Request.requester).count q)
    (waits : ∀ x, x ≠ w → s.WaitHolds x → t.WaitHolds x) : t.RequestOrder todo where
  queue := by
    rw [queue]
    intro r hr
    rcases List.mem_append.1 hr with hr | hr
    · exact h.queue r hr
    · obtain ⟨m, -, e⟩ := List.mem_filterMap.1 hr
      unfold Cell.readRequest at e
      split at e
      · obtain ⟨d, -, rfl⟩ := Option.map_eq_some_iff.1 e
        rfl
      · exact nomatch e
  place := place
  cell m := by
    obtain ⟨hi, hc⟩ := count_readRequests w s m
    refine (h.cell m).released hw (cell m) ?_ ?_ waits
    · rw [count m _ (by simp), hi]
    · rw [count m _ (by simp), hc, Nat.add_zero]

theorem MemPort.count_requesters_append (m : MemPort) (l : List Request) (q : Requester) :
    (MemPort.requesters { m with queue := m.queue ++ l }).count q =
      m.requesters.count q + (l.map Request.requester).count q := by
  simp [MemPort.requesters, List.count_append, Nat.add_assoc]

/-! ## The cycle completes (R2, R47, R97) -/

theorem State.cell_completeCycle (data : Option Word) (s : State) (m : Fin 8) :
    (s.completeCycle data).cell m = (s.cell m).released .forCycle := by
  rw [State.completeCycle_eq, State.releaseReads, State.cell_releaseAll]
  rfl

theorem State.mem_completeCycle (data : Option Word) (s : State) : (s.completeCycle data).mem =
    { s.mem with queue := s.mem.queue ++ octOrder.filterMap fun n => (s.cell n).readRequest .forCycle n } := by
  rw [State.completeCycle_eq, State.releaseReads, State.mem_releaseAll]
  rfl

@[simp] theorem State.completeCycle_mem_transfer (data : Option Word) (s : State) :
    (s.completeCycle data).mem.transfer = s.mem.transfer := by rw [State.mem_completeCycle]

@[simp] theorem State.completeCycle_mem_place (data : Option Word) (s : State) :
    (s.completeCycle data).mem.place = s.mem.place := by rw [State.mem_completeCycle]

/-- The internal list holds no work of the processor's. -/
theorem MemPort.procJobs_of_eq {m k : MemPort} (transfer : k.transfer = m.transfer) (place : k.place = m.place) :
    k.procJobs = m.procJobs := by rw [MemPort.procJobs_eq, MemPort.procJobs_eq, transfer, place]

/-- A cycle completes that has no work left. -/
theorem State.Orderly.completeCycle (h : s.Orderly todo) (ha : s.port.state = .active ∨ s.port.state = .idle)
    (hj : s.mem.procJobs = []) (hw : s.guard.waitingWrite = none) (data : Option Word) :
    (s.completeCycle data).Orderly todo := by
  have hopen : s.port.state ≠ .closed ∧ s.port.state ≠ .resetHeld := by rcases ha with e | e <;> simp [e]
  have hrun := h.running hopen.1
  have jobs : (s.completeCycle data).mem.procJobs = [] := (MemPort.procJobs_of_eq (by simp) (by simp)).trans hj
  refine .of_running (by simpa using hrun) ?_ ?_
  · refine ⟨by simp, by simp [State.outcome?], ?_, ?_, by simp [hrun], by simp [jobs], fun _ => jobs, by simp [jobs],
      by simp [hw], by simpa using h.port.dropped⟩
    · simpa [hopen] using h.port.presented
    · simpa [hopen] using h.port.busReset
  · refine h.request.released (by simp) (State.cell_completeCycle data s) (by rw [State.mem_completeCycle])
      (by simpa using h.request.place) (fun m q _ => ?_) (fun x hx => ?_)
    · rw [State.mem_completeCycle]
      exact MemPort.count_requesters_append ..
    · cases x with
      | requested => exact fun _ => trivial
      | forCycle => exact absurd rfl hx
      | forTransfer =>
        simp only [State.WaitHolds, State.abandonedRemains, State.completeCycle_mem_transfer, imp_self]

end
end Sys2Proof.Machine
end

section
namespace Sys2Proof.Machine

section
variable {s : State} {todo : List (Fin 8)} {n : Fin 8} {d : CellDef}

/-! ## A request leaves the arbiter -/

/-- The operation of a cell is over. -/
def State.clearOp (n : Fin 8) (s : State) : State := s.setCell n { s.cell n with op := none, stale := false }

/-- The memory port is free. -/
abbrev State.freed (s : State) : State := { s with mem := { s.mem with transfer := none } }

/-- A transfer that leaves the port takes its requester from the arbiter's. -/
theorem MemPort.count_requesters_free {m : MemPort} {t : Transfer} (ht : m.transfer = some t) (q : Requester) :
    m.requesters.count q =
      (MemPort.requesters { m with transfer := none }).count q + [t.request.requester].count q := by
  simp only [MemPort.requesters, ht, List.count_append, Option.map_some, Option.map_none, Option.toList_some,
    Option.toList_none, List.count_nil]
  omega

theorem MemPort.count_requesters_dequeue {m : MemPort} {r : Request} {rest : List Request} (hq : m.queue = r :: rest)
    (q : Requester) : m.requesters.count q =
      (MemPort.requesters { m with queue := rest }).count q + [r.requester].count q := by
  simp only [MemPort.requesters, hq, List.count_append, List.map_cons, List.count_cons, List.count_nil]
  omega

/-- A transfer that leaves the port leaves the processor's work as it was, or none. -/
theorem MemPort.procJobs_free {m : MemPort} (h : m.procJobs.length ≤ 1) :
    MemPort.procJobs { m with transfer := none } = m.procJobs ∨ MemPort.procJobs { m with transfer := none } = [] := by
  rw [MemPort.procJobs_eq, List.length_append] at h
  rw [MemPort.procJobs_eq, MemPort.procJobs_eq]
  simp only [Option.elim_none, List.nil_append]
  rcases Nat.eq_zero_or_pos
    (m.transfer.elim [] fun t => if t.dropped then [] else t.request.requester.jobs).length with e | e
  · rw [List.length_eq_zero_iff.1 e]; exact .inl rfl
  · exact .inr (List.length_eq_zero_iff.1 (by omega))

/-- With less work at the memory port the clauses on it stay. -/
theorem State.PortOrder.with_mem (h : s.PortOrder) {m : MemPort} (jobs : m.procJobs = s.mem.procJobs ∨ m.procJobs = [])
    (dropped : ∀ x ∈ m.transfer, x.dropped = true → x.request.requester.cutByReset = true) :
    State.PortOrder { s with mem := m } := by
  rcases jobs with e | e
  · exact h.of_eq rfl rfl e rfl rfl dropped
  · exact ⟨h.active_iff, h.decided, h.presented, h.busReset, h.closed_iff, by simp [e], fun _ => e, by simp [e],
      fun w => ⟨e, (h.waiting w).2⟩, dropped⟩

/-- Who is at the arbiter for a cell is there for its operation. -/
theorem State.CellOrder.op_of_requester {p : Prop} (h : s.CellOrder p n) {q : Requester}
    (hq : q = .internal n ∨ q = .processor (.cellWrite n)) (hm : q ∈ s.mem.requesters) :
    ∃ op, (s.cell n).op = some op := by
  have hpos := List.count_pos_iff.2 hm
  cases ho : (s.cell n).op with
  | some op => exact ⟨op, rfl⟩
  | none =>
    rcases hq with rfl | rfl
    · rw [h.internal, ho] at hpos; exact absurd hpos (by simp)
    · rw [h.counter, ho] at hpos; exact absurd hpos (by simp)

/-- R73: a cell has one request at the arbiter at most. -/
theorem State.CellOrder.requests_le {p : Prop} (h : s.CellOrder p n) :
    s.mem.requesters.count (.internal n) + s.mem.requesters.count (.processor (.cellWrite n)) ≤ 1 := by
  rw [h.internal, h.counter]
  cases (s.cell n).op with
  | none => simp
  | some op =>
    by_cases e : op.isInternal = true
    · simp [e, Operation.isProcessor_eq_false e]
    · cases e' : op.isProcessor <;> simp [e, e']

@[simp] theorem State.clearOp_mem (n : Fin 8) (s : State) : (s.clearOp n).mem = s.mem := rfl

/-- The request of a cell's operation has left the arbiter, and the operation is over. -/
theorem State.RequestOrder.clearOp (h : s.RequestOrder todo) {m : MemPort} {q : Requester}
    (hq : q = .internal n ∨ q = .processor (.cellWrite n))
    (count : ∀ x, s.mem.requesters.count x = m.requesters.count x + [q].count x)
    (queue : ∀ r ∈ m.queue, r.requester.isInternal = true) (place : ∀ r ∈ m.place, r.requester.isInternal = false)
    (waits : ∀ x, s.WaitHolds x → State.WaitHolds { s with mem := m } x) :
    (State.clearOp n { s with mem := m }).RequestOrder todo := by
  have hnone : m.requesters.count (.internal n) = 0 ∧ m.requesters.count (.processor (.cellWrite n)) = 0 := by
    have hle := (h.cell n).requests_le
    rw [count, count] at hle
    rcases hq with rfl | rfl <;> simp at hle <;> omega
  have cell (k : Fin 8) : (State.clearOp n { s with mem := m }).cell k =
      if k = n then { s.cell n with op := none, stale := false } else s.cell k := State.cell_setCell ..
  refine h.update n queue place (fun k hk => ⟨?_, ?_, ?_⟩) (fun x hx => ?_) ⟨?_, ?_, ?_, ?_, ?_⟩
  · rw [cell, if_neg hk]
  · have := count (.internal k)
    rcases hq with rfl | rfl <;> simpa [Ne.symm hk] using this.symm
  · have := count (.processor (.cellWrite k))
    rcases hq with rfl | rfl <;> simpa [Ne.symm hk] using this.symm
  · have := waits x hx
    cases x <;> exact this
  · rw [cell, State.clearOp_mem]
    simpa using hnone.1
  · rw [cell, State.clearOp_mem]
    simpa using hnone.2
  all_goals rw [cell]; simp

/-- With no request the part is not loading. -/
theorem State.Orderly.not_loading_of_requester (h : s.Orderly todo) {q : Requester} (hq : q ∈ s.mem.requesters) :
    s.start.phase ≠ .loading := fun p => by
  rw [(h.loading p).1] at hq
  exact nomatch hq

theorem MemPort.mem_requesters_transfer {m : MemPort} {t : Transfer} (ht : m.transfer = some t) :
    t.request.requester ∈ m.requesters := by simp [MemPort.requesters, ht]

/-- With a transfer that is not dropped nothing waits for one of an abandoned cycle. -/
theorem State.waitHolds_free {t : Transfer} (ht : s.mem.transfer = some t) (hd : t.dropped = false) {x : ReadWait}
    (hx : s.WaitHolds x) : s.freed.WaitHolds x := by
  cases x with
  | requested => trivial
  | forCycle => exact hx
  | forTransfer => simp [State.WaitHolds, State.abandonedRemains, ht, hd] at hx

/-- The transfer of a cell's operation has left the port, and the operation is over. -/
theorem State.Orderly.endOwn (h : s.Orderly todo) {t : Transfer} (ht : s.mem.transfer = some t)
    (hq : t.request.requester = .internal n ∨ t.request.requester = .processor (.cellWrite n)) :
    (s.freed.clearOp n).Orderly todo where
  startUp := h.startUp
  loading p := absurd p (h.not_loading_of_requester (MemPort.mem_requesters_transfer ht))
  port := (h.port.with_mem (MemPort.procJobs_free h.port.jobs_le) (by simp)).of_eq rfl rfl rfl rfl rfl (by simp)
  request := by
    have hd : t.dropped = false := by
      rw [← Bool.not_eq_true]
      intro hd
      have := h.port.dropped t ht hd
      rcases hq with e | e <;> rw [e] at this <;> exact nomatch this
    exact h.request.clearOp hq (MemPort.count_requesters_free ht) h.request.queue h.request.place
      fun _ => State.waitHolds_free ht hd

/-- The transfer of a PASS, of a FILL-CHECK or of the read of a cell word has left the port. -/
theorem State.Orderly.endPlain (h : s.Orderly todo) {t : Transfer} (ht : s.mem.transfer = some t)
    (hq : ∀ n, t.request.requester ≠ .internal n ∧ t.request.requester ≠ .processor (.cellWrite n))
    (hd : t.dropped = false) : s.freed.Orderly todo where
  startUp := h.startUp
  loading p := absurd p (h.not_loading_of_requester (MemPort.mem_requesters_transfer ht))
  port := h.port.with_mem (MemPort.procJobs_free h.port.jobs_le) (by simp)
  request :=
    { queue := h.request.queue
      place := h.request.place
      cell := fun n => by
        refine (h.request.cell n).of_eq rfl rfl rfl ?_ ?_ fun _ => State.waitHolds_free ht hd
        · rw [MemPort.count_requesters_free ht]; simp [(hq n).1]
        · rw [MemPort.count_requesters_free ht]; simp [(hq n).2] }

/-- R23, R97: the dropped transfer has left the port, and the new reads that waited for it are requested. -/
theorem State.Orderly.endDropped (h : s.Orderly todo) {t : Transfer} (ht : s.mem.transfer = some t)
    (hd : t.dropped = true) :
    (s.freed.releaseAbandoned).Orderly todo := by
  have hq (n : Fin 8) : t.request.requester ≠ .internal n ∧ t.request.requester ≠ .processor (.cellWrite n) := by
    have := h.port.dropped t ht hd
    constructor <;> intro e <;> rw [e] at this <;> exact nomatch this
  have hmem : (s.freed.releaseAbandoned).mem =
      { transfer := none, place := s.mem.place
        queue := s.mem.queue ++ octOrder.filterMap fun n => (s.cell n).readRequest .forTransfer n } :=
    State.mem_releaseAll ..
  refine ⟨?_, fun p => ?_, ?_, ?_⟩
  · simpa [State.StartUpLaw] using h.startUp
  · exact absurd (by simpa using p) (h.not_loading_of_requester (MemPort.mem_requesters_transfer ht))
  · refine (h.port.with_mem (MemPort.procJobs_free h.port.jobs_le) (by simp)).of_eq (by simp) (by simp) ?_ (by simp)
      (by simp [State.outcome?]) (by simp [hmem])
    exact MemPort.procJobs_of_eq (by rw [hmem]) (by rw [hmem])
  · refine h.request.released (w := .forTransfer) (by simp) (fun m => State.cell_releaseAll ..) (by rw [hmem])
      (by rw [hmem]; exact h.request.place) (fun m q hm => ?_) (fun x hx => ?_)
    · rw [hmem]
      refine (MemPort.count_requesters_append { s.mem with transfer := none } _ q).trans ?_
      rw [MemPort.count_requesters_free ht]
      simp only [List.mem_cons, List.not_mem_nil, or_false] at hm
      rcases hm with rfl | rfl
      · simp [(hq m).1]
      · simp [(hq m).2]
    · cases x with
      | requested => exact fun _ => trivial
      | forCycle => simp [State.WaitHolds]
      | forTransfer => exact absurd rfl hx

/-- R12: an internal request has left the list, and its operation is over. -/
theorem State.Orderly.dequeueOwn (h : s.Orderly todo) {r : Request} {rest : List Request} (hq : s.mem.queue = r :: rest)
    (hr : r.requester = .internal n) :
    (State.clearOp n { s with mem := { s.mem with queue := rest } }).Orderly todo where
  startUp := h.startUp
  loading p := absurd p (h.not_loading_of_requester (q := r.requester) (by simp [MemPort.requesters, hq]))
  port := h.port.of_eq rfl rfl rfl rfl rfl h.port.dropped
  request := h.request.clearOp (.inl hr) (MemPort.count_requesters_dequeue hq)
    (fun x hx => h.request.queue x (hq ▸ List.mem_cons_of_mem _ hx)) h.request.place fun x => by cases x <;> exact id

/-- R20: a request that waited is granted the free port. -/
theorem State.Orderly.granted (h : s.Orderly todo) (ht : s.mem.transfer = none) {m : MemPort} {t : Transfer}
    (hm : m.transfer = some t) (hd : t.dropped = false)
    (count : ∀ q, m.requesters.count q = s.mem.requesters.count q) (jobs : m.procJobs = s.mem.procJobs)
    (queue : ∀ r ∈ m.queue, r ∈ s.mem.queue) (place : ∀ r ∈ m.place, r ∈ s.mem.place) :
    State.Orderly { s with mem := m } todo where
  startUp := h.startUp
  loading p := by
    refine absurd p (h.not_loading_of_requester (q := t.request.requester) ?_)
    rw [← List.count_pos_iff, ← count, List.count_pos_iff]
    exact MemPort.mem_requesters_transfer hm
  port := h.port.with_mem (.inl jobs) (by simp [hm, hd])
  request :=
    { queue := fun r hr => h.request.queue r (queue r hr)
      place := fun r hr => h.request.place r (place r hr)
      cell := fun n => by
        refine (h.request.cell n).of_eq rfl rfl rfl (count _) (count _) fun x hx => ?_
        cases x with
        | requested => trivial
        | forCycle => exact hx
        | forTransfer => simp [State.WaitHolds, State.abandonedRemains, ht] at hx }

end
end Sys2Proof.Machine
end

section
namespace Sys2Proof.Machine

section
variable {s : State} {todo : List (Fin 8)} {n : Fin 8} {d : CellDef}

/-! ## Evaluations (R76 to R80) -/

/-- What a processor write needs: an ACTIVE port whose cycle has no work at the memory port and does not wait. -/
def State.ReadyForWrite (s : State) : Prop :=
  s.port.state = .active ∧ s.mem.procJobs = [] ∧ s.guard.waitingWrite = none

theorem State.ReadyForWrite.of_sameTraffic {t : State} (h : s.ReadyForWrite) (k : s.SameTraffic t) :
    t.ReadyForWrite := by
  rw [State.ReadyForWrite, k.port, k.mem, k.waiting]
  exact h

theorem State.Orderly.completeReady (h : s.Orderly todo) (hr : s.ReadyForWrite) (data : Option Word) :
    (s.completeCycle data).Orderly todo := h.completeCycle (.inl hr.1) hr.2.1 hr.2.2 data

/-- An evaluation of a cell with nothing in flight. -/
theorem State.Orderly.evaluate (h : s.Orderly todo) (ho : (s.cell n).op = none) {o : Origin}
    (hp : o = .processor → s.ReadyForWrite) (p : Nat) : (s.evaluate n o p).Orderly todo := by
  rcases State.evaluate_endsInWrite n o p s with e | ⟨d, hd, u, hu, e | ⟨v, isSet, e⟩⟩
  · rwa [e]
  · rw [e]
    exact h.of_sameTraffic hu
  · rw [e]
    exact (h.of_sameTraffic hu).startWrite ((hu.op n).trans ho) ((hu.defn n).trans hd)
      (fun k => (hp k).of_sameTraffic hu) v isSet

theorem State.Orderly.evaluatePending (h : s.Orderly todo) (ho : (s.cell n).op = none) {o : Origin}
    (hp : o ≠ .processor) : (s.evaluatePending n o).Orderly todo := by
  unfold State.evaluatePending
  split
  · exact h
  · split
    · exact h
    · exact h.evaluate ho (absurd · hp) _

theorem State.cell_startWrite (n m : Fin 8) (d : CellDef) (o : Origin) (v : Nat) (isSet : Bool) (s : State) :
    (s.startWrite n d o v isSet).cell m =
      if m = n then { s.cell n with op := some (.evaluation o v isSet) } else s.cell m := by
  cases o <;> exact State.cell_setOp ..

/-- An evaluation changes whether no cell is LIVE. -/
theorem State.evaluate_live_isSome (n : Fin 8) (o : Origin) (p : Nat) (s : State) (m : Fin 8) :
    ((s.evaluate n o p).cell m).live.isSome = (s.cell m).live.isSome := by
  rcases State.evaluate_endsInWrite n o p s with e | ⟨d, -, u, hu, e | ⟨v, isSet, e⟩⟩
  · rw [e]
  · rw [e, hu.live]
  · rw [e, State.cell_startWrite]
    split
    · rename_i k
      rw [k, ← hu.live]
    · exact hu.live m

/-! ## The write of the cycle in progress (R82 to R84) -/

/-- The evaluation of the cycle's write, and the completion of a cycle that it leaves without a write. -/
theorem State.Orderly.evaluateWrite (h : s.Orderly todo) (ho : (s.cell n).op = none) (hr : s.ReadyForWrite) (p : Nat) :
    ((s.evaluate n .processor p).finishWrite n).Orderly todo := by
  have complete {u : State} (hu : s.SameTraffic u) : (u.finishWrite n).Orderly todo := by
    rw [State.finishWrite, hu.op, ho]
    exact (h.of_sameTraffic hu).completeReady (hr.of_sameTraffic hu) none
  have e := State.evaluate_endsInWrite n .processor p s
  have hev := h.evaluate (o := .processor) ho (fun _ => hr) p
  rcases e with e | ⟨d, -, u, hu, e | ⟨v, isSet, e⟩⟩
  · rw [e]
    exact complete (.refl s)
  · rw [e]
    exact complete hu
  · have hop : ((s.evaluate n .processor p).cell n).op.isSome = true := by rw [e, State.cell_startWrite]; simp
    rwa [State.finishWrite, if_pos hop]

theorem State.Orderly.setPending (h : s.Orderly todo) (hr : s.ReadyForWrite) (half : Half) (v : Word) :
    (s.setPending n half v).Orderly todo :=
  have same :=
    State.sameTraffic_modifyLive n (fun x => { x with half := some { half := half, value := v, age := 0 } }) s
  (h.of_sameTraffic same).completeReady (hr.of_sameTraffic same) none

/-- R82 to R84, R98: the write of the cycle in progress at a cell with nothing in flight. -/
theorem State.Orderly.takeWrite (h : s.Orderly todo) (ho : (s.cell n).op = none) (hr : s.ReadyForWrite) :
    (s.takeWrite n).Orderly todo := by
  unfold State.takeWrite
  split
  · exact h
  · split
    · split
      · exact h.evaluateWrite ho hr _
      · unfold State.takeHalf
        split
        · exact h.setPending hr ..
        · split
          · exact h.setPending hr ..
          · exact h.evaluateWrite ho hr _
    · exact h.completeReady hr none

theorem State.completeCycle_live (data : Option Word) (s : State) (m : Fin 8) :
    ((s.completeCycle data).cell m).live = (s.cell m).live := by
  rw [State.cell_completeCycle]
  unfold Cell.released
  split <;> rfl

/-- The write of the cycle in progress leaves the cell LIVE, or with no operation. -/
theorem State.takeWrite_op_or_live (ho : (s.cell n).op = none) :
    ((s.takeWrite n).cell n).op = none ∨ ((s.takeWrite n).cell n).live.isSome = true := by
  have finished (p : Nat) (hl : (s.cell n).live.isSome = true) :
      (((s.evaluate n .processor p).finishWrite n).cell n).live.isSome = true := by
    unfold State.finishWrite
    split
    · rwa [State.evaluate_live_isSome]
    · rwa [State.completeCycle_live, State.evaluate_live_isSome]
  have pended (half : Half) (v : Word) (hl : (s.cell n).live.isSome = true) :
      ((s.setPending n half v).cell n).live.isSome = true := by
    rw [State.setPending, State.completeCycle_live]
    simpa using hl
  unfold State.takeWrite
  split
  · exact .inl ho
  · split
    · rename_i hv
      have hl : (s.cell n).live.isSome = true := by rw [hv]; rfl
      refine .inr ?_
      split
      · exact finished _ hl
      · unfold State.takeHalf
        split
        · exact pended _ _ hl
        · split
          · exact pended _ _ hl
          · exact finished _ hl
    · left
      rw [State.cell_completeCycle, Cell.released, Cell.waits, ho]
      exact ho

/-! ## What follows the end of an operation (R82, R90, R91) -/

/-- The waiting write leaves its place. -/
theorem State.Orderly.clearWaiting (h : s.Orderly todo) :
    State.Orderly { s with guard := { s.guard with waitingWrite := none } } todo where
  startUp := h.startUp
  loading := h.loading
  port := ⟨h.port.active_iff, h.port.decided, h.port.presented, h.port.busReset, h.port.closed_iff, h.port.jobs_le,
    h.port.jobs_nil, h.port.jobs_outcome, fun e => by simp at e, h.port.dropped⟩
  request := h.request.of_eq rfl rfl id

/-- A cycle whose write waits has no work at the memory port. -/
theorem State.PortOrder.ready_of_waiting (h : s.PortOrder) (hw : s.guard.waitingWrite = some n) :
    State.ReadyForWrite { s with guard := { s.guard with waitingWrite := none } } :=
  have w : s.guard.waitingWrite.isSome = true := by simp [hw]
  ⟨h.active_of_waiting w, (h.waiting w).1, rfl⟩

theorem State.Orderly.takeWaiting (h : s.Orderly todo) : (s.takeWaiting n).Orderly todo := by
  unfold State.takeWaiting
  split
  · rename_i w
    obtain ⟨hw, ho⟩ := w
    exact h.clearWaiting.takeWrite ho (h.port.ready_of_waiting hw)
  · exact h

theorem State.takeWaiting_op_or_live (ho : (s.cell n).op = none) :
    ((s.takeWaiting n).cell n).op = none ∨ ((s.takeWaiting n).cell n).live.isSome = true := by
  unfold State.takeWaiting
  split
  · exact State.takeWrite_op_or_live (s := { s with guard := { s.guard with waitingWrite := none } }) ho
  · exact .inl ho

theorem State.Orderly.settle (h : s.Orderly todo) : (s.settle n).Orderly todo := by
  unfold State.settle
  split
  · exact h
  · split
    · rename_i w
      have he := h.evaluatePending (o := .ignition) w.2 (by simp)
      simp only []
      split
      · exact he
      · exact he.of_sameTraffic (State.sameTraffic_settleFloor ..)
    · exact h

theorem State.Orderly.afterOp (h : s.Orderly todo) : (s.afterOp n).Orderly todo := h.takeWaiting.settle

/-! ## The ends of operations (R80, R88, R89, R95, R98, R101) -/

/-- Another live state and loaded floor of an enabled cell change nothing of the traffic law. -/
theorem State.Orderly.replaceCell {c e : Cell} (h : (s.setCell n c).Orderly todo) (defn : e.defn = c.defn)
    (op : e.op = c.op) (stale : e.stale = c.stale) (hd : c.defn.isSome = true) : (s.setCell n e).Orderly todo where
  startUp := h.startUp
  loading p := by
    have := (h.loading p).2.1 n
    rw [State.cell_setCell_self] at this
    rw [this] at hd
    exact nomatch hd
  port := h.port.of_eq rfl rfl rfl rfl rfl h.port.dropped
  request := by
    refine ⟨h.request.queue, h.request.place, fun m => ?_⟩
    have cell : ((s.setCell n e).cell m).defn = ((s.setCell n c).cell m).defn ∧
        ((s.setCell n e).cell m).op = ((s.setCell n c).cell m).op ∧
        ((s.setCell n e).cell m).stale = ((s.setCell n c).cell m).stale := by
      rw [State.cell_setCell, State.cell_setCell]
      split
      · exact ⟨defn, op, stale⟩
      · exact ⟨rfl, rfl, rfl⟩
    exact (h.request.cell m).of_eq cell.1 cell.2.1 cell.2.2 rfl rfl fun x => by cases x <;> exact id

theorem State.staleEnd_eq (n : Fin 8) (s : State) : s.staleEnd n =
    if (((s.clearOp n).takeWaiting n).cell n).live.isNone then ((s.clearOp n).takeWaiting n).startNewRead n
    else (s.clearOp n).takeWaiting n := rfl

/-- R101: an operation of a definition that is gone ends. -/
theorem State.Orderly.staleEnd (h : (s.clearOp n).Orderly todo) : (s.staleEnd n).Orderly todo := by
  have ho : ((s.clearOp n).cell n).op = none := by rw [State.clearOp, State.cell_setCell_self]
  have hw : ((s.clearOp n).takeWaiting n).Orderly todo := h.takeWaiting
  rw [State.staleEnd_eq]
  split
  · rename_i hl
    refine hw.startNewRead ((State.takeWaiting_op_or_live ho).resolve_right ?_)
    simpa using hl
  · exact hw

/-- The end of an operation of the live definition, but for the waiting write and the due mark. -/
theorem State.Orderly.becomeLive (h : (s.clearOp n).Orderly todo) (hs : (s.cell n).stale = false)
    (hd : (s.cell n).defn.isSome = true) (v : LiveState) : (s.becomeLive n v).Orderly todo :=
  h.replaceCell rfl rfl hs hd

theorem State.Orderly.opOver (h : (s.clearOp n).Orderly todo) (hs : (s.cell n).stale = false)
    (hd : (s.cell n).defn.isSome = true) : (s.setOp n none).Orderly todo :=
  h.replaceCell rfl rfl hs hd

theorem State.Orderly.scanReadEnd (h : (s.clearOp n).Orderly todo) (hs : (s.cell n).stale = false)
    (hd : (s.cell n).defn = some d) (r : TransferResult) : (s.scanReadEnd n d r).Orderly todo := by
  have live (v : LiveState) : (s.becomeLive n v).Orderly todo := h.becomeLive hs (by simp [hd]) v
  unfold State.scanReadEnd
  simp only []
  split
  · exact live _
  · split
    · exact live _
    · have same := ((State.sameTraffic_takeRecord (cellReport .counterRegressed n none d.address (readValue d r)
          (some ((s.cell n).loadedFloor.getD 0))) (s.becomeLive n (.begin ((s.cell n).loadedFloor.getD 0)
          ((s.cell n).loadedFloor.getD 0) false))).trans (State.sameTraffic_scoreIncrement 8 .regression _)).trans
        (State.sameTraffic_alertCause _)
      have cell (v : LiveState) : (s.becomeLive n v).cell n =
          { s.cell n with live := some v, loadedFloor := none, op := none } := State.cell_setCell_self ..
      refine ((live _).of_sameTraffic same).startInternal ?_ ?_ rfl .write _
      · rw [same.op, cell]
      · rw [same.defn, cell]
        exact hd

theorem State.Orderly.newReadEnd (h : (s.clearOp n).Orderly todo) (hs : (s.cell n).stale = false)
    (hd : (s.cell n).defn.isSome = true) (r : TransferResult) : (s.newReadEnd n d r).Orderly todo := by
  unfold State.newReadEnd
  split
  · exact h.opOver hs hd
  · exact (h.becomeLive hs hd _).of_sameTraffic (State.sameTraffic_queueItem ..)

theorem State.Orderly.evaluationEnd (h : (s.clearOp n).Orderly todo) (hs : (s.cell n).stale = false)
    (hd : (s.cell n).defn.isSome = true) (v : Nat) (isSet : Bool) (r : TransferResult) :
    (s.evaluationEnd n v isSet r).Orderly todo := by
  have ended := h.opOver hs hd
  have changed (f : LiveState → LiveState) := ended.of_sameTraffic (State.sameTraffic_modifyLive n f _)
  unfold State.evaluationEnd
  simp only []
  split
  · exact ended
  · split
    · exact changed _
    · split
      · exact (changed _).of_sameTraffic (State.sameTraffic_queueItem ..)
      · exact changed _

theorem State.Orderly.restoreEnd (h : (s.clearOp n).Orderly todo) (hs : (s.cell n).stale = false)
    (hd : (s.cell n).defn.isSome = true) (r : TransferResult) : (s.restoreEnd n r).Orderly todo := by
  have ended := h.opOver hs hd
  unfold State.restoreEnd
  simp only []
  split
  · exact ended.of_sameTraffic (State.sameTraffic_modifyLive ..)
  · exact ended

theorem State.Orderly.correctionEnd (h : (s.clearOp n).Orderly todo) (hs : (s.cell n).stale = false)
    (hd : (s.cell n).defn.isSome = true) (r : TransferResult) : (s.correctionEnd n r).Orderly todo := by
  have ended := h.opOver hs hd
  unfold State.correctionEnd
  simp only []
  split
  · exact ended.of_sameTraffic (State.sameTraffic_modifyLive ..)
  · exact ended

/-- The end of a cell's transfer reaches the counter guard: the operation is over, and what follows keeps the law. -/
theorem State.Orderly.opEnd (h : (s.clearOp n).Orderly todo) (hop : (s.cell n).op.isSome = true)
    (hd : (s.cell n).stale = false → (s.cell n).defn.isSome = true) (r : TransferResult) :
    (s.opEnd n r).Orderly todo := by
  unfold State.opEnd
  split
  · exact h.staleEnd
  · rename_i hs
    rw [Bool.not_eq_true] at hs
    obtain ⟨d, hd⟩ := Option.isSome_iff_exists.1 (hd hs)
    have hds : (s.cell n).defn.isSome = true := by rw [hd]; rfl
    obtain ⟨op, hop⟩ := Option.isSome_iff_exists.1 hop
    rw [hd, hop]
    cases op with
    | scanRead => exact (h.scanReadEnd hs hd r).afterOp
    | newRead x => exact (h.newReadEnd hs hds r).afterOp
    | correction => exact (h.correctionEnd hs hds r).afterOp
    | restore => exact (h.restoreEnd hs hds r).afterOp
    | evaluation o v isSet => exact (h.evaluationEnd hs hds v isSet r).afterOp

end
end Sys2Proof.Machine
end

section
namespace Sys2Proof.Machine

section
variable {s : State} {todo : List (Fin 8)} {n : Fin 8} {d : CellDef}

/-! ## A cycle is taken (R1, R3, R47) -/

/-- A cycle taken by an IDLE port is decided, and has no work yet. -/
theorem State.Orderly.decided (h : s.Orderly todo) (hi : s.port.state = .idle) (c : Cycle) :
    (s.decided c).Orderly todo ∧ (s.decided c).ReadyForWrite := by
  have hrun := h.running (by simp [hi])
  have hj : s.mem.procJobs = [] := h.port.jobs_nil (.inl hi)
  have hw : s.guard.waitingWrite = none := h.port.waiting_none (.inl (by simp [hi]))
  have hp : ¬ s.port.presented.isSome = true := fun e => by simpa [hi] using h.port.presented e
  have hb : ¬ s.port.busReset = true := fun e => by simpa [hi] using h.port.busReset e
  refine ⟨.of_running hrun ?_ ?_, rfl, hj, hw⟩
  · exact ⟨by simp, fun _ => rfl, (absurd · hp), (absurd · hb), by simp [hrun], h.port.jobs_le, fun _ => hj,
      by simp [hj], by simp [hw], h.port.dropped⟩
  · exact h.request.of_eq rfl rfl fun _ => rfl

theorem State.Orderly.denyCycle (h : s.Orderly todo) (hr : s.ReadyForWrite) (c : Cycle) (d : DecisionRecord) :
    (s.denyCycle c d).Orderly todo :=
  (h.completeReady hr _).of_sameTraffic (State.sameTraffic_denial ..)

/-- R81, R82: a write at a cell word. -/
theorem State.Orderly.counterWrite (h : s.Orderly todo) (hr : s.ReadyForWrite) (ho : s.outcome? = some .counter)
    (c : Cycle) : (s.counterWrite n c).Orderly todo := by
  unfold State.counterWrite
  split
  · have same := ((State.sameTraffic_takeRecord (cellReport .counterRefused n (some .partialLanes)
      (byteAddress c.address) c.data.toNat none) s).trans (State.sameTraffic_scoreIncrement 1 .refusal _)).trans
      (State.sameTraffic_alertCause _)
    exact (h.of_sameTraffic same).completeReady (hr.of_sameTraffic same) none
  · split
    · exact
        { startUp := h.startUp
          loading := h.loading
          port := ⟨h.port.active_iff, h.port.decided, h.port.presented, h.port.busReset, h.port.closed_iff,
            h.port.jobs_le, h.port.jobs_nil, h.port.jobs_outcome, fun _ => ⟨hr.2.1, ho⟩, h.port.dropped⟩
          request := h.request.of_eq rfl rfl id }
    · rename_i hop
      exact h.takeWrite (by simpa using hop) hr

theorem State.Orderly.counterRead (h : s.Orderly todo) (hr : s.ReadyForWrite) (c : Cycle) (w : MatchedWindow) :
    (s.counterRead n c w).Orderly todo := by
  unfold State.counterRead
  split
  · exact h.completeReady hr _
  · exact h.enqueueProcessor hr.1 hr.2.1 hr.2.2 rfl (fun _ e => nomatch e) (fun e => nomatch e)

/-- R47: what follows at once from the outcome of the cycle in progress. -/
theorem State.Orderly.carryOut (h : s.Orderly todo) (hr : s.ReadyForWrite) (c : Cycle) (d : DecisionRecord)
    (hd : s.outcome? = some d.outcome) : (s.carryOut c d).Orderly todo := by
  unfold State.carryOut
  split
  · rename_i ho
    have same := State.sameTraffic_chargePass c d s
    obtain ⟨ha, hj, hw⟩ := hr.of_sameTraffic same
    refine (h.of_sameTraffic same).enqueueProcessor ha hj hw rfl (fun _ e => nomatch e) fun _ => ?_
    rw [same.outcome, hd, ho]
    exact .inl rfl
  · exact h.denyCycle hr c d
  · exact h.denyCycle hr c d
  · rename_i ho
    refine h.enqueueProcessor hr.1 hr.2.1 hr.2.2 rfl (fun _ e => nomatch e) fun _ => ?_
    rw [hd, ho]
    exact .inr rfl
  · rename_i ho
    rw [ho] at hd
    split
    · exact h
    · split
      · exact h.counterWrite hr hd c
      · exact h.counterRead hr c _

/-- R1, R3: an IDLE port takes a cycle. -/
theorem State.Orderly.takeCycle (h : s.Orderly todo) (hi : s.port.state = .idle) (l : CycleLines) :
    (s.takeCycle l).Orderly todo := by
  have complete {u : State} (same : s.SameTraffic u) (data : Option Word) : (u.completeCycle data).Orderly todo := by
    refine (h.of_sameTraffic same).completeCycle (.inr (by rw [same.port, hi])) ?_ ?_ data
    · rw [same.mem]
      exact h.port.jobs_nil (.inl hi)
    · rw [same.waiting]
      exact h.port.waiting_none (.inl (by simp [hi]))
  have failed (reason : Reason) : (s.parityFailure reason l).Orderly todo :=
    complete ((State.sameTraffic_takeRecord ..).trans (State.sameTraffic_alertCause _)) _
  unfold State.takeCycle
  split
  · exact failed _
  · split
    · exact failed _
    · exact complete (.refl s) _
    · obtain ⟨hd, hr⟩ := h.decided hi _
      exact hd.carryOut hr _ _ rfl

/-! ## The port opens (R2, R24) -/

/-- A port with no work left opens IDLE, with no cycle presented. -/
theorem State.Orderly.reopen (h : s.Orderly todo) (ha : s.port.state ≠ .active) (hb : s.port.busReset = false)
    (hj : s.mem.procJobs = []) (start : StartUp) (hrun : start.phase = .running) :
    State.Orderly { s with start := start, port := { s.port with state := .idle, presented := none } } todo := by
  have hc : s.port.cycle.isSome = false := by simpa [ha] using h.port.active_iff.symm
  have ho := h.port.outcome_none ha
  have hw := h.port.waiting_none (.inl ha)
  refine .of_running hrun ?_ ?_
  · refine ⟨by simp [hc], ?_, by simp, by simp [hb], by simp [hrun], h.port.jobs_le, fun _ => hj, by simp [hj],
      by simp [hw], h.port.dropped⟩
    change s.outcome?.isSome = true → _
    simp [ho]
  · exact h.request.of_eq rfl rfl fun e => absurd e ha

/-- R2: and takes the cycle presented. -/
theorem State.Orderly.openIdle (h : s.Orderly todo) (ha : s.port.state ≠ .active) (hb : s.port.busReset = false)
    (hj : s.mem.procJobs = []) (start : StartUp) (hrun : start.phase = .running) :
    (State.takePresented { s with start := start, port := { s.port with state := .idle } }).Orderly todo := by
  have hopen := h.reopen ha hb hj start hrun
  unfold State.takePresented
  split
  · rename_i e
    have e : s.port.presented = none := e
    rw [← e] at hopen
    exact hopen
  · exact hopen.takeCycle rfl _

/-- A RESET-HELD port that no work of the counter guard holds has none. -/
theorem State.PortOrder.no_jobs (h : s.PortOrder) (ha : s.port.state ≠ .active)
    (hc : s.mem.counterRemains = false) : s.mem.procJobs = [] := by
  have none_ofCycle : s.mem.procJobs.any ProcJob.ofCycle = false := by
    rw [← Bool.not_eq_true]
    intro e
    have := h.jobs_outcome e
    rw [h.outcome_none ha] at this
    simp at this
  have ofCounter {q : Requester} (hq : q.forCounter = false) (hany : q.jobs.any ProcJob.ofCycle = false) :
      q.jobs = [] := by
    cases q with
    | internal n => rfl
    | processor j => cases j <;> simp_all [Requester.forCounter, ProcJob.ofCycle]
  rw [MemPort.counterRemains, Bool.or_eq_false_iff] at hc
  rw [MemPort.procJobs_eq, List.any_append, Bool.or_eq_false_iff] at none_ofCycle
  rw [MemPort.procJobs_eq, List.append_eq_nil_iff]
  constructor
  · cases ht : s.mem.transfer with
    | none => rfl
    | some t =>
      rw [ht] at hc none_ofCycle
      cases hd : t.dropped with
      | true => simp [hd]
      | false => simpa [hd] using ofCounter hc.1 (by simpa [hd] using none_ofCycle.1)
  · cases hr : s.mem.place with
    | none => rfl
    | some r =>
      rw [hr] at hc none_ofCycle
      exact ofCounter hc.2 none_ofCycle.2

/-- R2, R24: the port leaves RESET-HELD, or stays. -/
theorem State.Orderly.leaveResetHeld (h : s.Orderly todo) : s.leaveResetHeld.Orderly todo := by
  unfold State.leaveResetHeld
  split
  · rename_i w
    obtain ⟨hs, hb, hc⟩ := w
    have ha : s.port.state ≠ .active := by simp [hs]
    exact h.openIdle ha hb (h.port.no_jobs ha hc) s.start (h.running (by simp [hs]))
  · exact h

/-! ## The arbiter (R12, R20, R21) -/

/-- R12: the cell of an internal write that is not made is told. -/
theorem State.Orderly.tellNotMade (h : s.Orderly []) {r : Request} {rest : List Request}
    (hq : s.mem.queue = r :: rest) :
    (State.tellNotMade r { s with mem := { s.mem with queue := rest } }).Orderly [] := by
  have hi := h.request.queue r (by simp [hq])
  unfold State.tellNotMade
  split
  · rename_i n hr
    obtain ⟨op, hop⟩ := (h.request.cell n).op_of_requester (q := r.requester) (.inl hr)
      (by simp [MemPort.requesters, hq])
    have hop' : (s.cell n).op.isSome = true := by rw [hop]; rfl
    refine (h.dequeueOwn hq hr).opEnd hop' (fun hs : (s.cell n).stale = false => ?_) notMade
    exact ((h.request.cell n).owner (by simp) hop').resolve_left (by simpa using hs)
  · rename_i j hr
    rw [hr] at hi
    exact nomatch hi

theorem State.Orderly.serveWith (wide : Bool) : ∀ (fuel : Nat) (s : State), s.Orderly [] →
    (State.serveWith wide fuel s).Orderly []
  | 0, _, h => h
  | fuel + 1, s, h => by
    rw [State.serveWith_succ]
    split
    · exact h
    · rename_i r rest ht hq
      simp only []
      split
      · exact State.Orderly.serveWith wide fuel _ (h.tellNotMade hq)
      · have hi := h.request.queue r (by simp [hq])
        refine h.granted ht rfl rfl (fun q => ?_) ?_ (fun x hx => by simp [hq, hx]) fun _ => id
        · simp only [MemPort.requesters, ht, hq, List.count_append, Option.map_some, Option.map_none,
            Option.toList_some, Option.toList_none, List.map_cons, List.count_cons, List.count_nil, Request.start]
          omega
        · rw [MemPort.procJobs_eq, MemPort.procJobs_eq, ht]
          cases e : r.requester with
          | internal n => simp [Request.start, e]
          | processor j => rw [e] at hi; exact nomatch hi
    · rename_i r ht hq hp
      refine h.granted ht rfl rfl (fun q => ?_) ?_ (by simp [hq]) (by simp)
      · simp only [MemPort.requesters, ht, hq, hp, List.count_append, Option.map_some, Option.map_none,
          Option.toList_some, Option.toList_none, List.map_nil, List.count_nil, Request.start]
        omega
      · rw [MemPort.procJobs_eq, MemPort.procJobs_eq, ht, hp]
        simp [Request.start]
    · exact h

/-- R20, R21: after the arbiter's grant at the end of a command the traffic law holds whole. -/
theorem State.Orderly.serve (h : s.Orderly []) (wide : Bool) : (s.serve wide).TrafficLaw :=
  (State.trafficLaw_iff _).2 ⟨h.serveWith wide _ s, State.serve_served wide s⟩

end
end Sys2Proof.Machine
end

section
namespace Sys2Proof.Machine

section
variable {s : State} {todo : List (Fin 8)} {n : Fin 8} {d : CellDef}

/-! ## A record does not depend on the memory port -/

theorem State.takeRecord_mem (r : Report) (m : MemPort) (s : State) :
    State.takeRecord r { s with mem := m } = { s.takeRecord r with mem := m } :=
  (State.takeRecord_with r s.port s.decision s.guard m s.grants s).trans (by simp)

theorem State.reportTimeout_mem (t : Transfer) (m : MemPort) (s : State) :
    State.reportTimeout t { s with mem := m } = { s.reportTimeout t with mem := m } := by
  unfold State.reportTimeout
  split
  · rfl
  · rw [State.takeRecord_mem]
    rfl

/-! ## The end of an operation leaves the ports alone, where no write waits -/

/-- The blocks of the two ports are as they were, the internal list apart. -/
structure State.SamePorts (s t : State) : Prop where
  port : t.port = s.port
  transfer : t.mem.transfer = s.mem.transfer
  place : t.mem.place = s.mem.place
  waiting : t.guard.waitingWrite = s.guard.waitingWrite

theorem State.SamePorts.refl (s : State) : s.SamePorts s := ⟨rfl, rfl, rfl, rfl⟩

theorem State.SamePorts.trans {s t u : State} (h : s.SamePorts t) (k : t.SamePorts u) : s.SamePorts u :=
  ⟨k.port.trans h.port, k.transfer.trans h.transfer, k.place.trans h.place, k.waiting.trans h.waiting⟩

theorem State.SameTraffic.samePorts {s t : State} (h : s.SameTraffic t) : s.SamePorts t :=
  ⟨h.port, by rw [h.mem], by rw [h.mem], h.waiting⟩

theorem State.samePorts_startInternal (n : Fin 8) (d : CellDef) (dir : Direction) (v : Nat) (op : Operation)
    (s : State) :
    s.SamePorts (s.startInternal n d dir v op) := ⟨rfl, rfl, rfl, rfl⟩

theorem State.samePorts_startNewRead (n : Fin 8) (s : State) : s.SamePorts (s.startNewRead n) := by
  unfold State.startNewRead
  split
  · exact .refl s
  · split
    · exact ⟨rfl, rfl, rfl, rfl⟩
    · exact samePorts_startInternal ..

theorem State.samePorts_evaluate {o : Origin} (ho : o ≠ .processor) (n : Fin 8) (p : Nat) (s : State) :
    s.SamePorts (s.evaluate n o p) := by
  rcases State.evaluate_endsInWrite n o p s with e | ⟨d, -, u, hu, e | ⟨v, isSet, e⟩⟩
  · rw [e]
    exact .refl s
  · rw [e]
    exact hu.samePorts
  · rw [e]
    cases o with
    | processor => exact absurd rfl ho
    | hold => exact hu.samePorts.trans (samePorts_startInternal ..)
    | ignition => exact hu.samePorts.trans (samePorts_startInternal ..)

theorem State.samePorts_settle (n : Fin 8) (s : State) : s.SamePorts (s.settle n) := by
  have pending : s.SamePorts (s.evaluatePending n .ignition) := by
    unfold State.evaluatePending
    split
    · exact .refl s
    · split
      · exact .refl s
      · exact samePorts_evaluate (by simp) ..
  unfold State.settle
  split
  · exact .refl s
  · split
    · simp only []
      split
      · exact pending
      · exact pending.trans (sameTraffic_settleFloor ..).samePorts
    · exact .refl s

theorem State.takeWaiting_of_none (hw : s.guard.waitingWrite = none) (n : Fin 8) : s.takeWaiting n = s := by
  rw [State.takeWaiting, hw, if_neg (by simp)]

theorem State.samePorts_afterOp (hw : s.guard.waitingWrite = none) (n : Fin 8) : s.SamePorts (s.afterOp n) := by
  rw [State.afterOp, State.takeWaiting_of_none hw]
  exact samePorts_settle ..

theorem State.samePorts_scanReadEnd (n : Fin 8) (d : CellDef) (r : TransferResult) (s : State) :
    s.SamePorts (s.scanReadEnd n d r) := by
  have live (v : LiveState) : s.SamePorts (s.becomeLive n v) := ⟨rfl, rfl, rfl, rfl⟩
  unfold State.scanReadEnd
  simp only []
  split
  · exact live _
  · split
    · exact live _
    · exact ⟨by simp, by simp, by simp, by simp [State.becomeLive]⟩

/-- Where no write waits, the end of an operation leaves both ports but for the internal list. -/
theorem State.samePorts_opEnd (hw : s.guard.waitingWrite = none) (n : Fin 8) (r : TransferResult) :
    s.SamePorts (s.opEnd n r) := by
  have after {u : State} (h : s.SamePorts u) : s.SamePorts (u.afterOp n) :=
    h.trans (State.samePorts_afterOp (h.waiting.trans hw) n)
  have live (v : LiveState) : s.SamePorts (s.becomeLive n v) := ⟨rfl, rfl, rfl, rfl⟩
  have ended : s.SamePorts (s.setOp n none) := ⟨rfl, rfl, rfl, rfl⟩
  have changed (f : LiveState → LiveState) : s.SamePorts ((s.setOp n none).modifyLive n f) := ⟨rfl, rfl, rfl, rfl⟩
  have queued (w : ItemWrite) {u : State} (h : s.SamePorts u) : s.SamePorts (u.queueItem w) :=
    h.trans (sameTraffic_queueItem ..).samePorts
  unfold State.opEnd
  split
  · rw [State.staleEnd_eq, State.takeWaiting_of_none (s := s.clearOp n) hw]
    split
    · exact State.SamePorts.trans (t := s.clearOp n) ⟨rfl, rfl, rfl, rfl⟩ (samePorts_startNewRead ..)
    · exact ⟨rfl, rfl, rfl, rfl⟩
  · split
    · exact after (samePorts_scanReadEnd ..)
    · refine after ?_
      unfold State.newReadEnd
      split
      · exact ended
      · exact queued _ (live _)
    · refine after ?_
      unfold State.correctionEnd
      simp only []
      split
      · exact changed _
      · exact ended
    · refine after ?_
      unfold State.restoreEnd
      simp only []
      split
      · exact changed _
      · exact ended
    · refine after ?_
      unfold State.evaluationEnd
      simp only []
      split
      · exact ended
      · split
        · exact changed _
        · split
          · exact queued _ (changed _)
          · exact changed _
    · exact .refl s

/-! ## The end of a transfer (R15, R20, R23) -/

/-- The one piece of the processor's work is the transfer in progress, and the port is ACTIVE or RESET-HELD. -/
theorem State.Orderly.own_job (h : s.Orderly todo) {t : Transfer} (ht : s.mem.transfer = some t) {j : ProcJob}
    (hq : t.request.requester = .processor j) (hd : t.dropped = false) :
    s.mem.procJobs = [j] ∧ s.freed.mem.procJobs = [] ∧ s.guard.waitingWrite = none := by
  have hle := h.port.jobs_le
  have jobs : s.mem.procJobs = [j] ++ s.freed.mem.procJobs := by
    rw [MemPort.procJobs_eq, MemPort.procJobs_eq, ht]
    simp [hd, hq]
  have none_left : s.freed.mem.procJobs = [] := by
    rw [jobs] at hle
    simpa using hle
  rw [none_left] at jobs
  exact ⟨jobs, none_left, h.port.waiting_none (.inr (by simp [jobs]))⟩

/-- The transfer of a cycle's own outcome finds its cycle in progress. -/
theorem State.Orderly.active_of_ofCycle (h : s.Orderly todo) {j : ProcJob} (hj : s.mem.procJobs = [j])
    (hc : j.ofCycle = true) :
    s.port.state = .active ∧ (s.outcome? = some .pass ∨ s.outcome? = some .fillCheck) := by
  have ho := h.port.jobs_outcome (by simp [hj, hc])
  exact ⟨h.port.decided (by rcases ho with e | e <;> simp [e]), ho⟩

/-- R59, R60: the fill check of the cycle in progress is judged. -/
theorem State.Orderly.judgeFill (h : s.Orderly todo) (hr : s.ReadyForWrite)
    (ho : s.outcome? = some .pass ∨ s.outcome? = some .fillCheck) (timed : Bool) (word : Word) :
    (s.judgeFill timed word).Orderly todo := by
  unfold State.judgeFill
  split
  · rename_i c d _ hd
    have same : s.SameTraffic
        { s with decision := { s.decision with record := some { d with fill := some .judged } } } :=
      .of_blocks rfl rfl rfl rfl (by simp [State.outcome?, hd]) rfl rfl fun _ => id
    have hs := h.of_sameTraffic same
    have hrs := hr.of_sameTraffic same
    have written := hs.enqueueProcessor (r := cycleRequest c .fillWrite .write d.window) hrs.1 hrs.2.1 hrs.2.2 rfl
      (fun _ e => nomatch e) fun _ => same.outcome ▸ ho
    simp only []
    split
    · exact hs.completeReady hrs none
    · split
      · exact written
      · split
        · exact written.of_sameTraffic (State.sameTraffic_chargeOpt ..)
        · exact hs.denyCycle hrs c d
  · exact h

theorem State.Orderly.completeIfActive (h : s.Orderly todo) (hj : s.mem.procJobs = [])
    (hw : s.guard.waitingWrite = none) (data : Option Word) : (s.completeIfActive data).Orderly todo := by
  unfold State.completeIfActive
  split
  · rename_i ha
    exact h.completeReady ⟨ha, hj, hw⟩ data
  · exact h

/-- The requester of the transfer in progress receives its result. -/
theorem State.Orderly.deliver (h : s.Orderly []) {t : Transfer} (ht : s.mem.transfer = some t) :
    (s.freed.deliver t).Orderly [] := by
  have own (n : Fin 8) (hq : t.request.requester = .internal n ∨ t.request.requester = .processor (.cellWrite n)) :
      (s.freed.opEnd n t.result).Orderly [] := by
    obtain ⟨op, hop⟩ := (h.request.cell n).op_of_requester hq (MemPort.mem_requesters_transfer ht)
    have hop' : (s.cell n).op.isSome = true := by rw [hop]; rfl
    refine (h.endOwn ht hq).opEnd hop' (fun hs : (s.cell n).stale = false => ?_) _
    exact ((h.request.cell n).owner (by simp) hop').resolve_left (by simpa using hs)
  have notDropped {j : ProcJob} (hq : t.request.requester = .processor j) (hj : j.ofCycle = false) :
      t.dropped = false := by
    rw [← Bool.not_eq_true]
    intro hd
    have := h.port.dropped t ht hd
    rw [hq] at this
    cases j <;> simp_all [Requester.cutByReset, ProcJob.ofCycle]
  have cycle {j : ProcJob} (hq : t.request.requester = .processor j) (hj : j.ofCycle = true) {u : State}
      (hu : s.freed.Orderly [] →
        s.freed.ReadyForWrite →
        (s.outcome? = some .pass ∨ s.outcome? = some .fillCheck) → u.Orderly []) :
      (if t.dropped then s.freed.releaseAbandoned else u).Orderly [] := by
    split
    · rename_i hd
      exact h.endDropped ht hd
    · rename_i hd
      rw [Bool.not_eq_true] at hd
      obtain ⟨jobs, left, hw⟩ := h.own_job ht hq hd
      obtain ⟨ha, ho⟩ := h.active_of_ofCycle jobs hj
      refine hu (h.endPlain ht (fun n => ?_) hd) ⟨ha, left, hw⟩ ho
      rw [hq]
      exact ⟨by simp, by rintro ⟨⟩; exact nomatch hj⟩
  unfold State.deliver
  split
  · rename_i n hq
    exact own n (.inl hq)
  · rename_i n hq
    obtain ⟨-, left, hw⟩ := h.own_job ht hq (notDropped hq rfl)
    have same := State.samePorts_opEnd (s := s.freed) hw n t.result
    exact ((own n (.inr hq)).completeIfActive ((MemPort.procJobs_of_eq same.transfer same.place).trans left)
      (same.waiting.trans hw) none).leaveResetHeld
  · rename_i hq
    obtain ⟨-, left, hw⟩ := h.own_job ht hq (notDropped hq rfl)
    exact ((h.endPlain ht (fun n => by simp [hq]) (notDropped hq rfl)).completeIfActive left hw _).leaveResetHeld
  · rename_i hq
    exact cycle hq rfl fun hs hr _ => hs.completeReady hr _
  · rename_i hq
    exact cycle hq rfl fun hs hr _ => hs.completeReady hr _
  · rename_i hq
    exact cycle hq rfl fun hs hr ho => hs.judgeFill hr ho _ _

end
end Sys2Proof.Machine
end

section
namespace Sys2Proof.Machine

section
variable {s : State} {todo : List (Fin 8)} {n : Fin 8} {d : CellDef}

/-! ## The end of an access (R13 to R15) -/

/-- The transfer in progress goes on, of the same requester. -/
theorem State.Orderly.continue (h : s.Orderly todo) {t u : Transfer} (ht : s.mem.transfer = some t)
    (hr : u.request.requester = t.request.requester) (hd : u.dropped = t.dropped) :
    State.Orderly { s with mem := { s.mem with transfer := some u } } todo where
  startUp := h.startUp
  loading p := absurd p (h.not_loading_of_requester (MemPort.mem_requesters_transfer ht))
  port := by
    refine h.port.with_mem (.inl ?_) ?_
    · rw [MemPort.procJobs_eq, MemPort.procJobs_eq, ht]
      simp [hr, hd]
    · rintro x hx
      obtain rfl : u = x := Option.some.inj hx
      rw [hr, hd]
      exact h.port.dropped t ht
  request := by
    have requesters : MemPort.requesters { s.mem with transfer := some u } = s.mem.requesters := by
      simp [MemPort.requesters, ht, hr]
    refine ⟨h.request.queue, h.request.place, fun n => ?_⟩
    refine (h.request.cell n).of_eq rfl rfl rfl (by rw [requesters]) (by rw [requesters]) fun x hx => ?_
    cases x with
    | requested => trivial
    | forCycle => exact hx
    | forTransfer => simpa [State.WaitHolds, State.abandonedRemains, ht, hd] using hx

/-- The last access of a transfer has ended. -/
theorem State.endTransfer_eq (t : Transfer) (s : State) : s.endTransfer t = (s.reportTimeout t).freed.deliver t := by
  rw [State.endTransfer, State.reportTimeout_mem, State.freed]
  simp

theorem State.Orderly.afterAccess (h : s.Orderly []) {t u : Transfer} (ht : s.mem.transfer = some t)
    (hr : u.request.requester = t.request.requester) (hd : u.dropped = t.dropped) : (s.afterAccess u).Orderly [] := by
  have hs := h.continue ht hr hd
  unfold State.afterAccess
  split
  · have same := State.sameTraffic_reportTimeout u { s with mem := { s.mem with transfer := some u } }
    have e : s.endTransfer u = State.endTransfer u { s with mem := { s.mem with transfer := some u } } := rfl
    rw [e, State.endTransfer_eq]
    exact (hs.of_sameTraffic same).deliver (by rw [same.mem])
  · exact hs

theorem Transfer.advance_requester (t : Transfer) (limit : Nat) :
    (t.advance limit).request = t.request ∧ (t.advance limit).dropped = t.dropped := by
  unfold Transfer.advance
  split <;> exact ⟨rfl, rfl⟩

theorem Transfer.gather_requester (t : Transfer) (a : Access) (data : Word) :
    (t.gather a data).request = t.request ∧ (t.gather a data).dropped = t.dropped := by
  unfold Transfer.gather
  split
  · exact ⟨rfl, rfl⟩
  · split <;> exact ⟨rfl, rfl⟩

theorem State.Orderly.endAccess (h : s.Orderly []) (data : Word) : (s.endAccess data).Orderly [] := by
  unfold State.endAccess
  split
  · exact h
  · rename_i t ht
    split
    · exact h
    · rename_i a _
      split
      · refine h.afterAccess ht ?_ ?_
        · rw [(Transfer.advance_requester ..).1, (Transfer.gather_requester ..).1]
        · rw [(Transfer.advance_requester ..).2, (Transfer.gather_requester ..).2]
      · exact h

theorem State.Orderly.timeOutAccess (h : s.Orderly []) : s.timeOutAccess.Orderly [] := by
  unfold State.timeOutAccess
  split
  · exact h
  · rename_i t ht
    split
    · exact h
    · split
      · refine h.afterAccess ht ?_ ?_
        · rw [(Transfer.advance_requester ..).1, Transfer.timeOut]
        · rw [(Transfer.advance_requester ..).2, Transfer.timeOut]
      · exact h

/-! ## Cycles and bus reset (R1, R22 to R24) -/

/-- A CLOSED or RESET-HELD port keeps a cycle presented. -/
theorem State.Orderly.present (h : s.Orderly todo) (hs : s.port.state = .closed ∨ s.port.state = .resetHeld)
    (l : CycleLines) : State.Orderly { s with port := { s.port with presented := some l } } todo where
  startUp := h.startUp
  loading := h.loading
  port := ⟨h.port.active_iff, h.port.decided, fun _ => hs, h.port.busReset, h.port.closed_iff, h.port.jobs_le,
    h.port.jobs_nil, h.port.jobs_outcome, h.port.waiting, h.port.dropped⟩
  request := h.request.of_eq rfl rfl id

theorem State.Orderly.presentCycle (h : s.Orderly todo) (l : CycleLines) : (s.presentCycle l).Orderly todo := by
  unfold State.presentCycle
  split
  · rename_i hi
    exact h.takeCycle hi l
  · rename_i hc
    exact h.present (.inl hc) l
  · rename_i hc
    exact h.present (.inr hc) l
  · exact h

/-- Bus reset deasserts at the port. -/
theorem State.Orderly.lowerReset (h : s.Orderly todo) :
    State.Orderly { s with port := { s.port with busReset := false } } todo where
  startUp := h.startUp
  loading := h.loading
  port := ⟨h.port.active_iff, h.port.decided, h.port.presented, (fun e => nomatch e), h.port.closed_iff, h.port.jobs_le,
    h.port.jobs_nil, h.port.jobs_outcome, h.port.waiting, h.port.dropped⟩
  request := h.request.of_eq rfl rfl id

/-- Bus reset asserts at a port that is not ACTIVE: an IDLE one is RESET-HELD. -/
theorem State.Orderly.raiseReset (h : s.Orderly todo) (ha : s.port.state ≠ .active) {x : PortState}
    (hx : x = if s.port.state = .closed then .closed else .resetHeld) :
    State.Orderly { s with port := { s.port with busReset := true, state := x } } todo := by
  have hcycle : s.port.cycle.isSome = false := by simpa [ha] using h.port.active_iff.symm
  have hxs : x = .closed ∨ x = .resetHeld := by rw [hx]; split <;> simp
  have hxc : x = .closed ↔ s.port.state = .closed := by rw [hx]; split <;> simp_all
  have hxa : x ≠ .active := by rcases hxs with e | e <;> simp [e]
  have hxi : x ≠ .idle := by rcases hxs with e | e <;> simp [e]
  refine ⟨h.startUp, h.loading, ?_, ?_⟩
  · refine ⟨by simp [hxa, hcycle], fun e => absurd (h.port.decided e) ha, fun _ => hxs, fun _ => hxs,
      hxc.trans h.port.closed_iff, h.port.jobs_le, fun e => ?_, h.port.jobs_outcome, h.port.waiting, h.port.dropped⟩
    exact h.port.jobs_nil (.inr (hxc.1 (e.resolve_left hxi)))
  · exact h.request.of_eq rfl rfl fun e => absurd e ha

/-- R23: of the processor's work bus reset leaves that of the counter guard. -/
theorem MemPort.procJobs_busReset (m : MemPort) :
    m.busReset.procJobs = m.procJobs.filter fun j => !j.ofCycle := by
  have jobs (q : Requester) : (q.jobs.filter fun j => !j.ofCycle) = if q.cutByReset then [] else q.jobs := by
    cases q with
    | internal n => rfl
    | processor j => cases j <;> rfl
  rw [MemPort.procJobs_eq, MemPort.procJobs_eq, List.filter_append]
  congr 1
  · cases ht : m.transfer with
    | none => simp [MemPort.busReset, ht]
    | some t =>
      cases hc : t.request.requester.cutByReset <;> cases hd : t.dropped <;>
        simp [MemPort.busReset, ht, Transfer.cut, hc, hd, jobs]
  · cases hp : m.place with
    | none => simp [MemPort.busReset, hp]
    | some r => cases hc : r.requester.cutByReset <;> simp [MemPort.busReset, hp, hc, jobs, Option.filter]

/-- R23: bus reset leaves every requester but those of a PASS and a FILL-CHECK. -/
theorem MemPort.count_requesters_busReset (m : MemPort) {q : Requester} (hq : q.cutByReset = false) :
    m.busReset.requesters.count q = m.requesters.count q := by
  have transfer : (m.transfer.map Transfer.cut).map (fun t => t.request.requester) =
      m.transfer.map fun t => t.request.requester := by
    rw [Option.map_map]
    congr 1
    funext t
    simp only [Function.comp, Transfer.cut]
    split <;> rfl
  have place : (((m.place.filter fun r => !r.requester.cutByReset).map Request.requester).toList).count q =
      ((m.place.map Request.requester).toList).count q := by
    cases m.place with
    | none => rfl
    | some r =>
      cases hc : r.requester.cutByReset with
      | false => simp [Option.filter, hc]
      | true =>
        have : r.requester ≠ q := fun e => by rw [e, hq] at hc; exact nomatch hc
        simp [Option.filter, hc, this]
  simp only [MemPort.requesters, MemPort.busReset, transfer, List.count_append, place]

/-- What each step of a walk makes of its own cell, the walk makes of every cell. -/
theorem State.cell_forCells {f : Fin 8 → State → State} {g : Fin 8 → Cell → Cell}
    (h : ∀ n s m, (f n s).cell m = if m = n then g n (s.cell n) else s.cell m) (s : State) (m : Fin 8) :
    (forCells f s).cell m = g m (s.cell m) := by
  have walk : ∀ (l : List (Fin 8)) (s : State), l.Nodup →
      (l.foldl (fun s n => f n s) s).cell m = if m ∈ l then g m (s.cell m) else s.cell m := by
    intro l
    induction l with
    | nil => simp
    | cons n rest ih =>
      intro s hl
      obtain ⟨hn, hrest⟩ := List.nodup_cons.1 hl
      rw [List.foldl_cons, ih _ hrest, h]
      by_cases e : m = n
      · simp [e, hn]
      · simp [e]
  simpa [forCells, mem_octOrder] using walk octOrder s (by decide)

/-- A cell whose new read waited for the cycle waits for its transfer. -/
def Cell.kept (c : Cell) : Cell :=
  if c.op = some (.newRead .forCycle) then { c with op := some (.newRead .forTransfer) } else c

theorem State.cell_keepReads (s : State) (m : Fin 8) : (forCells State.keepRead s).cell m = (s.cell m).kept := by
  refine State.cell_forCells (g := fun _ => Cell.kept) (fun n s m => ?_) s m
  unfold State.keepRead Cell.kept
  split
  · rename_i e
    rw [State.cell_setOp, e, if_pos rfl]
  · rename_i e
    rw [if_neg e]
    split
    · rename_i k
      rw [k]
    · rfl

@[simp] theorem State.keepReads_frame (s : State) :
    (forCells State.keepRead s).start = s.start ∧ (forCells State.keepRead s).port = s.port ∧
      (forCells State.keepRead s).decision = s.decision ∧ (forCells State.keepRead s).mem = s.mem ∧
      (forCells State.keepRead s).guard.waitingWrite = s.guard.waitingWrite :=
  ⟨forCells_keeps (fun s => s.start) _ (by simp) s, forCells_keeps (fun s => s.port) _ (by simp) s,
    forCells_keeps (fun s => s.decision) _ (by simp) s, forCells_keeps (fun s => s.mem) _ (by simp) s,
    forCells_keeps (fun s => s.guard.waitingWrite) _ (by simp) s⟩

/-- The state of an abandoned cycle, the new reads that waited for it apart (R22, R23). -/
abbrev State.cutCycle (s : State) : State := { s with
  port := { s.port with busReset := true, state := .resetHeld, cycle := none, completion := none }
  decision := { s.decision with record := none }
  guard := { s.guard with waitingWrite := none }
  mem := s.mem.busReset }

/-- R22, R97: bus reset at an ACTIVE port. -/
theorem State.portReset_of_active (ha : s.port.state = .active) :
    State.portReset { s with port := { s.port with busReset := true } } =
      if s.mem.cycleTransfer then forCells State.keepRead s.cutCycle else s.cutCycle.releaseReads := by
  unfold State.portReset
  rw [ha]
  rfl

theorem State.PortOrder.cutCycle (h : s.PortOrder) (hrun : s.start.phase = .running) : s.cutCycle.PortOrder := by
  refine ⟨by simp, (fun e => nomatch e), fun _ => .inr rfl, fun _ => .inr rfl, by simp [hrun], ?_, by simp, ?_, by simp,
    ?_⟩
  · rw [MemPort.procJobs_busReset]
    exact (List.length_filter_le ..).trans h.jobs_le
  · rw [MemPort.procJobs_busReset]
    simp
  · rintro t ht hd
    obtain ⟨u, hu, rfl⟩ := Option.map_eq_some_iff.1 ht
    unfold Transfer.cut at hd ⊢
    split
    · rename_i hc
      exact hc
    · rename_i hc
      rw [if_neg hc] at hd
      exact h.dropped u hu hd

/-- With the transfer of the cycle in progress at the memory port, a dropped one is there after bus reset. -/
theorem MemPort.any_dropped_busReset {m : MemPort}
    (h : m.cycleTransfer = true ∨ m.transfer.any Transfer.dropped = true) :
    m.busReset.transfer.any Transfer.dropped = true := by
  cases ht : m.transfer with
  | none => simp [MemPort.cycleTransfer, ht] at h
  | some t =>
    simp only [MemPort.cycleTransfer, ht, Option.any_some, Bool.and_eq_true] at h
    simp only [MemPort.busReset, ht, Option.map_some, Option.any_some, Transfer.cut]
    split
    · rfl
    · rename_i hc
      exact h.resolve_left fun e => hc e.1

theorem State.RequestOrder.busReset_place (h : s.RequestOrder todo) :
    ∀ r ∈ s.mem.busReset.place, r.requester.isInternal = false := fun r hr =>
  h.place r (Option.mem_filter_iff.1 hr).1

/-- R97: the transfer of the abandoned cycle remains, and the new reads that waited for the cycle wait for it. -/
theorem State.RequestOrder.keepReads (h : s.RequestOrder todo) (hc : s.mem.cycleTransfer = true) :
    (forCells State.keepRead s.cutCycle).RequestOrder todo := by
  have hmem : (forCells State.keepRead s.cutCycle).mem = s.mem.busReset := by simp
  refine ⟨by rw [hmem]; exact h.queue, by rw [hmem]; exact h.busReset_place, fun n => ?_⟩
  have hself := h.cell n
  have cell : (forCells State.keepRead s.cutCycle).cell n = (s.cell n).kept := State.cell_keepReads ..
  by_cases e : (s.cell n).op = some (.newRead .forCycle)
  · rw [Cell.kept, if_pos e] at cell
    refine ⟨?_, ?_, ?_, ?_, fun _ x hx => ?_⟩
    · rw [hmem, MemPort.count_requesters_busReset _ rfl, hself.internal, cell, e]
      rfl
    · rw [hmem, MemPort.count_requesters_busReset _ rfl, hself.counter, cell, e]
      rfl
    · rw [cell]
      exact fun p _ => hself.owner p (by simp [e])
    · rw [cell]
      intro hs
      simpa [e, Operation.atArbiter] using (hself.stale hs).2
    · rw [cell] at hx
      cases hx
      rw [State.WaitHolds, State.abandonedRemains, hmem]
      exact MemPort.any_dropped_busReset (.inl hc)
  · rw [Cell.kept, if_neg e] at cell
    refine ⟨?_, ?_, by rw [cell]; exact hself.owner, by rw [cell]; exact hself.stale, fun p x hx => ?_⟩
    · rw [hmem, MemPort.count_requesters_busReset _ rfl, cell]
      exact hself.internal
    · rw [hmem, MemPort.count_requesters_busReset _ rfl, cell]
      exact hself.counter
    · rw [cell] at p hx
      cases x with
      | requested => trivial
      | forCycle => exact absurd hx e
      | forTransfer =>
        rw [State.WaitHolds, State.abandonedRemains, hmem]
        exact MemPort.any_dropped_busReset (.inr (hself.waits p _ hx))

theorem State.mem_releaseReads_cutCycle (s : State) : s.cutCycle.releaseReads.mem = { s.mem.busReset with
    queue := s.mem.queue ++ octOrder.filterMap fun n => (s.cell n).readRequest .forCycle n } :=
  State.mem_releaseAll ..

/-- R97: no transfer of the abandoned cycle remains, and the new reads that waited for the cycle are requested. -/
theorem State.RequestOrder.releaseCut (h : s.RequestOrder todo) : s.cutCycle.releaseReads.RequestOrder todo := by
  have hmem := s.mem_releaseReads_cutCycle
  refine h.released (w := .forCycle) (by simp) (fun m => State.cell_releaseAll ..) (by rw [hmem])
    (by rw [hmem]; exact h.busReset_place) (fun m q hq => ?_) (fun x hx => ?_)
  · have hcut : q.cutByReset = false := by
      simp only [List.mem_cons, List.not_mem_nil, or_false] at hq
      rcases hq with rfl | rfl <;> rfl
    rw [hmem, ← MemPort.count_requesters_busReset s.mem hcut]
    exact MemPort.count_requesters_append ..
  · cases x with
    | requested => exact fun _ => trivial
    | forCycle => exact absurd rfl hx
    | forTransfer =>
      intro e
      rw [State.WaitHolds, State.abandonedRemains, hmem]
      exact MemPort.any_dropped_busReset (.inr e)

/-- R22, R93, R97: the cycle in progress is abandoned. -/
theorem State.Orderly.abandon (h : s.Orderly todo) (ha : s.port.state = .active) :
    (State.portReset { s with port := { s.port with busReset := true } }).Orderly todo := by
  have hrun := h.running (by simp [ha])
  have hport := h.port.cutCycle hrun
  rw [State.portReset_of_active ha]
  split
  · rename_i hc
    exact .of_running (by simpa using hrun)
      (hport.of_eq (by simp) (by simp) (by simp) (by simp) (State.outcome?_congr (by simp))
        (by simpa using hport.dropped))
      (h.request.keepReads hc)
  · refine .of_running (by simpa using hrun) ?_ h.request.releaseCut
    have hmem := s.mem_releaseReads_cutCycle
    exact hport.of_eq (by simp) (by simp) (MemPort.procJobs_of_eq (by rw [hmem]) (by rw [hmem])) (by simp)
      (State.outcome?_congr (by simp)) (by rw [hmem]; exact hport.dropped)

/-- R22, R92: bus reset asserts. -/
theorem State.Orderly.assertReset (h : s.Orderly todo) : s.assertReset.Orderly todo := by
  refine State.Orderly.of_sameTraffic ?_ (State.sameTraffic_forCells State.sameTraffic_tearForReset _)
  cases hs : s.port.state with
  | active => exact h.abandon hs
  | idle =>
    have raised := h.raiseReset (by simp [hs]) (x := .resetHeld) (by simp [hs])
    have raisedState : ({ s with port := { s.port with busReset := true } } : State).port.state = .idle := hs
    rw [State.portReset, raisedState]
    exact raised
  | closed =>
    have raised := h.raiseReset (by simp [hs]) (x := s.port.state) (by simp [hs])
    have raisedState : ({ s with port := { s.port with busReset := true } } : State).port.state = .closed := hs
    rw [State.portReset, raisedState]
    exact raised
  | resetHeld =>
    have raised := h.raiseReset (by simp [hs]) (x := s.port.state) (by simp [hs])
    have raisedState : ({ s with port := { s.port with busReset := true } } : State).port.state = .resetHeld := hs
    rw [State.portReset, raisedState]
    exact raised

end
end Sys2Proof.Machine
end

section
namespace Sys2Proof.Machine

section
variable {s t : State} {todo : List (Fin 8)} {n : Fin 8} {d : CellDef}

/-! ## Ticks and ignition-off at the counter guard (R75, R86 to R91) -/

/-- The timebase and the ignition filter are no part of the traffic. -/
theorem State.sameTraffic_withTime (t : Timebase) (s : State) : s.SameTraffic (s.withTime t) :=
  .of_blocks rfl rfl rfl rfl rfl rfl rfl fun _ => id

theorem State.Orderly.repairCell (h : s.Orderly todo) : (s.repairCell n).Orderly todo := by
  unfold State.repairCell
  split
  · split
    · rename_i d v hd hv w
      exact h.startInternal w.2 hd rfl .write _
    · exact h
  · exact h

theorem State.Orderly.retryCell (h : s.Orderly todo) : (s.retryCell n).Orderly todo := by
  unfold State.retryCell
  split
  · rename_i w
    exact h.startNewRead w.2.2
  · exact h

theorem State.Orderly.tickCell (h : s.Orderly todo) : (s.tickCell n).Orderly todo := by
  have aged : ((s.accrueCell n).ageCell n).Orderly todo :=
    h.of_sameTraffic ((State.sameTraffic_accrueCell n s).trans (State.sameTraffic_modifyLive ..))
  unfold State.tickCell
  simp only []
  split
  · rename_i w
    rw [State.expires, Bool.and_eq_true] at w
    exact aged.evaluatePending (by simpa using w.2) (by simp)
  · exact aged.repairCell.retryCell

theorem State.Orderly.tickGuard (h : s.Orderly todo) : s.tickGuard.Orderly todo :=
  forCells_induct (·.Orderly todo) State.tickCell (fun _ _ => .tickCell) _
    (h.of_sameTraffic (State.sameTraffic_withTime ..))

theorem State.Orderly.holdExpiry (h : s.Orderly todo) : (if s.expires n 1 then s.tickGuard else s).Orderly todo := by
  split
  · exact h.tickGuard
  · exact h

theorem State.Orderly.ignitionOffGuard (h : s.Orderly todo) : s.ignitionOffGuard.Orderly todo := by
  unfold State.ignitionOffGuard
  split
  · exact h
  · refine forCells_induct (·.Orderly todo) State.settle (fun _ _ => .settle) _ ?_
    have taken : s.SameTraffic { s with ignition := { s.ignition with guardOffs := s.ignition.guardOffs - 1 } } :=
      .of_blocks rfl rfl rfl rfl rfl rfl rfl fun _ => id
    exact h.of_sameTraffic
      (taken.trans (State.sameTraffic_forCells (fun n s => State.sameTraffic_modifyLive n _ s) _))

/-! ## The scan starts (R94, R195) -/

/-- A walk takes the cells in cell order, each once. -/
theorem forCells_walk {f : Fin 8 → State → State} (P : List (Fin 8) → State → Prop)
    (h : ∀ n rest s, n ∉ rest → P (n :: rest) s → P rest (f n s)) (s : State) (hs : P octOrder s) :
    P [] (forCells f s) := by
  have walk : ∀ (l : List (Fin 8)) (s : State), l.Nodup → P l s → P [] (l.foldl (fun s n => f n s) s) := by
    intro l
    induction l with
    | nil => exact fun _ _ => id
    | cons n rest ih =>
      intro s hl hs
      obtain ⟨hn, hrest⟩ := List.nodup_cons.1 hl
      exact ih _ hrest (h n rest s hn hs)
  exact walk octOrder s (by decide) hs

/-- The scan has still to be started at these cells, which have nothing in flight. -/
structure State.ScanFrom (s : State) (rest : List (Fin 8)) : Prop where
  orderly : s.Orderly []
  scanning : s.start.phase = .scanning
  idle : ∀ n ∈ rest, (s.cell n).op = none

theorem State.ScanFrom.scanCell {rest : List (Fin 8)} (hn : n ∉ rest) (h : s.ScanFrom (n :: rest)) :
    (s.scanCell n).ScanFrom rest := by
  have later (m : Fin 8) (hm : m ∈ rest) : (s.cell m).op = none := h.idle m (List.mem_cons_of_mem _ hm)
  unfold State.scanCell
  split
  · exact ⟨h.orderly, h.scanning, later⟩
  · rename_i d hd
    have floored : s.SameTraffic (s.setCell n { s.cell n with loadedFloor := some (loadedFloor s.store.held n d) }) :=
      State.sameTraffic_setCell rfl fun e => by rw [e] at hd; exact nomatch hd
    refine ⟨(h.orderly.of_sameTraffic floored).startInternal ?_ ?_ rfl .read 0, h.scanning, fun m hm => ?_⟩
    · rw [floored.op]
      exact h.idle n (by simp)
    · rw [floored.defn, hd]
    · rw [State.cell_startInternal, if_neg fun e => hn (by rwa [← e]), floored.op]
      exact later m hm

/-- Until the store has loaded nothing is in flight, and a state with the tables loaded is ready for the scan. -/
theorem State.Orderly.loaded (h : s.Orderly []) (hp : s.start.phase = .loading) (scanning : t.start.phase = .scanning)
    (port : t.port = s.port) (mem : t.mem = s.mem) (waiting : t.guard.waitingWrite = s.guard.waitingWrite)
    (outcome : t.outcome? = s.outcome?) (slots : t.grants.slots = s.grants.slots) (link : t.link = s.link)
    (cell : ∀ n, (t.cell n).op = none ∧ (t.cell n).stale = false) : t.ScanFrom octOrder := by
  have hclosed : s.port.state = .closed := h.port.closed_iff.2 (by simp [hp])
  have hnone : t.mem.requesters = [] := mem ▸ (h.loading hp).1
  refine ⟨⟨fun _ => ?_, (fun e => nomatch scanning.symm.trans e), ?_, ?_, ?_, ?_⟩, scanning, fun n _ => (cell n).1⟩
  · obtain ⟨free, off, none⟩ := h.startUp (by simp [hp])
    exact ⟨fun i => slots ▸ free i, link ▸ off, link ▸ none⟩
  · refine ⟨port ▸ h.port.active_iff, ?_, port ▸ h.port.presented, port ▸ h.port.busReset, ?_, mem ▸ h.port.jobs_le, ?_,
      ?_, ?_, mem ▸ h.port.dropped⟩
    · rw [outcome, port]
      exact h.port.decided
    · simp [port, hclosed, scanning]
    · rw [port, mem]
      exact h.port.jobs_nil
    · rw [mem, outcome]
      exact h.port.jobs_outcome
    · rw [waiting, mem, outcome]
      exact h.port.waiting
  · exact mem ▸ h.request.queue
  · exact mem ▸ h.request.place
  · intro n
    obtain ⟨op, stale⟩ := cell n
    refine ⟨?_, ?_, ?_, ?_, ?_⟩ <;> simp [hnone, op, stale]

theorem State.cell_setDefns (cells : Vector (Option CellDef) 8) (s : State) (m : Fin 8) :
    (s.setDefns cells).cell m = { Cell.disabled with defn := cells[m] } :=
  State.cell_forCells (g := fun n _ => { Cell.disabled with defn := cells[n] }) (fun _ _ _ => State.cell_setCell ..) s m

theorem State.setDefns_frame (cells : Vector (Option CellDef) 8) (s : State) :
    (s.setDefns cells).start = s.start ∧ (s.setDefns cells).port = s.port ∧ (s.setDefns cells).decision = s.decision ∧
      (s.setDefns cells).mem = s.mem ∧ (s.setDefns cells).grants = s.grants ∧ (s.setDefns cells).link = s.link ∧
      (s.setDefns cells).guard.waitingWrite = s.guard.waitingWrite :=
  ⟨forCells_keeps (fun s => s.start) _ (by simp) s, forCells_keeps (fun s => s.port) _ (by simp) s,
    forCells_keeps (fun s => s.decision) _ (by simp) s, forCells_keeps (fun s => s.mem) _ (by simp) s,
    forCells_keeps (fun s => s.grants) _ (by simp) s, forCells_keeps (fun s => s.link) _ (by simp) s,
    forCells_keeps (fun s => s.guard.waitingWrite) _ (by simp) s⟩

theorem State.loadTables_frame (s : State) :
    s.loadTables.start = s.start ∧ s.loadTables.port = s.port ∧ s.loadTables.decision = s.decision ∧
      s.loadTables.mem = s.mem ∧ s.loadTables.grants = s.grants ∧ s.loadTables.link = s.link ∧
      s.loadTables.guard.waitingWrite = s.guard.waitingWrite := by
  unfold State.loadTables
  simp only []
  split <;> exact State.setDefns_frame ..

theorem State.cell_loadTables (s : State) (n : Fin 8) :
    (s.loadTables.cell n).op = none ∧ (s.loadTables.cell n).stale = false := by
  unfold State.loadTables
  simp only []
  split <;> simp [State.cell_setDefns, Cell.disabled]

/-- The evidence check takes a record at most. -/
theorem State.sameTraffic_evidenceCheck (s : State) : s.SameTraffic s.evidenceCheck := by
  have marked (b : Bool) : s.SameTraffic { s with log := { s.log with markCopy := b } } :=
    .of_blocks rfl rfl rfl rfl rfl rfl rfl fun _ => id
  unfold State.evidenceCheck
  simp only []
  split
  · exact (marked _).trans (State.sameTraffic_takeRecord ..)
  · exact marked _

theorem State.evidenceCheck_frame (s : State) :
    s.evidenceCheck.grants = s.grants ∧ s.evidenceCheck.link = s.link ∧ s.evidenceCheck.guard = s.guard := by
  unfold State.evidenceCheck
  simp only []
  split <;> simp

/-- R195 steps 2 to 5: the part with its tables loaded, as the scan begins. -/
theorem State.Orderly.finishLoad (h : s.Orderly []) (hp : s.start.phase = .loading) : s.finishLoad.Orderly [] := by
  unfold State.finishLoad
  simp only []
  refine (forCells_walk (fun rest s => s.ScanFrom rest) (fun n rest s hn hs => hs.scanCell hn) _ ?_).orderly
  obtain ⟨-, port, decision, mem, grants, link, waiting⟩ := State.loadTables_frame { s with store := s.store.load }
  have cell := State.cell_loadTables { s with store := s.store.load }
  generalize State.loadTables { s with store := s.store.load } = l at *
  have same := l.loadGrants.sameTraffic_evidenceCheck
  obtain ⟨grants', link', guard'⟩ := l.loadGrants.evidenceCheck_frame
  refine h.loaded hp rfl ?_ ?_ ?_ ?_ ?_ ?_ fun n => ?_
  · exact same.port.trans port
  · exact same.mem.trans mem
  · exact same.waiting.trans waiting
  · exact same.outcome.trans (State.outcome?_congr decision)
  · exact (congrArg GrantTable.slots grants').trans (congrArg GrantTable.slots grants :)
  · exact link'.trans link
  · have hcells : l.loadGrants.evidenceCheck.guard.cells = l.guard.cells := congrArg CounterGuard.cells guard'
    have hcell := State.cell_congr (s := l) hcells n
    exact ⟨(congrArg Cell.op hcell).trans (cell n).1, (congrArg Cell.stale hcell).trans (cell n).2⟩

end
end Sys2Proof.Machine
end

section
namespace Sys2Proof.Machine

section
variable {s t u : State} {rest : List (Fin 8)} {n : Fin 8} {d : CellDef}

/-! ## The cells that an apply changes (R97 to R101) -/

/-- The definition, and whether an operation is in flight and of which definition. -/
def Cell.outline (c : Cell) : Option CellDef × Bool × Bool := (c.defn, c.op.isSome, c.stale)

/-- A change of cell `n` keeps what an apply has still to ask of the others. -/
structure State.ChangesOnly (n : Fin 8) (s t : State) : Prop where
  start : t.start = s.start
  others : ∀ m, m ≠ n → (t.cell m).outline = (s.cell m).outline

theorem State.ChangesOnly.refl (n : Fin 8) (s : State) : State.ChangesOnly n s s := ⟨rfl, fun _ _ => rfl⟩

theorem State.ChangesOnly.trans (h : State.ChangesOnly n s t) (k : State.ChangesOnly n t u) : State.ChangesOnly n s u :=
  ⟨k.start.trans h.start, fun m hm => (k.others m hm).trans (h.others m hm)⟩

theorem State.SameTraffic.changesOnly (h : s.SameTraffic t) (n : Fin 8) : State.ChangesOnly n s t :=
  ⟨h.start, fun m _ => by rw [Cell.outline, h.defn, h.op, h.stale, Cell.outline]⟩

theorem State.changesOnly_setCell (n : Fin 8) (c : Cell) (s : State) : State.ChangesOnly n s (s.setCell n c) :=
  ⟨rfl, fun m hm => by rw [State.cell_setCell, if_neg hm]⟩

theorem State.changesOnly_startNewRead (n : Fin 8) (s : State) : State.ChangesOnly n s (s.startNewRead n) := by
  unfold State.startNewRead
  split
  · exact .refl n s
  · split
    · exact changesOnly_setCell ..
    · exact ⟨rfl, fun m hm => by rw [State.cell_startInternal, if_neg hm]⟩

/-- The completion of the cycle requests new reads that were in flight before. -/
theorem State.changesOnly_completeCycle (n : Fin 8) (data : Option Word) (s : State) :
    State.ChangesOnly n s (s.completeCycle data) := by
  refine ⟨by simp, fun m _ => ?_⟩
  rw [State.cell_completeCycle, Cell.released]
  split
  · rename_i w
    simp [Cell.outline, (Cell.waits_iff.1 w).1]
  · rfl

theorem State.changesOnly_absorbWaiting (n : Fin 8) (s : State) : State.ChangesOnly n s (s.absorbWaiting n) := by
  unfold State.absorbWaiting
  split
  · have cleared : State.ChangesOnly n s { s with guard := { s.guard with waitingWrite := none } } :=
      ⟨rfl, fun _ _ => rfl⟩
    exact cleared.trans (changesOnly_completeCycle ..)
  · exact .refl n s

theorem State.changesOnly_addCell (n : Fin 8) (s : State) : State.ChangesOnly n s (s.addCell n) := by
  have dropped := State.changesOnly_setCell n (s.cell n).dropLive s
  unfold State.addCell
  simp only []
  split
  · exact dropped.trans (changesOnly_startNewRead ..)
  · exact dropped

theorem State.changesOnly_changeCell (n : Fin 8) (old new : Option CellDef) (s : State) :
    State.ChangesOnly n s (s.changeCell n old new) := by
  have torn (d : CellDef) := ((State.sameTraffic_tearHalf n d .apply s).changesOnly n).trans
    (changesOnly_absorbWaiting n _)
  unfold State.changeCell
  split
  · exact changesOnly_addCell ..
  · exact ((torn _).trans (changesOnly_setCell ..)).trans ((State.sameTraffic_queueItem ..).changesOnly n)
  · exact (torn _).trans (changesOnly_addCell ..)
  · exact (State.sameTraffic_modifyLive ..).changesOnly n
  · exact .refl n s

theorem State.Orderly.absorbWaiting {todo : List (Fin 8)} (h : s.Orderly todo) : (s.absorbWaiting n).Orderly todo := by
  unfold State.absorbWaiting
  split
  · rename_i w
    exact h.clearWaiting.completeReady (h.port.ready_of_waiting w) none
  · exact h

/-- A cell whose operation belongs to a definition needs no more from the apply. -/
theorem State.Orderly.settled (h : s.Orderly (n :: rest))
    (ho : (s.cell n).op.isSome = true → (s.cell n).stale = true ∨ (s.cell n).defn.isSome = true) : s.Orderly rest where
  startUp := h.startUp
  loading := h.loading
  port := h.port
  request := by
    refine ⟨h.request.queue, h.request.place, fun m => ?_⟩
    have hm := h.request.cell m
    by_cases e : m = n
    · subst e
      refine ⟨hm.internal, hm.counter, fun _ => ho, hm.stale, fun _ x hx => ?_⟩
      rcases ho (by rw [hx]; rfl) with hs | hd
      · have at_ := (hm.stale hs).2
        rw [hx] at at_
        cases x with
        | requested => trivial
        | forCycle => exact nomatch at_
        | forTransfer => exact nomatch at_
      · exact hm.waits (fun _ => hd) x hx
    · have hiff : (m ∈ n :: rest) = (m ∈ rest) := by simp [e]
      exact hiff ▸ hm

/-- An operation that is not at the arbiter has no request there. -/
theorem Operation.not_atArbiter {op : Operation} (h : op.atArbiter = false) :
    op.isInternal = false ∧ op.isProcessor = false := by
  cases op with
  | newRead x => cases x <;> simp_all [Operation.atArbiter, Operation.isInternal, Operation.isProcessor]
  | _ => exact nomatch h

/-- The operation of a definition that is gone stays at the arbiter as one of that definition, and no other. -/
theorem State.Orderly.dropLive (h : s.Orderly (n :: rest)) (hl : s.start.phase ≠ .loading) :
    (s.setCell n (s.cell n).dropLive).Orderly rest := by
  have hself := h.request.cell n
  refine State.Orderly.settled (n := n) ⟨h.startUp, fun p => absurd p hl, ?_, ?_⟩ ?_
  · exact h.port.of_eq rfl rfl rfl rfl rfl h.port.dropped
  · refine h.request.update n h.request.queue h.request.place (fun m hm => ⟨?_, rfl, rfl⟩) (fun x => ?_) ?_
    · rw [State.cell_setCell, if_neg hm]
    · cases x <;> exact fun e => e
    · rcases (s.cell n).dropLive_cases with ⟨op, hop, hat, e⟩ | ⟨hat, e⟩
      · refine ⟨?_, ?_, ?_, ?_, fun _ x hx => ?_⟩
        · rw [State.cell_setCell_self, e]
          exact hself.internal
        · rw [State.cell_setCell_self, e]
          exact hself.counter
        · simp
        · simp [State.cell_setCell_self, e, hop, hat]
        · rw [State.cell_setCell_self, e] at hx
          cases x with
          | requested => trivial
          | _ =>
            cases hop.symm.trans hx
            exact nomatch hat
      · have hnone : (s.cell n).op.any Operation.isInternal = false ∧
            (s.cell n).op.any Operation.isProcessor = false := by
          cases hop : (s.cell n).op with
          | none => exact ⟨rfl, rfl⟩
          | some op => exact Operation.not_atArbiter (hat op hop)
        refine ⟨?_, ?_, ?_, ?_, fun _ x hx => ?_⟩
        · rw [State.cell_setCell_self, e]
          exact hself.internal.trans (by rw [hnone.1]; rfl)
        · rw [State.cell_setCell_self, e]
          exact hself.counter.trans (by rw [hnone.2]; rfl)
        · simp
        · simp [State.cell_setCell_self, e]
        · rw [State.cell_setCell_self, e] at hx
          exact nomatch hx
  · rw [State.cell_setCell_self]
    rcases (s.cell n).dropLive_cases with ⟨op, hop, hat, e⟩ | ⟨hat, e⟩
    · exact fun _ => .inl (by rw [e])
    · rw [e]
      exact fun k => nomatch k

theorem State.Orderly.addCell (h : s.Orderly (n :: rest)) (hl : s.start.phase ≠ .loading) :
    (s.addCell n).Orderly rest := by
  have dropped := h.dropLive hl
  unfold State.addCell
  simp only []
  split
  · rename_i ho
    exact dropped.startNewRead ho
  · exact dropped

/-- R97 to R101: the change of a cell whose new definition is live. -/
theorem State.Orderly.changeCell (h : s.Orderly (n :: rest)) (hl : s.start.phase ≠ .loading) (old : Option CellDef)
    (ho : (s.cell n).op.isSome = true → (s.cell n).stale = true ∨ old.isSome = true) :
    (s.changeCell n old (s.cell n).defn).Orderly rest := by
  have torn (d : CellDef) : ((s.tearHalf n d .apply).absorbWaiting n).Orderly (n :: rest) :=
    (h.of_sameTraffic (State.sameTraffic_tearHalf ..)).absorbWaiting
  have loaded (d : CellDef) : ((s.tearHalf n d .apply).absorbWaiting n).start.phase ≠ .loading := by
    rw [(State.changesOnly_absorbWaiting n _).start, (State.sameTraffic_tearHalf n d .apply s).start]
    exact hl
  unfold State.changeCell
  split
  · exact h.addCell hl
  · exact ((torn _).dropLive (loaded _)).of_sameTraffic (State.sameTraffic_queueItem ..)
  · exact (torn _).addCell (loaded _)
  · rename_i old e hd _
    refine (h.settled fun _ => .inr ?_).of_sameTraffic (State.sameTraffic_modifyLive ..)
    rw [hd]
    rfl
  · rename_i removed moved retuned
    refine h.settled fun hop => (ho hop).imp_right fun hold => ?_
    cases hd : (s.cell n).defn with
    | some e => rfl
    | none =>
      obtain ⟨d, rfl⟩ := Option.isSome_iff_exists.1 hold
      exact (removed d (by rw [hd]; rfl) rfl).elim

/-! ## The tick of an apply (R43) -/

theorem CounterGuard.defns_get (g : CounterGuard) (n : Fin 8) : g.defns[n] = (g.cells[n]).defn := by
  fin_cases n <;> simp [CounterGuard.defns, octOrder]

/-- The change has still to be taken at these cells, whose new definitions are live. -/
structure State.ApplyFrom (st : Staged) (old : Vector (Option CellDef) 8) (s : State) (rest : List (Fin 8)) : Prop where
  orderly : s.Orderly rest
  loaded : s.start.phase ≠ .loading
  owner : ∀ n ∈ rest, (s.cell n).op.isSome = true → (s.cell n).stale = true ∨ (old[n]).isSome = true
  defn : ∀ n ∈ rest, (s.cell n).defn = (st.cells[n]).getD old[n]

theorem State.ApplyFrom.notifyCell {st : Staged} {old : Vector (Option CellDef) 8} (hn : n ∉ rest)
    (h : s.ApplyFrom st old (n :: rest)) : (s.notifyCell st old n).ApplyFrom st old rest := by
  have hdefn := h.defn n (by simp)
  have howner := h.owner n (by simp)
  have later (m : Fin 8) (hm : m ∈ rest) : m ∈ n :: rest := List.mem_cons_of_mem _ hm
  unfold State.notifyCell
  split
  · rename_i hst
    rw [hst, Option.getD_none] at hdefn
    exact ⟨h.orderly.settled (by rw [hdefn]; exact howner), h.loaded, fun m hm => h.owner m (later m hm),
      fun m hm => h.defn m (later m hm)⟩
  · rename_i d hst
    rw [hst, Option.getD_some] at hdefn
    have changes := State.changesOnly_changeCell n old[n] d s
    have outline (m : Fin 8) (hm : m ∈ rest) := changes.others m fun e => hn (e ▸ hm)
    simp only [Cell.outline, Prod.mk.injEq] at outline
    refine ⟨?_, changes.start ▸ h.loaded, fun m hm => ?_, fun m hm => ?_⟩
    · rw [← hdefn]
      exact h.orderly.changeCell h.loaded _ howner
    · obtain ⟨-, op, stale⟩ := outline m hm
      rw [op, stale]
      exact h.owner m (later m hm)
    · rw [(outline m hm).1]
      exact h.defn m (later m hm)

/-- The definitions of the cells are replaced, and no change of a cell is taken yet. -/
theorem State.Orderly.replaced (h : s.Orderly []) (hl : s.start.phase ≠ .loading) (start : t.start = s.start)
    (port : t.port = s.port) (mem : t.mem = s.mem) (waiting : t.guard.waitingWrite = s.guard.waitingWrite)
    (outcome : t.outcome? = s.outcome?) (slots : t.grants = s.grants) (link : t.link = s.link)
    (cell : ∀ n, (t.cell n).op = (s.cell n).op ∧ (t.cell n).stale = (s.cell n).stale) : t.Orderly octOrder where
  startUp p := by
    rw [slots, link]
    exact h.startUp (start ▸ p)
  loading p := absurd (start ▸ p) hl
  port := h.port.of_eq port start (by rw [mem]) waiting outcome (mem ▸ h.port.dropped)
  request := by
    refine ⟨mem ▸ h.request.queue, mem ▸ h.request.place, fun n => ?_⟩
    have hn := h.request.cell n
    obtain ⟨op, stale⟩ := cell n
    refine ⟨?_, ?_, fun e => absurd (mem_octOrder n) e, ?_, fun _ x hx => ?_⟩
    · rw [mem, op]
      exact hn.internal
    · rw [mem, op]
      exact hn.counter
    · rw [op, stale]
      exact hn.stale
    · exact State.waitHolds_of_eq port mem (hn.waits (by simp) x (op ▸ hx))

theorem State.cell_replaceDefns (st : Staged) (s : State) (m : Fin 8) :
    (forCells (State.replaceDefn st) s).cell m = { s.cell m with defn := (st.cells[m]).getD (s.cell m).defn } := by
  refine State.cell_forCells (g := fun n c => { c with defn := (st.cells[n]).getD c.defn }) (fun n s m => ?_) s m
  unfold State.replaceDefn
  split
  · rename_i hst
    rw [hst]
    split
    · rename_i e
      rw [e]
      rfl
    · rfl
  · rename_i d hst
    rw [hst]
    exact State.cell_setCell ..

theorem State.replaceDefn_frame (st : Staged) (n : Fin 8) (s : State) :
    (s.replaceDefn st n).start = s.start ∧ (s.replaceDefn st n).port = s.port ∧
      (s.replaceDefn st n).decision = s.decision ∧ (s.replaceDefn st n).mem = s.mem ∧
      (s.replaceDefn st n).grants = s.grants ∧ (s.replaceDefn st n).link = s.link ∧
      (s.replaceDefn st n).guard.waitingWrite = s.guard.waitingWrite := by
  unfold State.replaceDefn
  split <;> simp

theorem State.replaceDefns_frame (st : Staged) (s : State) :
    (forCells (State.replaceDefn st) s).start = s.start ∧ (forCells (State.replaceDefn st) s).port = s.port ∧
      (forCells (State.replaceDefn st) s).decision = s.decision ∧ (forCells (State.replaceDefn st) s).mem = s.mem ∧
      (forCells (State.replaceDefn st) s).grants = s.grants ∧ (forCells (State.replaceDefn st) s).link = s.link ∧
      (forCells (State.replaceDefn st) s).guard.waitingWrite = s.guard.waitingWrite :=
  ⟨forCells_keeps (fun s => s.start) _ (by simp [State.replaceDefn_frame]) s,
    forCells_keeps (fun s => s.port) _ (by simp [State.replaceDefn_frame]) s,
    forCells_keeps (fun s => s.decision) _ (by simp [State.replaceDefn_frame]) s,
    forCells_keeps (fun s => s.mem) _ (by simp [State.replaceDefn_frame]) s,
    forCells_keeps (fun s => s.grants) _ (by simp [State.replaceDefn_frame]) s,
    forCells_keeps (fun s => s.link) _ (by simp [State.replaceDefn_frame]) s,
    forCells_keeps (fun s => s.guard.waitingWrite) _ (by simp [State.replaceDefn_frame]) s⟩

/-- R43: the tick that takes effect on a PENDING apply. -/
theorem State.Orderly.applyNow (h : s.Orderly []) (hp : s.table.apply = .pending) : s.applyNow.Orderly [] := by
  have hl : s.start.phase ≠ .loading := fun p => nomatch (h.loading p).2.2.symm.trans hp
  unfold State.applyNow
  simp only []
  refine (forCells_walk (fun rest u => u.ApplyFrom s.table.staged s.guard.defns rest)
    (fun n rest u hn hu => hu.notifyCell hn) _ ?_).orderly
  obtain ⟨start, port, decision, mem, grants, link, waiting⟩ :=
    State.replaceDefns_frame s.table.staged { s with table := s.table.applied }
  have cell := State.cell_replaceDefns s.table.staged { s with table := s.table.applied }
  generalize forCells (State.replaceDefn s.table.staged) { s with table := s.table.applied } = r at *
  have cell' (n : Fin 8) : (r.cell n).op = (s.cell n).op ∧ (r.cell n).stale = (s.cell n).stale ∧
      (r.cell n).defn = (s.table.staged.cells[n]).getD (s.cell n).defn := by
    rw [cell n]
    exact ⟨rfl, rfl, rfl⟩
  have replaced : r.Orderly octOrder :=
    h.replaced hl start port mem waiting (State.outcome?_congr decision) grants link fun n =>
      ⟨(cell' n).1, (cell' n).2.1⟩
  have same (x : Report) (st : Store) : r.SameTraffic { State.takeRecord x { r with store := st } with
      table := { (State.takeRecord x { r with store := st }).table with applyingSlot := none } } := by
    refine State.SameTraffic.trans (t := { r with store := st }) ?_ ((State.sameTraffic_takeRecord x _).trans ?_) <;>
      exact .of_blocks rfl rfl rfl rfl rfl rfl rfl fun _ e => e
  refine ⟨replaced.of_sameTraffic (same ..), ?_, fun n _ => ?_, fun n _ => ?_⟩
  · rw [(same _ _).start, start]
    exact hl
  · rw [(same _ _).op, (same _ _).stale, (cell' n).1, (cell' n).2.1, CounterGuard.defns_get]
    exact (h.request.cell n).owner (by simp)
  · rw [(same _ _).defn, (cell' n).2.2, CounterGuard.defns_get]
    rfl

end
end Sys2Proof.Machine
end

section
namespace Sys2Proof.Machine

section
variable {s t : State} {n : Fin 8}

theorem State.TrafficLaw.of_sameTraffic (h : s.TrafficLaw) (k : s.SameTraffic t) : t.TrafficLaw := by
  rw [State.trafficLaw_iff] at h ⊢
  refine ⟨h.1.of_sameTraffic k, ?_⟩
  rw [State.PortServed, k.mem]
  exact h.2

theorem State.TrafficLaw.orderly (h : s.TrafficLaw) : s.Orderly [] := ((State.trafficLaw_iff s).1 h).1

/-! ## Start-up (R195) -/

/-- The law holds as power-on reset leaves the part. -/
theorem State.trafficLaw_fresh (stored : Items) (strap busReset : Bool) (presented : Option CycleLines) :
    (State.fresh stored strap busReset presented).TrafficLaw := by
  have slots (i : Fin 4) : (State.fresh stored strap busReset presented).grants.slots[i] = .free := by
    fin_cases i <;> rfl
  have cells (n : Fin 8) : (State.fresh stored strap busReset presented).cell n = .disabled := by
    fin_cases n <;> rfl
  refine ⟨fun _ => ⟨slots, rfl, rfl⟩, fun _ => ⟨rfl, cells, rfl⟩, ?_, ?_, fun _ => ⟨rfl, rfl⟩⟩
  · simp [State.PortLaw, State.fresh, MemPort.procJobs]
  · simp only [State.RequestLaw, cells]
    simp [State.fresh, MemPort.requesters, Cell.disabled]

theorem State.Orderly.openPort (h : s.Orderly []) (hp : s.start.phase = .scanning) :
    (State.openPort { s with start := { s.start with phase := .running } }).Orderly [] := by
  have hclosed : s.port.state = .closed := h.port.closed_iff.2 (by simp [hp])
  have ha : s.port.state ≠ .active := by simp [hclosed]
  have hj : s.mem.procJobs = [] := h.port.jobs_nil (.inr hclosed)
  unfold State.openPort
  split
  · have hcycle : s.port.cycle.isSome = false := by simpa [ha] using h.port.active_iff.symm
    have ho := h.port.outcome_none ha
    have hw := h.port.waiting_none (.inl ha)
    refine .of_running rfl ?_ (h.request.of_eq rfl rfl fun e => absurd e ha)
    refine ⟨by simp [hcycle], ?_, fun _ => .inr rfl, fun _ => .inr rfl, by simp, h.port.jobs_le, fun _ => hj,
      by simp [hj], by simp [hw], h.port.dropped⟩
    change s.outcome?.isSome = true → _
    simp [ho]
  · rename_i hb
    exact h.openIdle ha (by simpa using hb) hj { s.start with phase := .running } rfl

/-- Once the part runs, what leaves these blocks as they are leaves the traffic as it is. -/
theorem State.sameTraffic_of_running (hrun : s.start.phase = .running) (start : t.start = s.start)
    (port : t.port = s.port) (mem : t.mem = s.mem) (guard : t.guard = s.guard) (outcome : t.outcome? = s.outcome?) :
    s.SameTraffic t where
  start := start
  port := port
  mem := mem
  waiting := by rw [guard]
  outcome := outcome
  cell n := by rw [State.cell, guard, State.cell]
  startUp _ p := absurd hrun (start ▸ p)
  loading _ p := nomatch hrun.symm.trans ((congrArg StartUp.phase start).symm.trans p)

/-- R195 step 6. -/
theorem State.Orderly.openPart (h : s.Orderly []) (hp : s.start.phase = .scanning) : s.openPart.Orderly [] := by
  have opened := h.openPort hp
  have hrun : (State.openPort { s with start := { s.start with phase := .running } }).start.phase = .running := by
    unfold State.openPort
    split
    · rfl
    · simp
  exact opened.of_sameTraffic (State.sameTraffic_of_running hrun rfl rfl rfl rfl rfl)

/-! ## The link (sections 6.1 to 6.4) -/

/-- A change of the link that leaves it OFF and idle where it was leaves the traffic as it is. -/
theorem State.sameTraffic_link {l : Link}
    (h : s.link.receiver = .off → s.link.execution = none → l.receiver = .off ∧ l.execution = none) :
    s.SameTraffic { s with link := l } where
  start := rfl
  port := rfl
  mem := rfl
  waiting := rfl
  outcome := rfl
  cell _ := rfl
  startUp k p := by
    obtain ⟨free, off, none⟩ := k p
    exact ⟨free, h off none⟩
  loading k := k

theorem Link.complete_off (divisor : Nat) (a : Answer) {l : Link} (h : l.receiver = .off) :
    (l.complete divisor a).receiver = .off ∧ (l.complete divisor a).execution = none := by
  simp [Link.complete, h]

theorem State.sameTraffic_completeCommand (a : Answer) (s : State) : s.SameTraffic (s.completeCommand a) :=
  State.sameTraffic_link fun h _ => Link.complete_off _ a h

theorem Link.boundary_off {l : Link} (h : l.receiver = .off) (he : l.execution = none) :
    l.boundary.receiver = .off ∧ l.boundary.execution = none := by
  unfold Link.boundary
  split
  · exact ⟨rfl, he⟩
  · exact ⟨h, he⟩

theorem Link.turnOff_off {l : Link} (h : l.receiver = .off) : l.turnOff = l := if_pos h

theorem Link.frameEnd_off (node : Byte) (f : FrameBits) {l : Link} (h : l.receiver = .off) : l.frameEnd node f = l := by
  simp [Link.frameEnd, h]

theorem Link.startBit_off (fall : LineFall) (fr : Framing) {l : Link} (h : l.receiver = .off) :
    l.startBit fall fr = l :=
  if_pos (.inl h)

theorem Link.gapTimeout_off {l : Link} (h : l.receiver = .off) : l.gapTimeout = l := by simp [Link.gapTimeout, h]

theorem Link.replyEnd_off {l : Link} (h : l.receiver = .off) : l.replyEnd = l := by simp [Link.replyEnd, h]

theorem Link.off_off {l : Link} (h : l.receiver = .off) (he : l.execution = none) :
    l.off.receiver = .off ∧ l.off.execution = none := by
  unfold Link.off
  split
  · exact ⟨h, he⟩
  · exact Link.boundary_off h he

theorem Link.period_off (fr : Framing) {l : Link} (h : l.receiver = .off) : l.period fr = l := by simp [Link.period, h]

/-- A change of the link that does nothing while it is OFF. -/
theorem State.sameTraffic_link_of_off {l : Link} (h : s.link.receiver = .off → l = s.link) :
    s.SameTraffic { s with link := l } :=
  State.sameTraffic_link fun off none => by rw [h off]; exact ⟨off, none⟩

theorem State.sameTraffic_divisorTick (s : State) : s.SameTraffic s.divisorTick := by
  unfold State.divisorTick
  split
  · exact State.sameTraffic_link_of_off Link.turnOff_off
  · exact .refl s

/-- A message is executed only while the part runs. -/
theorem State.Orderly.running_of_executing {todo : List (Fin 8)} (h : s.Orderly todo) {x : Execution}
    (hx : s.link.execution = some x) : s.start.phase = .running :=
  Decidable.by_contra fun p => nomatch (h.startUp p).2.2.symm.trans hx

/-- What a block does with a message leaves the traffic as it is while the part runs. -/
def Body.KeepsTraffic (body : Body) : Prop :=
  ∀ (p : List Byte) (s : State), s.start.phase = .running → s.SameTraffic (body p s).1

theorem State.sameTraffic_finish {r : State × Option Answer} (h : s.SameTraffic r.1) :
    s.SameTraffic (State.finish r) := by
  unfold State.finish
  split
  · exact h
  · exact h.trans (sameTraffic_completeCommand ..)

theorem State.TrafficLaw.runCommand (h : s.TrafficLaw) (code : Byte) (size : Nat) {body : Body}
    (hb : body.KeepsTraffic) : (s.runCommand code size body).TrafficLaw := by
  refine h.of_sameTraffic ?_
  rcases s.runCommand_cases code size body with e | ⟨a, e⟩ | ⟨p, ⟨m, hm, -⟩, -, e⟩ <;> rw [e]
  · exact .refl s
  · exact State.sameTraffic_completeCommand ..
  · unfold State.message at hm
    split at hm
    · rename_i hx
      exact State.sameTraffic_finish (hb p s (h.orderly.running_of_executing hx))
    · exact nomatch hm

/-! ## The commands (section 6.4) -/

theorem Body.keepsTraffic_identify : Body.KeepsTraffic bodyIdentify := fun _ s _ => .refl s
theorem Body.keepsTraffic_status : Body.KeepsTraffic bodyStatus := fun _ s _ => .refl s
theorem Body.keepsTraffic_listGrants : Body.KeepsTraffic bodyListGrants := fun _ s _ => .refl s

theorem Body.keepsTraffic_readLog : Body.KeepsTraffic bodyReadLog := fun p s _ => by
  unfold bodyReadLog
  split <;> exact .refl s

theorem Body.keepsTraffic_readCell : Body.KeepsTraffic bodyReadCell := fun p s _ => by
  unfold bodyReadCell
  split <;> exact .refl s

theorem Body.keepsTraffic_readTable : Body.KeepsTraffic bodyReadTable := fun p s _ => by
  unfold bodyReadTable
  split <;> exact .refl s

theorem Body.keepsTraffic_requestGrant : Body.KeepsTraffic bodyRequestGrant := fun p s hrun => by
  unfold bodyRequestGrant
  split
  · exact .refl s
  · exact State.sameTraffic_of_running hrun rfl rfl rfl rfl rfl

theorem Body.keepsTraffic_proveGrant : Body.KeepsTraffic bodyProveGrant := fun p s hrun => by
  unfold bodyProveGrant
  split
  · exact .refl s
  · split
    · exact State.sameTraffic_of_running hrun rfl rfl rfl rfl rfl
    · exact .refl s

theorem Body.keepsTraffic_closeGrant : Body.KeepsTraffic bodyCloseGrant := fun p s _ => by
  unfold bodyCloseGrant
  split
  · exact .refl s
  · split
    · exact .refl s
    · split
      · exact State.sameTraffic_endSlot ..
      · exact .refl s

theorem State.sameTraffic_markAfterRelease (emptied : Bool) (s : State) :
    s.SameTraffic (s.markAfterRelease emptied) := by
  unfold State.markAfterRelease
  split
  · exact .of_blocks rfl rfl rfl rfl rfl rfl rfl fun _ => id
  · exact .refl s

theorem Body.keepsTraffic_releaseLog : Body.KeepsTraffic bodyReleaseLog := fun p s _ => by
  have released (l : Log) : s.SameTraffic { s with log := l } := .of_blocks rfl rfl rfl rfl rfl rfl rfl fun _ => id
  unfold bodyReleaseLog
  split
  · exact .refl s
  · split
    · exact .refl s
    · split
      · exact ((released _).trans (State.sameTraffic_takeRecord ..)).trans (State.sameTraffic_markAfterRelease ..)
      · exact .refl s

theorem State.sameTraffic_stage (p : List Byte) (checks : List (Nat × Bool)) (write : Staged → Staged) (s : State) :
    s.SameTraffic (s.stage p checks write).1 := by
  unfold State.stage
  split
  · exact .refl s
  · split
    · exact .refl s
    · split
      · exact .refl s
      · exact .of_blocks rfl rfl rfl rfl rfl rfl rfl fun _ => id

theorem Body.keepsTraffic_stageWindow : Body.KeepsTraffic bodyStageWindow := fun _ s _ => s.sameTraffic_stage ..
theorem Body.keepsTraffic_stageCell : Body.KeepsTraffic bodyStageCell := fun _ s _ => s.sameTraffic_stage ..
theorem Body.keepsTraffic_stageSettings : Body.KeepsTraffic bodyStageSettings := fun _ s _ => s.sameTraffic_stage ..
theorem Body.keepsTraffic_discardStaged : Body.KeepsTraffic bodyDiscardStaged := fun _ s _ => s.sameTraffic_stage ..

theorem Body.keepsTraffic_applyStaged : Body.KeepsTraffic State.applyStaged := fun p s hrun => by
  unfold State.applyStaged
  split
  · exact .refl s
  · split
    · exact .refl s
    · split
      · exact .refl s
      · split
        · exact .refl s
        · exact State.sameTraffic_of_running hrun rfl rfl rfl rfl rfl

theorem Body.keepsTraffic_resetEcu : Body.KeepsTraffic bodyResetEcu := fun p s _ => by
  unfold bodyResetEcu
  split
  · exact .refl s
  · split
    · exact .refl s
    · exact State.sameTraffic_resetRequestCause s

theorem Body.keepsTraffic_unlock : Body.KeepsTraffic bodyUnlock := fun p s hrun => by
  unfold bodyUnlock
  split
  · exact .refl s
  · split
    · exact .refl s
    · split
      · refine State.SameTraffic.trans ?_ (State.sameTraffic_takeRecord ..)
        exact State.sameTraffic_of_running hrun rfl rfl rfl rfl rfl
      · exact .refl s

theorem Body.KeepsTraffic.ifUnprovisioned {body : Body} (h : body.KeepsTraffic) :
    Body.KeepsTraffic (Machine.ifUnprovisioned body) := fun p s hrun => by
  unfold Machine.ifUnprovisioned
  split
  · exact .refl s
  · exact h p s hrun

theorem Body.keepsTraffic_provisionKey : Body.KeepsTraffic bodyProvisionKey :=
  .ifUnprovisioned fun p s _ => by
    split
    · exact .refl s
    · exact State.sameTraffic_queueItem ..

theorem Body.keepsTraffic_provisionIdentity : Body.KeepsTraffic bodyProvisionIdentity :=
  .ifUnprovisioned fun p s _ => by
    split
    · exact .refl s
    · exact .of_blocks rfl rfl rfl rfl rfl rfl rfl fun _ => id

theorem Body.keepsTraffic_finishProvisioning : Body.KeepsTraffic bodyFinishProvisioning :=
  .ifUnprovisioned fun p s _ => by
    split
    · exact .refl s
    · exact State.sameTraffic_queueItem ..

/-! ## The proof engine's result (R116 to R118) -/

theorem State.sameTraffic_openSlot {i : Fin 4} (hi : s.grants.slots[i] ≠ .free) (g : Grant) :
    s.SameTraffic (s.openSlot i g) := by
  have cleared (u : State) : u.SameTraffic u.clearFailed := by
    unfold State.clearFailed
    split
    · exact .of_blocks rfl rfl rfl rfl rfl rfl rfl fun _ => id
    · exact .refl u
  exact (((State.sameTraffic_setSlot (.inr hi)).trans (cleared _)).trans (State.sameTraffic_takeRecord ..)).trans
    (State.sameTraffic_reportSlot ..)

theorem State.sameTraffic_refuseProof (i : Fin 4) (g : Grant) (s : State) : s.SameTraffic (s.refuseProof i g) := by
  have counted (u : State) : u.SameTraffic u.countFailure := .of_blocks rfl rfl rfl rfl rfl rfl rfl fun _ => id
  exact (((State.sameTraffic_freeSlot i s).trans (counted _)).trans (State.sameTraffic_takeRecord ..)).trans
    (State.sameTraffic_scoreIncrement ..)

theorem State.sameTraffic_settleProof (p : ProofInFlight) (s : State) : s.SameTraffic (s.settleProof p).1 := by
  unfold State.settleProof
  split
  · rename_i g c age hg
    split
    · split
      · exact State.sameTraffic_openSlot (by simp [hg]) g
      · exact State.sameTraffic_refuseProof ..
    · exact .refl s
  · exact .refl s

theorem State.sameTraffic_takeResult (p : ProofInFlight) (s : State) : s.SameTraffic (s.takeResult p) := by
  have stopped : s.SameTraffic { s with engine := none } := .of_blocks rfl rfl rfl rfl rfl rfl rfl fun _ => id
  have settled := stopped.trans (State.sameTraffic_settleProof p _)
  unfold State.takeResult
  simp only []
  split
  · exact settled.trans (State.sameTraffic_completeCommand ..)
  · exact settled

/-! ## Seconds, samples, lamps, pulses and the store -/

theorem State.sameTraffic_secondSlot (i : Fin 4) (s : State) : s.SameTraffic (s.secondSlot i) := by
  unfold State.secondSlot
  split
  · exact .refl s
  · rename_i g c age hg
    split
    · exact State.sameTraffic_freeSlot ..
    · exact State.sameTraffic_setSlot (.inr (by simp [hg]))
  · rename_i g tally at_ hg
    split
    · exact State.sameTraffic_closeSlot ..
    · exact State.sameTraffic_setSlot (.inr (by simp [hg]))

theorem State.sameTraffic_grantSecond (s : State) : s.SameTraffic s.grantSecond := by
  have stepped (u : State) : u.SameTraffic u.backoffStep := .of_blocks rfl rfl rfl rfl rfl rfl rfl fun _ => id
  exact ((State.sameTraffic_withTime _ s).trans (State.sameTraffic_forSlots State.sameTraffic_secondSlot _)).trans
    (stepped _)

theorem State.sameTraffic_decayScore (s : State) : s.SameTraffic s.decayScore :=
  .of_blocks rfl rfl rfl rfl rfl rfl rfl fun _ => id

theorem State.sameTraffic_ignitionOffSlot (i : Fin 4) (s : State) : s.SameTraffic (s.ignitionOffSlot i) := by
  unfold State.ignitionOffSlot
  split
  · exact .refl s
  · split
    · exact .refl s
    · exact State.sameTraffic_endSlot ..

/-- An apply that has been stored is IDLE, as before the store has loaded. -/
theorem State.sameTraffic_applyStored (s : State) : s.SameTraffic s.applyStored := by
  unfold State.applyStored
  split
  · refine ⟨rfl, rfl, rfl, rfl, rfl, fun _ => rfl, fun h => h, fun h p => ?_⟩
    obtain ⟨none, cells, -⟩ := h p
    exact ⟨none, cells, rfl⟩
  · exact .refl s

theorem State.sameTraffic_period (s : State) : s.SameTraffic s.period := by
  have linked : s.SameTraffic { s with link := s.link.period s.table.settings.framing } :=
    State.sameTraffic_link_of_off (Link.period_off _)
  exact linked.trans (.of_blocks rfl rfl rfl rfl rfl rfl rfl fun _ => id)

end
end Sys2Proof.Machine
end

section
namespace Sys2Proof.Machine

section
variable {s t : State}

/-! ## One command, and one step -/

theorem State.SameTraffic.ite {c : Prop} [Decidable c] (h : s.SameTraffic t) : s.SameTraffic (if c then t else s) := by
  split
  · exact h
  · exact .refl s

/-- The command at the front of the queue is no part of the traffic. -/
theorem State.sameTraffic_pending (rest : List Instr) (s : State) : s.SameTraffic { s with pending := rest } :=
  .of_blocks rfl rfl rfl rfl rfl rfl rfl fun _ => id

/-- R43, R46: the tick at the window table. -/
theorem State.Orderly.applyTick (h : s.Orderly []) (wide : Bool) :
    ∀ t, execApplyTick wide s = .next t → t.TrafficLaw := by
  have ticked := h.of_sameTraffic (State.sameTraffic_withTime s.time.takeTableTick s)
  rintro t ⟨⟩
  split
  · rename_i hp
    exact ((ticked.applyNow hp).of_sameTraffic (State.sameTraffic_divisorTick _)).serve wide
  · exact ticked.serve wide

/-- R66: the second event at the decision unit. -/
theorem State.TrafficLaw.decayCount (h : s.TrafficLaw) : ∀ t, execDecayCount s = .next t → t.TrafficLaw := by
  have ticked := State.sameTraffic_withTime s.time.takeDecisionSecond s
  rintro t ⟨⟩
  split
  · exact h.of_sameTraffic (ticked.trans (State.sameTraffic_decayScore _))
  · exact h.of_sameTraffic (ticked.trans (.of_blocks rfl rfl rfl rfl rfl rfl rfl fun _ => id))

/-- R170: the lamp step at the output unit. -/
theorem State.TrafficLaw.lampStep (h : s.TrafficLaw) (n : Fin 32) : ∀ t, execLampStep n s = .next t → t.TrafficLaw := by
  rintro t ⟨⟩
  split
  · exact h.of_sameTraffic (.of_blocks rfl rfl rfl rfl rfl rfl rfl fun _ => id)
  · exact h

/-- R124: ignition-off at the grant table. -/
theorem State.TrafficLaw.ignitionOff (h : s.TrafficLaw) :
    ∀ t, execIgnitionOffGrantTable s = .next t → t.TrafficLaw := by
  have taken (f : IgnitionFilter) : s.SameTraffic { s with ignition := f } :=
    .of_blocks rfl rfl rfl rfl rfl rfl rfl fun _ => id
  rintro t ⟨⟩
  split
  · exact h
  · exact h.of_sameTraffic ((taken _).trans (State.sameTraffic_forSlots State.sameTraffic_ignitionOffSlot _))

/-- R177: the ignition event at the output unit. -/
theorem State.TrafficLaw.ignitionMirror (h : s.TrafficLaw) (on : Bool) :
    ∀ t, execIgnitionMirror on s = .next t → t.TrafficLaw := by
  rintro t ⟨⟩
  split
  · exact h.of_sameTraffic (.of_blocks rfl rfl rfl rfl rfl rfl rfl fun _ => id)
  · exact h

/-- R190, R195 step 1. -/
theorem State.trafficLaw_powerOn (strap : Bool) (s : State) :
    ∀ t, execPowerOnReset strap s = .next t → t.TrafficLaw := by
  rintro t ⟨⟩
  exact (State.trafficLaw_fresh s.store.stored strap s.port.busReset s.port.presented).of_sameTraffic
    (.of_blocks rfl rfl rfl rfl rfl rfl rfl fun _ => id)

/-- R96: the end of the scan. -/
theorem State.TrafficLaw.scanEnd (h : s.TrafficLaw) (wide : Bool) :
    ∀ t, execScanEnd wide s = .next t → t.TrafficLaw := by
  rintro t ⟨⟩
  split
  · rename_i w
    exact (h.orderly.openPart w.1).serve wide
  · exact h

/-- R195: the end of the store's load. -/
theorem State.TrafficLaw.storeLoadEnd (h : s.TrafficLaw) (wide : Bool) :
    ∀ t, execStoreLoadEnd wide s = .next t → t.TrafficLaw := by
  rintro t ⟨⟩
  split
  · rename_i w
    exact (h.orderly.finishLoad w).serve wide
  · exact h

/-- R136, R142: a length that no message has. -/
theorem State.TrafficLaw.lengthError (h : s.TrafficLaw) : ∀ t, execLengthError s = .next t → t.TrafficLaw := by
  rintro t ⟨⟩
  split
  · exact h.of_sameTraffic (State.sameTraffic_completeCommand ..)
  · exact h

/-- R139: a command byte that is not defined. -/
theorem State.TrafficLaw.unknown (h : s.TrafficLaw) : ∀ t, execUnknown s = .next t → t.TrafficLaw := by
  rintro t ⟨⟩
  split
  · exact h
  · split
    · exact h
    · split <;> exact h.of_sameTraffic (State.sameTraffic_completeCommand ..)

/-- R116: the proof engine's result. -/
theorem State.TrafficLaw.proofResult (h : s.TrafficLaw) : ∀ t, execProofResult s = .next t → t.TrafficLaw := by
  rintro t ⟨⟩
  split
  · exact h
  · exact h.of_sameTraffic (State.sameTraffic_takeResult ..)

/-- What a command makes of the state meets the law where its one next state does. -/
theorem State.TrafficLaw.next (h : t.TrafficLaw) :
    ∀ u, (Host.Outcome.next t : Host.Outcome State Fault Refusal) = .next u → u.TrafficLaw := by
  rintro u ⟨⟩
  exact h

/-- Every command keeps the law of the ports and of the arbiter. -/
theorem State.TrafficLaw.exec (h : s.TrafficLaw) (i : Instr) : ∀ t, exec i s = .next t → t.TrafficLaw := by
  have same {u : State} (k : s.SameTraffic u) := (h.of_sameTraffic k).next
  have link {l : Link} (k : s.link.receiver = .off → l = s.link) := same (State.sameTraffic_link_of_off k)
  have message (code : Byte) (size : Nat) {body : Body} (k : body.KeepsTraffic) := (h.runCommand code size k).next
  have out (o : OutputUnit) : s.SameTraffic { s with out := o } := .of_blocks rfl rfl rfl rfl rfl rfl rfl fun _ => id
  have o := h.orderly
  cases i with
  | processorCycle lines wide => exact ((o.presentCycle lines).serve wide).next
  | accessEnd data wide => exact ((o.endAccess data).serve wide).next
  | accessTimeout wide => exact (o.timeOutAccess.serve wide).next
  | counterTick wide => exact (o.tickGuard.serve wide).next
  | holdExpiry cell wide => exact (o.holdExpiry.serve wide).next
  | applyTick wide => exact o.applyTick wide
  | grantTableSecond => exact same s.sameTraffic_grantSecond
  | challengeExpiry slot => exact same s.sameTraffic_grantSecond.ite
  | lifetimeExpired slot => exact same s.sameTraffic_grantSecond.ite
  | backoffEnd => exact same s.sameTraffic_grantSecond.ite
  | decayCount => exact h.decayCount
  | scoreDecay => exact same ((State.sameTraffic_withTime _ s).trans (State.sameTraffic_decayScore _)).ite
  | lampStep step => exact h.lampStep step
  | ignitionSample line => exact same (.of_blocks rfl rfl rfl rfl rfl rfl rfl fun _ => id)
  | ignitionOffGrantTable => exact h.ignitionOff
  | ignitionOffCounterGuard wide => exact (o.ignitionOffGuard.serve wide).next
  | ignitionMirror on => exact h.ignitionMirror on
  | alertPulseEnd => exact same (out _)
  | alertGapEnd => exact same (out _)
  | resetRequestPulseEnd => exact same (out _)
  | resetRequestGapEnd => exact same (out _)
  | logRecord report => exact same (State.sameTraffic_takeRecord report s)
  | storeWriteComplete =>
    have stored : s.SameTraffic { s with store := s.store.complete } :=
      .of_blocks rfl rfl rfl rfl rfl rfl rfl fun _ => id
    exact same (stored.trans (State.sameTraffic_applyStored _))
  | powerOnReset strap => exact State.trafficLaw_powerOn strap s
  | scanEnd wide => exact h.scanEnd wide
  | busResetAssert wide => exact (o.assertReset.serve wide).next
  | busResetDeassert wide => exact (o.lowerReset.leaveResetHeld.serve wide).next
  | gapTimeout => exact link Link.gapTimeout_off
  | linkOff => exact same (State.sameTraffic_link Link.off_off)
  | replySent => exact link Link.replyEnd_off
  | lengthError => exact h.lengthError
  | unknown => exact h.unknown
  | identify => exact message _ _ Body.keepsTraffic_identify
  | status => exact message _ _ Body.keepsTraffic_status
  | requestGrant => exact message _ _ Body.keepsTraffic_requestGrant
  | proveGrant => exact message _ _ Body.keepsTraffic_proveGrant
  | proofResult => exact h.proofResult
  | closeGrant => exact message _ _ Body.keepsTraffic_closeGrant
  | listGrants => exact message _ _ Body.keepsTraffic_listGrants
  | readLog => exact message _ _ Body.keepsTraffic_readLog
  | releaseLog => exact message _ _ Body.keepsTraffic_releaseLog
  | readCell => exact message _ _ Body.keepsTraffic_readCell
  | readTable => exact message _ _ Body.keepsTraffic_readTable
  | stageWindow => exact message _ _ Body.keepsTraffic_stageWindow
  | stageCell => exact message _ _ Body.keepsTraffic_stageCell
  | stageSettings => exact message _ _ Body.keepsTraffic_stageSettings
  | applyStaged => exact message _ _ Body.keepsTraffic_applyStaged
  | discardStaged => exact message _ _ Body.keepsTraffic_discardStaged
  | resetEcu => exact message _ _ Body.keepsTraffic_resetEcu
  | unlock => exact message _ _ Body.keepsTraffic_unlock
  | provisionKey => exact message _ _ Body.keepsTraffic_provisionKey
  | provisionIdentity => exact message _ _ Body.keepsTraffic_provisionIdentity
  | finishProvisioning => exact message _ _ Body.keepsTraffic_finishProvisioning
  | frameArrival frame => exact link (Link.frameEnd_off _ frame)
  | startBitConfirmed fall => exact link (Link.startBit_off fall _)
  | storeLoadEnd wide => exact h.storeLoadEnd wide

end

/-- Settles O12: each step is a guard-clock period or one command, and each keeps the law, which `State.trafficLaw_iff`
takes apart into the arbiter's grant at the end of a command and the clauses that hold within it. -/
theorem trafficLawKept : Obligations.TrafficLawKept := by
  unfold Obligations.TrafficLawKept
  intro s t h e
  unfold step at e
  split at e
  · exact (h.of_sameTraffic (State.sameTraffic_period s)).next t e
  · rename_i c rest _
    exact (h.of_sameTraffic (State.sameTraffic_pending rest s)).exec c t e

end Sys2Proof.Machine
end

section
namespace Sys2Proof.Machine

/-! ## The state after reset (R25, R195) -/

/-- After reset every slot is FREE, every cell DISABLED and every window disabled. -/
theorem State.reset_entries :
    (∀ i : Fin 4, State.reset.grants.slots[i] = .free) ∧ (∀ n : Fin 8, State.reset.cell n = .disabled) ∧
      ∀ n : Fin 8, State.reset.table.windows[n] = none := by
  refine ⟨fun i => ?_, fun n => ?_, fun n => ?_⟩
  · fin_cases i <;> rfl
  · fin_cases n <;> rfl
  · fin_cases n <;> rfl

theorem State.reset_outputLaw : State.reset.OutputLaw := by
  refine ⟨fun i => ?_, ?_, rfl, rfl, rfl⟩
  · rw [State.reset_entries.1 i]
    fin_cases i <;> rfl
  · decide

theorem State.reset_tableLaw : State.reset.TableLaw := by
  obtain ⟨-, cells, windows⟩ := State.reset_entries
  refine ⟨by decide, (fun e => nomatch e), by decide, fun n w hw => ?_, fun n d hd => ?_, by decide, by decide,
    by decide, by decide⟩
  · exact nomatch (windows n).symm.trans hw
  · rw [cells n] at hd
    exact nomatch hd

theorem State.reset_trafficLaw : State.reset.TrafficLaw :=
  (State.trafficLaw_fresh .blank false false none).of_sameTraffic (.of_blocks rfl rfl rfl rfl rfl rfl rfl fun _ => id)

/-- Settles O5: nothing is in flight, enabled or held after reset, so each law holds of its blocks as reset leaves
them. -/
theorem resetMeetsTheLaws : Obligations.ResetMeetsTheLaws := by
  obtain ⟨slots, cells, -⟩ := State.reset_entries
  refine ⟨by decide, by decide, (fun e => nomatch e), fun i => by rw [slots i]; rfl, rfl, State.reset_outputLaw, ?_, ?_,
    fun n => by rw [cells n]; rfl, State.reset_trafficLaw, State.reset_tableLaw, by decide, ?_, ?_, ?_⟩
  · simp [Log.Law, State.reset, State.fresh]
  · simp [Store.Law, State.reset]
  · simp [State.ProtectedWriteLaw, State.DecisionLaw, State.reset, State.fresh, MemPort.procRequests]
  · simp [State.InternalWriteLaw, State.reset, State.fresh]
  · simp [State.LampLaw, State.reset, State.fresh]

end Sys2Proof.Machine
end

section
namespace Sys2Proof.Machine

/-! ## The accesses of a transfer and the memory port's outputs (R11, R16 to R19) -/

/-- R11: within its window a byte's device address counts from the device offset, without wrapping. -/
theorem Window.translate_toNat {w : Window} {a : Addr} (n : Fin 8) (hc : w.covers a = true)
    (hfit : w.offset.toNat + w.size ≤ 16777216) :
    (MatchedWindow.translate { id := .numbered n, base := w.base, offset := w.offset, terms := w.terms } a).toNat =
      a.toNat - w.base.toNat + w.offset.toNat := by
  simp only [Window.covers, decide_eq_true_eq] at hc
  simp only [MatchedWindow.translate]
  bv_omega

/-- R16: a wide device takes one access for each word. -/
theorem Request.accesses_wide (r : Request) (w : MatchedWindow) : r.accesses .wide w =
    { second := false, even := r.lanes.low?, odd := r.lanes.high?, deviceAddress := w.translate r.address } ::
      (if r.twoWords then
        [{ second := true, even := r.lanes.low?, odd := r.lanes.high?, deviceAddress := w.translate (r.address + 2) }]
      else []) := rfl

theorem Lanes.low?_eq (l : Lanes) : l.low? = decide (l ≠ .high) := by cases l <;> rfl
theorem Lanes.high?_eq (l : Lanes) : l.high? = decide (l ≠ .low) := by cases l <;> rfl

/-- R11: the outputs while a transfer is in progress are those of its access in progress. -/
theorem State.memoryPins_of_access {s : State} {t : Transfer} {a : Access} {rest : List Access}
    (ht : s.mem.transfer = some t) (hr : t.remaining = a :: rest) : s.memoryPins = some (t.pinsOf a) := by
  rw [State.memoryPins, ht, Option.bind_some, hr]
  rfl

/-- Settles O14: a case for each device width, and for a narrow device one for each pair of lanes. -/
theorem accessesOfATransfer : Obligations.AccessesOfATransfer := by
  refine ⟨fun r w wide limit => ?_, fun n w dflt a hc hfit => ⟨Window.translate_toNat n hc hfit, ?_⟩,
    fun r w => ⟨?_, fun hl h2 => ?_, fun h2 => ?_⟩, fun s => ⟨fun ht => ?_, fun t a rest ht hr => ?_⟩⟩
  · cases hw : w.terms.width <;> cases wide <;> simp [Request.start, WindowWidth.resolve, hw]
  · simp [MatchedWindow.translate]
  · rw [Request.accesses_wide, Lanes.low?_eq, Lanes.high?_eq]
  · simp [Request.accesses, wordAccesses, hl, h2, Lanes.low?, Lanes.high?]
  · cases hl : r.lanes <;> simp [Request.accesses, wordAccesses, hl, h2, Lanes.low?, Lanes.high?]
  · rw [State.memoryPins, ht, Option.bind_none]
  · refine ⟨t.pinsOf a, State.memoryPins_of_access ht hr, rfl, rfl, by simp [Transfer.pinsOf], fun hw => ?_,
      fun hw => ?_, fun hd => ?_, fun hd hw => ?_, fun hd hw => ?_⟩
    · simp [Transfer.pinsOf, hw]
    · simp [Transfer.pinsOf, hw]
    · simp [Transfer.pinsOf, hd]
    · simp [Transfer.pinsOf, hd, hw, Request.word]
    · simp [Transfer.pinsOf, hd, hw, Request.word]

end Sys2Proof.Machine
end

section
namespace Sys2Proof.Machine

section
variable {s : State} {r : Request}

/-! ## The arbiter's grant (R12, R20, R21) -/

/-- R20: a busy port grants nothing. -/
theorem State.serve_busy (wide : Bool) (ht : s.mem.transfer ≠ none) : s.serve wide = s := by
  obtain ⟨t, ht⟩ := Option.ne_none_iff_exists'.1 ht
  rw [State.serve_eq, State.serveWith_succ, ht]

/-- R21: a free port with nothing waiting stays free. -/
theorem State.serve_idle (wide : Bool) (ht : s.mem.transfer = none) (hq : s.mem.queue = []) (hp : s.mem.place = none) :
    s.serve wide = s := by
  rw [State.serve_eq, State.serveWith_succ, ht, hq, hp]

/-- R12: the window of a request is its cycle's, or the live match of its address. -/
theorem State.windowOf_eq (r : Request) (s : State) : s.windowOf r = r.window.getD (s.matchLive r.address) := by
  unfold State.windowOf
  cases r.window <;> rfl

/-- R12: the writes that are not made. -/
theorem State.barred_iff : s.barred r = true ↔ r.direction = .write ∧
    (r.window.getD (s.matchLive r.address)).terms.cls ∈ [WindowClass.code, .calibration, .priv] := by
  rw [State.barred, State.windowOf_eq, Bool.and_eq_true, decide_eq_true_eq]
  cases (r.window.getD (s.matchLive r.address)).terms.cls <;> simp [WindowClass.internalWriteBarred]

/-- R20: the oldest internal request has the free port. -/
theorem State.serve_internal (wide : Bool) {rest : List Request} (ht : s.mem.transfer = none)
    (hq : s.mem.queue = r :: rest) (hb : ¬ s.barred r = true) :
    s.serve wide = State.begin r wide { s with mem := { s.mem with queue := rest } } := by
  rw [State.serve_eq, State.serveWith_succ, ht, hq]
  exact if_neg hb

/-- R21: the processor place has the free port when the internal list is empty. -/
theorem State.serve_processor (wide : Bool) (ht : s.mem.transfer = none) (hq : s.mem.queue = [])
    (hp : s.mem.place = some r) : s.serve wide = State.begin r wide { s with mem := { s.mem with place := none } } := by
  rw [State.serve_eq, State.serveWith_succ, ht, hq, hp]

/-- The transfer of the granted request, at a port whose waiting places are these. -/
theorem State.begin_eq (r : Request) (wide : Bool) (m : MemPort) (s : State) :
    State.begin r wide { s with mem := m } = { s with mem := { m with
      transfer := some (r.start (r.window.getD (s.matchLive r.address)) wide s.table.settings.readyLimit) } } := by
  rw [← State.windowOf_eq]
  rfl

/-! ## The end of a write that is not made -/

section
variable {n : Fin 8} {x : TransferResult}

/-- With no waiting write and no due mark of the cell, nothing follows the end of an operation. -/
theorem State.afterOp_eq_self (hw : s.guard.waitingWrite ≠ some n)
    (hd : ∀ v, (s.cell n).live = some v → v.due = false) :
    s.afterOp n = s := by
  rw [State.afterOp, State.takeWaiting, if_neg fun e => hw e.1, State.settle]
  split
  · rfl
  · rename_i v hv
    rw [if_neg]
    simp [hd v hv]

theorem State.restoreEnd_not_made (h : x.made = false) (n : Fin 8) (s : State) : s.restoreEnd n x = s.setOp n none := by
  simp [State.restoreEnd, h]

theorem State.correctionEnd_not_made (h : x.made = false) (n : Fin 8) (s : State) :
    s.correctionEnd n x = s.setOp n none := by
  simp [State.correctionEnd, h]

theorem State.evaluationEnd_not_made (h : x.made = false) (n : Fin 8) (v : Nat) (isSet : Bool) (s : State) :
    s.evaluationEnd n v isSet x = s.setOp n none := by
  simp [State.evaluationEnd, h]

/-- R12: an operation of the live definition whose write is not made is over, and no more. -/
theorem State.opEnd_not_made (h : x.made = false) (hs : (s.cell n).stale = false) (hd : (s.cell n).defn.isSome = true)
    (hw : s.guard.waitingWrite ≠ some n) (hdue : ∀ v, (s.cell n).live = some v → v.due = false)
    (ho : (s.cell n).op = some .restore ∨ (s.cell n).op = some .correction ∨
      ∃ (o : Origin) (v : Nat) (isSet : Bool), (s.cell n).op = some (.evaluation o v isSet)) :
    s.opEnd n x = s.setOp n none := by
  obtain ⟨d, hd⟩ := Option.isSome_iff_exists.1 hd
  have ended : (s.setOp n none).afterOp n = s.setOp n none := by
    refine State.afterOp_eq_self hw fun v hv => hdue v ?_
    rwa [State.cell_setOp_self] at hv
  rw [State.opEnd, hs, if_neg (by simp), hd]
  rcases ho with ho | ho | ⟨o, v, isSet, ho⟩ <;> rw [ho]
  · exact (congrArg _ (State.restoreEnd_not_made h n s)).trans ended
  · exact (congrArg _ (State.correctionEnd_not_made h n s)).trans ended
  · exact (congrArg _ (State.evaluationEnd_not_made h n v isSet s)).trans ended

end
end

/-- Settles O15: one turn of the arbiter in each state of the port and its waiting places, and the end of the operation
whose write is not made. -/
theorem arbiterServesTheFreePort : Obligations.ArbiterServesTheFreePort := by
  refine ⟨fun wide s => ⟨State.serve_busy wide, State.serve_idle wide, fun r rest ht hq hb => ?_, fun r ht hq hp => ?_,
    fun r rest n ht hq hb hr => ?_⟩, fun n r s h hs hd hw hdue ho => State.opEnd_not_made h hs hd hw hdue ho,
    fun r s => ⟨rfl, rfl⟩⟩
  · rw [State.serve_internal wide ht hq fun e => hb (State.barred_iff.1 e), State.begin_eq]
  · rw [State.serve_processor wide ht hq hp, State.begin_eq, hq]
  · rw [State.serve_not_made wide ht hq (State.barred_iff.2 hb), State.tellNotMade, hr]
    rfl

end Sys2Proof.Machine
end

section
namespace Sys2Proof.Machine

section
variable {s : State} {l : CycleLines} {c : Cycle} {d : DecisionRecord}

/-! ## A cycle at the processor port (R1 to R6) -/

/-- R1: a cycle at the port, and the arbiter at the end of the command. -/
theorem exec_cycle_presented (l : CycleLines) (wide : Bool) (s : State) :
    exec (.processorCycle l wide) s = .next ((s.presentCycle l).serve wide) := rfl

/-- R2: a cycle waits at a port that can take none. -/
theorem State.presentCycle_waits (h : s.port.state = .closed ∨ s.port.state = .resetHeld) (l : CycleLines) :
    s.presentCycle l = { s with port := { s.port with presented := some l } } := by
  rcases h with h | h <;> rw [State.presentCycle, h]

/-- R1: an IDLE port takes the cycle. -/
theorem State.presentCycle_idle (h : s.port.state = .idle) (l : CycleLines) : s.presentCycle l = s.takeCycle l := by
  rw [State.presentCycle, h]

theorem unservedData_eq (l : CycleLines) :
    unservedData (lineKind l) = if l.kindA = true ∧ l.kindB = true then none else some 0xFFFF := by
  cases ha : l.kindA <;> cases hb : l.kindB <;> simp [lineKind, unservedData, ha, hb]

/-- R4: a cycle that fails parity. -/
theorem State.takeCycle_parity (h : parityPasses l s.table.settings.parityCheck = false) :
    s.takeCycle l = s.parityFailure .parity l := if_pos h

/-- R5: a cycle of the invalid kind. -/
theorem State.takeCycle_kind (h : parityPasses l s.table.settings.parityCheck = true) (hk : lineKind l = none) :
    s.takeCycle l = s.parityFailure .kind l := by
  simp [State.takeCycle, h, hk]

/-- R6: a cycle with no lane. -/
theorem State.takeCycle_lanes (h : parityPasses l s.table.settings.parityCheck = true) {k : Kind}
    (hk : lineKind l = some k) (hl : lineLanes l = none) :
    s.takeCycle l = s.completeCycle (unservedData (lineKind l)) := by
  simp [State.takeCycle, h, hk, hl]

/-- Settles O16: the checks of R3 in their order, each failing in turn. -/
theorem undecidedCyclesCompleteAtOnce : Obligations.UndecidedCyclesCompleteAtOnce := by
  intro l wide s
  refine ⟨fun h => ?_, fun h => ?_⟩
  · rw [exec_cycle_presented, State.presentCycle_waits h]
  · intro lines passes data told
    have hpasses : parityPasses l s.table.settings.parityCheck = true ↔ passes := by
      rw [parityPasses_iff]
      change _ ↔ s.table.settings.parityCheck = false ∨ (countedLines l).count true % 2 = 1
      cases s.table.settings.parityCheck <;> simp
    have hdata : unservedData (lineKind l) = data := unservedData_eq l
    have htold (r : Reason) : s.parityFailure r l = ((told r).completed data).releaseReads := by
      rw [State.parityFailure, hdata]
      rfl
    simp only [exec_cycle_presented, State.presentCycle_idle h]
    refine ⟨fun hp => ?_, fun hp ha hb => ?_, fun hp hk hlow hhigh => ?_⟩
    · rw [State.takeCycle_parity (by simpa using fun e => hp (hpasses.1 e)), htold]
    · have hnone : data = some 0xFFFF := by simp [data, ha]
      rw [State.takeCycle_kind (hpasses.2 hp) (by simp [lineKind, ha, hb]), htold, hnone]
    · obtain ⟨k, hk⟩ : ∃ k, lineKind l = some k := by
        cases ha : l.kindA <;> cases hb : l.kindB <;> simp_all [lineKind]
      rw [State.takeCycle_lanes (hpasses.2 hp) hk (by simp [lineLanes, hlow, hhigh]), hdata]
      rfl

/-! ## A cycle that is decided (R8 to R10, R47, R58, R62) -/

/-- R47: an IDLE port that takes a cycle which passes the checks carries the decision out. -/
theorem exec_cycle_decided (hi : s.port.state = .idle) (h : s.PassesChecks l c) (wide : Bool) :
    exec (.processorCycle l wide) s = .next (((s.decided c).carryOut c (s.decisionOf c)).serve wide) := by
  rw [exec_cycle_presented, State.presentCycle_idle hi, State.takeCycle_of_passes h]

theorem State.carryOut_pass (h : d.outcome = .pass) (c : Cycle) (s : State) : s.carryOut c d =
    (s.chargePass c d).enqueueProcessor (cycleRequest c .pass c.kind.direction d.window) := by
  rw [State.carryOut, h]

theorem State.carryOut_fillCheck (h : d.outcome = .fillCheck) (c : Cycle) (s : State) : s.carryOut c d =
    s.enqueueProcessor (cycleRequest c .fillRead .read d.window) := by
  rw [State.carryOut, h]

theorem State.carryOut_denied (h : d.outcome = .substitute ∨ d.outcome = .absorb) (c : Cycle) (s : State) :
    s.carryOut c d = s.denyCycle c d := by
  rcases h with h | h <;> rw [State.carryOut, h]

theorem Kind.direction_eq (k : Kind) : k.direction = if k = .write then .write else .read := by cases k <;> rfl

/-- Settles O19: `State.carryOut` of each of the two outcomes. -/
theorem passedCyclesRequestTheirTransfer : Obligations.PassedCyclesRequestTheirTransfer := by
  intro l c wide s hi h d request
  refine ⟨fun ho => ?_, fun ho => ?_⟩
  · rw [exec_cycle_decided hi h, State.carryOut_pass ho, Kind.direction_eq]
    rfl
  · rw [exec_cycle_decided hi h, State.carryOut_fillCheck ho]
    rfl

/-- R62, R63: the record, the score and the alert cause of a denial, in that order. -/
theorem State.denial_eq (c : Cycle) (d : DecisionRecord) (s : State) : s.denial c d =
    if d.window.terms.denyResponse = .flag then ((s.takeRecord (denialReport c d)).scoreIncrement 1 .denial).alertCause
    else (s.takeRecord (denialReport c d)).scoreIncrement 1 .denial := rfl

theorem unservedData_kind (k : Kind) : unservedData (some k) = if k = .write then none else some 0xFFFF := by
  cases k <;> rfl

/-- Settles O20: the cycle completes, and the denial is carried out. -/
theorem deniedCyclesCompleteAtOnce : Obligations.DeniedCyclesCompleteAtOnce := by
  intro l c wide s hi h d ho told
  have hreport : denialReport c d =
      { kind := match c.kind with | .fetch => .fetchDenied | .read => .readDenied | .write => .writeDenied
        key := some (.window d.window.id)
        reason := some (match d.right with
          | none => .noFetch | some .program => .program | some .calibrate => .calibrate | some .clear => .clear
          | some _ => .priv)
        address := some (byteAddress c.address)
        valueA := if c.kind = .write then some (c.data.setWidth 32) else none
        valueB := none } := by
    rw [denialReport]
    congr 2
    rcases d.right with _ | r
    · rfl
    · cases r <;> rfl
  rw [exec_cycle_decided hi h, State.carryOut_denied ho, State.denyCycle, State.denial_eq, State.completeCycle_eq,
    unservedData_kind, hreport] <;> rfl

end
end Sys2Proof.Machine
end

section
namespace Sys2Proof.Machine

section
variable {s : State}

/-! ## The port reopens (R2, R24) -/

theorem Requester.forCounter_iff {q : Requester} :
    q.forCounter = true ↔ q = .processor .cellRead ∨ ∃ n, q = .processor (.cellWrite n) := by
  cases q with
  | internal n => simp [Requester.forCounter]
  | processor j => cases j <;> simp [Requester.forCounter]

/-- R24: what holds the port RESET-HELD. -/
theorem MemPort.counterRemains_iff {m : MemPort} : m.counterRemains = true ↔
    (∃ t, m.transfer = some t ∧ t.request.requester.forCounter = true) ∨
      ∃ r, m.place = some r ∧ r.requester.forCounter = true := by
  unfold MemPort.counterRemains
  cases m.transfer <;> cases m.place <;> simp

/-- A port that is not RESET-HELD, or is held by bus reset or by the counter guard's work, stays as it is. -/
theorem State.leaveResetHeld_stays
    (h : s.port.state ≠ .resetHeld ∨ s.port.busReset = true ∨ s.mem.counterRemains = true) : s.leaveResetHeld = s := by
  refine if_neg fun w => ?_
  obtain ⟨hs, hb, hc⟩ := w
  rcases h with h | h | h
  · exact h hs
  · rw [hb] at h; exact nomatch h
  · rw [hc] at h; exact nomatch h

theorem State.leaveResetHeld_opens (hs : s.port.state = .resetHeld) (hb : s.port.busReset = false)
    (hc : s.mem.counterRemains = false) :
    s.leaveResetHeld = State.takePresented { s with port := { s.port with state := .idle } } := if_pos ⟨hs, hb, hc⟩

theorem State.takePresented_none (h : s.port.presented = none) : s.takePresented = s := by
  rw [State.takePresented, h]

theorem State.takePresented_some {l : CycleLines} (h : s.port.presented = some l) :
    s.takePresented = State.takeCycle l { s with port := { s.port with presented := none } } := by
  rw [State.takePresented, h]

theorem exec_bus_reset_released (wide : Bool) (s : State) : exec (.busResetDeassert wide) s =
    .next ((State.leaveResetHeld { s with port := { s.port with busReset := false } }).serve wide) := rfl

/-- Settles O28: the port stays, or leaves RESET-HELD with or without a cycle presented. -/
theorem busResetDeasserts : Obligations.BusResetDeasserts := by
  intro wide s low forCell remains
  have hremains : s.mem.counterRemains = true ↔ remains := by
    rw [MemPort.counterRemains_iff]
    simp only [Requester.forCounter_iff]
    rfl
  have opens (hs : s.port.state = .resetHeld) (hr : ¬ remains) : State.leaveResetHeld { s with port := low } =
      State.takePresented { s with port := { low with state := .idle } } :=
    State.leaveResetHeld_opens hs rfl (by simpa using mt hremains.1 hr)
  rw [exec_bus_reset_released]
  refine ⟨fun h => ?_, fun hs hr hp => ?_, fun l hs hr hp => ?_⟩
  · have stays : State.leaveResetHeld { s with port := low } = { s with port := low } :=
      State.leaveResetHeld_stays (h.imp id fun h => .inr (hremains.2 h))
    rw [stays]
  · rw [opens hs hr, State.takePresented_none (s := { s with port := { low with state := .idle } }) hp]
  · rw [opens hs hr, State.takePresented_some (s := { s with port := { low with state := .idle } }) hp,
      exec_cycle_presented, State.presentCycle_idle rfl]

/-! ## The end of the scan (R96, R195) -/

/-- R96: the scan is done once every enabled cell is LIVE with nothing in flight. -/
theorem State.scanDone_iff : s.scanDone = true ↔
    ∀ (n : Fin 8) (d : CellDef), (s.cell n).defn = some d → (s.cell n).live.isSome = true ∧ (s.cell n).op = none := by
  rw [State.scanDone, List.all_eq_true]
  refine ⟨fun h n d hd => ?_, fun h n _ => ?_⟩
  · simpa [Cell.scanned, hd] using h n (mem_octOrder n)
  · cases hd : (s.cell n).defn with
    | none => simp [Cell.scanned, hd]
    | some d => simpa [Cell.scanned, hd] using h n d hd

theorem exec_scan_end (wide : Bool) (s : State) : exec (.scanEnd wide) s =
    .next (if s.start.phase = .scanning ∧ s.scanDone = true then s.openPart.serve wide else s) := rfl

theorem State.openPort_held (hb : s.port.busReset = true) :
    s.openPort = { s with port := { s.port with state := .resetHeld } } := if_pos hb

theorem State.openPort_open (hb : s.port.busReset = false) :
    s.openPort = State.takePresented { s with port := { s.port with state := .idle } } := if_neg (by simp [hb])

/-- Settles O59: the scan has not ended, or the port opens held, idle, or with the cycle that waited. -/
theorem scanEndOpensThePart : Obligations.ScanEndOpensThePart := by
  intro wide s scanned started opens running
  have opened : s.openPart = opens running.openPort := rfl
  rw [exec_scan_end]
  refine ⟨fun h => ?_, fun hp hd => ?_⟩
  · rw [if_neg fun w => h.elim (· w.1) (· (State.scanDone_iff.1 w.2))]
  · rw [if_pos ⟨hp, State.scanDone_iff.2 hd⟩, opened]
    let idle : State := { running with port := { s.port with state := .idle } }
    refine ⟨fun hb => ?_, fun hb hc => ?_, fun l hb hc => ?_⟩
    · rw [State.openPort_held (s := running) hb]
    · rw [State.openPort_open (s := running) hb, State.takePresented_none (s := idle) hc]
    · rw [State.openPort_open (s := running) hb, State.takePresented_some (s := idle) hc]

end
end Sys2Proof.Machine
end

section
namespace Sys2Proof.Machine

section
variable {s : State} {t u : Transfer} {a b : Access} {rest : List Access}

/-! ## The end of an access (R13 to R15) -/

theorem exec_access_end (data : Word) (wide : Bool) (s : State) :
    exec (.accessEnd data wide) s = .next ((s.endAccess data).serve wide) := rfl

theorem exec_access_timed_out (wide : Bool) (s : State) :
    exec (.accessTimeout wide) s = .next (s.timeOutAccess.serve wide) := rfl

theorem Transfer.canEnd_iff : t.canEnd = true ↔
    t.window.terms.readyMode = .fixed ∨ 2 + t.window.terms.waitStates.val ≤ t.readyLimit := by
  rw [Transfer.canEnd, WindowTerms.baseDuration, Bool.or_eq_true, decide_eq_true_eq, decide_eq_true_eq]

/-- What an access gathers is read data. -/
theorem Transfer.gather_eq (t : Transfer) (a : Access) (data : Word) :
    t.gather a data = { t with read0 := (t.gather a data).read0, read1 := (t.gather a data).read1 } := by
  unfold Transfer.gather
  split
  · rfl
  · split <;> rfl

theorem Transfer.advance_eq (hr : t.remaining = a :: rest) (limit : Nat) :
    t.advance limit = { t with ended := t.ended ++ [a], remaining := rest, readyLimit := limit } := by
  rw [Transfer.advance, hr]

/-- R13: the transfer after the normal end of its access in progress. -/
theorem State.endAccess_eq (ht : s.mem.transfer = some t) (hr : t.remaining = a :: rest) (hc : t.canEnd = true)
    (data : Word) : s.endAccess data = s.afterAccess { t.gather a data with
      ended := t.ended ++ [a], remaining := rest, readyLimit := s.table.settings.readyLimit } := by
  have hgather : (t.gather a data).remaining = a :: rest := by rw [Transfer.gather_eq, hr]
  have hended : (t.gather a data).ended = t.ended := by rw [Transfer.gather_eq]
  rw [State.endAccess, ht]
  simp only [hr, List.head?_cons, hc, if_true]
  rw [Transfer.advance_eq hgather, hended]

/-- R15: the transfer after the timeout of its access in progress. -/
theorem State.timeOutAccess_eq (ht : s.mem.transfer = some t) (hr : t.remaining = a :: rest)
    (hm : t.window.terms.readyMode = .ready) : s.timeOutAccess = s.afterAccess { t with
      ended := t.ended ++ [a], remaining := rest, readyLimit := s.table.settings.readyLimit
      timedOut := some (t.timedOut.getD a.deviceAddress) } := by
  rw [State.timeOutAccess, ht]
  simp only [hr, List.head?_cons, hm, if_true]
  rw [Transfer.advance_eq (t := t.timeOut a) hr]
  rfl

/-- Out of turn, the end of an access does nothing (log entry 26). -/
theorem State.endAccess_eq_self (ht : s.mem.transfer = some t) (hc : t.canEnd = false) (data : Word) :
    s.endAccess data = s := by
  rw [State.endAccess, ht]
  simp only [hc]
  split <;> rfl

/-- R13: a FIXED access does not time out. -/
theorem State.timeOutAccess_eq_self (ht : s.mem.transfer = some t) (hm : t.window.terms.readyMode = .fixed) :
    s.timeOutAccess = s := by
  rw [State.timeOutAccess, ht]
  simp only [hm]
  split <;> rfl

/-- R13: the next access starts, and nothing else changes. -/
theorem State.afterAccess_next (hr : u.remaining = b :: rest) (s : State) :
    s.afterAccess u = { s with mem := { s.mem with transfer := some u } } := if_neg (by simp [hr])

/-- The last access has ended, and the requester receives the result. -/
theorem State.afterAccess_last (hr : u.remaining = []) (s : State) :
    s.afterAccess u = State.deliver u (State.reportTimeout u s.freed) := if_pos hr

theorem Transfer.result_eq (u : Transfer) : u.result =
    { made := true, timedOut := u.timedOut.isSome, word0 := if u.timedOut = none then u.read0 else 0xFFFF,
      word1 := if u.timedOut = none then u.read1 else 0xFFFF } := by
  rw [Transfer.result]
  cases u.timedOut <;> rfl

/-- A processor cycle that waited for the counter guard completes; where it was abandoned, the port leaves RESET-HELD as
at the deassertion of bus reset. -/
theorem State.completeIfActive_leave (data : Option Word) (v : State) :
    (v.port.state = .active → (v.completeIfActive data).leaveResetHeld = (v.completed data).releaseReads) ∧
      (v.port.state = .resetHeld → v.port.busReset = true → (v.completeIfActive data).leaveResetHeld = v) ∧
      (v.port.state = .resetHeld → v.port.busReset = false → (v.completeIfActive data).leaveResetHeld =
        State.leaveResetHeld { v with port := { v.port with busReset := false } }) := by
  have unfinished (hs : v.port.state = .resetHeld) : v.completeIfActive data = v := if_neg (by simp [hs])
  refine ⟨fun hs => ?_, fun hs hb => ?_, fun hs hb => ?_⟩
  · have completes : v.completeIfActive data = v.completeCycle data := if_pos hs
    rw [completes, State.leaveResetHeld_stays (.inl (by simp)), State.completeCycle_eq]
  · rw [unfinished hs, State.leaveResetHeld_stays (.inr (.inl hb))]
  · rw [unfinished hs, ← hb]

/-- What follows at a processor cycle whose word of a cell was transferred. -/
theorem exec_settles {c : Instr} {wide : Bool} {v : State} {data : Option Word} (hv : v.port = s.port)
    (he : exec c s = .next ((v.completeIfActive data).leaveResetHeld.serve wide)) :
    (s.port.state = .active → exec c s = .next ((v.completed data).releaseReads.serve wide)) ∧
      (s.port.state = .resetHeld → s.port.busReset = true → exec c s = .next (v.serve wide)) ∧
      (s.port.state = .resetHeld → s.port.busReset = false → exec c s = exec (.busResetDeassert wide) v) := by
  obtain ⟨active, held, released⟩ := State.completeIfActive_leave data v
  rw [hv] at active held released
  refine ⟨fun h => ?_, fun h hb => ?_, fun h hb => ?_⟩
  · rw [he, active h]
  · rw [he, held h hb]
  · rw [he, released h hb, exec_bus_reset_released, hv]

/-- R15: the record of a transfer any access of which timed out. -/
theorem timeoutReport_eq (u : Transfer) (x : Addr) : timeoutReport u x =
    { kind := .deviceTimeout, key := some (.device u.window.terms.deviceSelect)
      reason := some (match u.request.direction with | .read => .read | .write => .write)
      address := some x, valueA := none, valueB := none } := by
  rw [timeoutReport]
  cases u.request.direction <;> rfl

end

/-- Settles O24: the end of a last access by its requester, of another access, and out of turn. -/
theorem accessesAndTransfersEnd : Obligations.AccessesAndTransfersEnd := by
  refine ⟨?_, fun wide s t a b rest ht hr => ?_, fun wide s => ⟨fun ht => ?_, fun t ht => ?_⟩⟩
  · intro wide s t a ht hr settles
    have last (c : Instr) (u : Transfer) (timed : Option Addr) (w0 w1 : Word)
        (he : exec c s = .next ((s.afterAccess u).serve wide)) (hrem : u.remaining = [])
        (hreq : u.request = t.request) (hwin : u.window = t.window) (hdrop : u.dropped = t.dropped)
        (htimed : u.timedOut = timed) (h0 : w0 = if u.timedOut = none then u.read0 else 0xFFFF)
        (h1 : w1 = if u.timedOut = none then u.read1 else 0xFFFF) : settles c timed w0 w1 := by
      subst htimed
      unfold settles
      intro free told result settled
      have htold : State.reportTimeout u free = told := by
        rw [State.reportTimeout]
        simp only [told]
        cases u.timedOut with
        | none => rfl
        | some x =>
          have hreport := timeoutReport_eq u x
          rw [hreq, hwin] at hreport
          exact congrArg (fun r => (free.takeRecord r).alertCause) hreport
      have hport : told.port = s.port := by rw [← htold]; simp [free]
      have hwaiting : told.guard.waitingWrite = s.guard.waitingWrite := by rw [← htold]; simp [free]
      have hresult : u.result = result := by rw [Transfer.result_eq, ← h0, ← h1]
      have hword : u.result.word0 = w0 := congrArg TransferResult.word0 hresult
      have hdata : passData u = match t.request.direction with | .read => some w0 | .write => none := by
        cases hdir : t.request.direction <;> simp [passData, hreq, hdir, hword]
      rw [State.afterAccess_last hrem] at he
      change _ = Host.Outcome.next ((State.deliver u (State.reportTimeout u free)).serve wide) at he
      rw [htold, State.deliver, hreq, hdrop, hresult, hdata] at he
      refine ⟨fun hq hd => ?_, fun hq hd => ?_, fun hq hd => ?_, fun hq hd => ?_, fun n hq => ?_, fun hq => ?_,
        fun n hq hw => ?_⟩
      · rw [he, hq, hd]
        rfl
      · rw [he, hq, hd]
        rfl
      · rw [he, hq, hd]
        rfl
      · simp only [List.mem_cons, List.not_mem_nil, or_false] at hq
        rcases hq with hq | hq | hq <;> rw [he, hq, hd] <;> rfl
      · rw [he, hq]
      · rw [hq] at he
        exact exec_settles hport he
      · rw [hq] at he
        exact exec_settles ((State.samePorts_opEnd (hwaiting.trans hw) n result).port.trans hport) he
    clear_value settles
    refine ⟨fun data hc => ?_, fun hm => ?_⟩
    · have he := exec_access_end data wide s
      rw [State.endAccess_eq ht hr (Transfer.canEnd_iff.2 hc)] at he
      have hgather := t.gather_eq a data
      have htimed : (t.gather a data).timedOut = t.timedOut := by rw [hgather]
      refine last _ _ _ _ _ he rfl (by rw [hgather]) (by rw [hgather]) (by rw [hgather]) htimed ?_ ?_ <;> rw [htimed]
    · have he := exec_access_timed_out wide s
      rw [State.timeOutAccess_eq ht hr hm] at he
      exact last _ _ _ _ _ he rfl rfl rfl rfl rfl rfl rfl
  · refine ⟨fun data hc => ?_, fun hm => ?_⟩
    · rw [exec_access_end, State.endAccess_eq ht hr (Transfer.canEnd_iff.2 hc), State.afterAccess_next rfl,
        State.serve_busy wide (by simp)]
    · rw [exec_access_timed_out, State.timeOutAccess_eq ht hr hm, State.afterAccess_next rfl,
        State.serve_busy wide (by simp)]
  · refine ⟨fun data => ?_, ?_⟩
    · rw [exec_access_end, State.endAccess, ht]
    · rw [exec_access_timed_out, State.timeOutAccess, ht]
  · have hbusy : s.serve wide = s := State.serve_busy wide (by simp [ht])
    refine ⟨fun hm => ?_, fun hm hl data => ?_⟩
    · rw [exec_access_timed_out, State.timeOutAccess_eq_self ht hm, hbusy]
    · have hc : t.canEnd = false := by
        rw [← Bool.not_eq_true, Transfer.canEnd_iff, hm]
        simp
        omega
      rw [exec_access_end, State.endAccess_eq_self ht hc, hbusy]

end Sys2Proof.Machine
end

section
namespace Sys2Proof.Machine

section
variable {s : State} {c : Cycle} {d : DecisionRecord} {word : Word}

/-! ## The fill check (R59, R60) -/

/-- R59, R60: the test of a fill looks at the written lanes only. -/
theorem erased_iff {l : Lanes} : erased l word = true ↔
    (l ≠ .high → lowByte word = 0xFF) ∧ (l ≠ .low → highByte word = 0xFF) := by
  cases l <;> simp [erased, Lanes.low?, Lanes.high?]

/-- R60: the denial record of an overwrite without CLEAR. -/
theorem denialReport_clear (hk : c.kind = .write) (hr : d.right = some .clear) : denialReport c d =
    { kind := .writeDenied, key := some (.window d.window.id), reason := some .clear
      address := some (byteAddress c.address), valueA := some (c.data.setWidth 32), valueB := none } := by
  simp [denialReport, hk, hr, Kind.denied, Right.reason]

/-- R59: the fill check of the cycle in progress. -/
theorem State.judgeFill_eq (hk : c.kind = .write) (hc : s.port.cycle = some c) (hd : s.decision.record = some d)
    (timed : Bool) (word : Word) :
    s.judgeFill timed word =
      let judged : State := { s with decision := { s.decision with record := some { d with fill := some .judged } } }
      let written : State := judged.enqueueProcessor (cycleRequest c .fillWrite .write d.window)
      if timed then (s.completed none).releaseReads
      else if erased c.lanes word then written
      else if d.held then written.chargeOpt d.chargeGrant
      else (s.completed none).releaseReads.denial c d := by
  have completes (r : Option DecisionRecord) :
      State.completeCycle none { s with decision := { s.decision with record := r } } =
        (s.completed none).releaseReads := rfl
  have hdata : unservedData (some c.kind) = none := by rw [hk]; rfl
  rw [State.judgeFill, hc, hd]
  simp only [State.denyCycle, hdata, completes]

/-- Settles O26: the judgment of a read that has ended, and the end of that read by the clause of
`accessesAndTransfersEnd` for its requester. -/
theorem fillCheckIsJudged : Obligations.FillCheckIsJudged := by
  intro c d hk judges
  have judged (timed : Bool) (word : Word) (s : State) (hc : s.port.cycle = some c) (hd : s.decision.record = some d) :
      judges s timed word fun u => s.judgeFill timed word = u := by
    have e := State.judgeFill_eq hk hc hd timed word
    refine ⟨fun ht => ?_, fun ht he => ?_, fun ht he hh => ?_, fun ht he hh hr => ?_⟩
    · rw [e, ht]
      rfl
    · rw [e, ht]
      simp only [erased_iff.2 he]
      rfl
    · have hn : erased c.lanes word = false := by simpa using mt erased_iff.1 he
      rw [e, ht]
      simp only [hn, hh]
      rfl
    · have hn : erased c.lanes word = false := by simpa using mt erased_iff.1 he
      rw [e, ht]
      simp only [hn, hh, State.denial_eq, denialReport_clear hk hr]
      rfl
  have mono (s : State) (timed : Bool) (word : Word) (p q : State → Prop) (hpq : ∀ u, p u → q u)
      (h : judges s timed word p) : judges s timed word q := by
    unfold judges at h ⊢
    obtain ⟨dropped, fill, charged, denied⟩ := h
    exact ⟨fun a => hpq _ (dropped a), fun a b => hpq _ (fill a b), fun a b e => hpq _ (charged a b e),
      fun a b e f => hpq _ (denied a b e f)⟩
  clear_value judges
  refine ⟨judged, ?_⟩
  intro wide s t a ht hq hdrop hdir hrem hc hd free told
  have toldPorts (x : Addr) : (told x).port.cycle = some c ∧ (told x).decision.record = some d := by
    simpa [told, free] using ⟨hc, hd⟩
  obtain ⟨ended, timedOut⟩ := accessesAndTransfersEnd.1 wide s t a ht hrem
  refine ⟨fun data hcan => ⟨fun hn => ?_, fun x hx => ?_⟩, fun hm => ?_⟩
  · obtain ⟨-, -, fillRead, -⟩ := ended data hcan
    rw [hn, hdir] at fillRead
    refine mono _ _ _ _ _ (fun u hu => ?_) (judged false _ free hc hd)
    rw [← hu]
    exact fillRead hq hdrop
  · obtain ⟨-, -, fillRead, -⟩ := ended data hcan
    rw [hx, hdir] at fillRead
    refine mono _ _ _ _ _ (fun u hu => ?_) (judged true _ (told x) (toldPorts x).1 (toldPorts x).2)
    rw [← hu]
    exact fillRead hq hdrop
  · obtain ⟨-, -, fillRead, -⟩ := timedOut hm
    rw [hdir] at fillRead
    refine mono _ _ _ _ _ (fun u hu => ?_) (judged true _ _ (toldPorts _).1 (toldPorts _).2)
    rw [← hu]
    exact fillRead hq hdrop

end
end Sys2Proof.Machine
end

section
namespace Sys2Proof.Machine

/-! ## The data of a read (R8, R16, R17) -/

/-- A word is its odd, high byte and its even, low one. -/
theorem highByte_append_lowByte (w : Word) : highByte w ++ lowByte w = w := by
  apply BitVec.eq_of_getLsbD_eq
  intro i hi
  simp only [highByte, lowByte, BitVec.getLsbD_append, BitVec.getLsbD_extractLsb']
  split
  · simp_all
  · rename_i h
    simp [show 8 + (i - 8) = i by omega, show i - 8 < 8 by omega]

theorem lowByte_append (x y : Byte) : lowByte (x ++ y) = y := by
  apply BitVec.eq_of_getLsbD_eq
  intro i hi
  simp only [lowByte, BitVec.getLsbD_extractLsb', BitVec.getLsbD_append]
  simp [hi]

/-- What an access adds to the word it belongs to. -/
theorem Access.gather_eq (a : Access) (width : ResolvedWidth) (data old : Word) : a.gather width data old =
    (if a.odd = false then highByte old else if width = .wide then highByte data else lowByte data) ++
      (if a.even = false then lowByte old else lowByte data) := by
  unfold Access.gather
  cases width <;> cases a.odd <;> cases a.even <;> rfl

/-- A READ gathers the bytes of an access of its low word. -/
theorem Transfer.gather_low {t : Transfer} {a : Access} (hd : t.request.direction = .read) (h2 : a.second = false)
    (data : Word) : t.gather a data = { t with read0 := a.gather t.width data t.read0 } := by
  rw [Transfer.gather, hd]
  simp [h2]

theorem Transfer.gather_high {t : Transfer} {a : Access} (hd : t.request.direction = .read) (h2 : a.second = true)
    (data : Word) : t.gather a data = { t with read1 := a.gather t.width data t.read1 } := by
  rw [Transfer.gather, hd]
  simp [h2]

theorem Transfer.gather_write {t : Transfer} (hd : t.request.direction = .write) (a : Access) (data : Word) :
    t.gather a data = t := by
  rw [Transfer.gather, hd]

section
variable {s : State} {t : Transfer} {a : Access}

/-- With nothing at the arbiter and no new read waiting, the port stays as the completed cycle leaves it. -/
theorem State.serve_completed (ht : s.mem.transfer = none) (hq : s.mem.queue = []) (hp : s.mem.place = none)
    (hw : ∀ n, (s.cell n).op ≠ some (.newRead .forCycle)) (data : Option Word) (wide : Bool) :
    ((s.completed data).releaseReads.serve wide).port.state = .idle ∧
      ((s.completed data).releaseReads.serve wide).port.completion = some { data := data } := by
  have hmem : (s.completeCycle data).mem = s.mem := by
    have hnone : (octOrder.filterMap fun n => (s.cell n).readRequest .forCycle n) = [] := by
      refine List.filterMap_eq_nil_iff.2 fun n _ => ?_
      simp [Cell.readRequest, Cell.waits, hw n]
    rw [State.mem_completeCycle, hnone, List.append_nil]
  rw [← State.completeCycle_eq, State.serve_idle wide (by rw [hmem, ht]) (by rw [hmem, hq]) (by rw [hmem, hp])]
  simp

theorem State.reportTimeout_none {u : Transfer} (h : u.timedOut = none) (s : State) : s.reportTimeout u = s := by
  rw [State.reportTimeout, h]

theorem State.deliver_pass {u : Transfer} (hr : u.request.requester = .processor .pass) (hd : u.dropped = false)
    (s : State) : s.deliver u = s.completeCycle (passData u) := by
  rw [State.deliver, hr, hd]
  rfl

theorem passData_read {u : Transfer} (hd : u.request.direction = .read) (ht : u.timedOut = none) :
    passData u = some u.read0 := by
  rw [passData, hd, Transfer.result_eq, ht]
  rfl

/-- R8: the read of a PASS ends with its last access, and completes the cycle with the word gathered. -/
theorem exec_read_ends (ht : s.mem.transfer = some t) (hrem : t.remaining = [a]) (hq : s.mem.queue = [])
    (hp : s.mem.place = none) (hw : ∀ n, (s.cell n).op ≠ some (.newRead .forCycle))
    (hr : t.request.requester = .processor .pass) (hd : t.request.direction = .read) (hdrop : t.dropped = false)
    (htimed : t.timedOut = none) (hm : t.window.terms.readyMode = .fixed) (h2 : a.second = false) (data : Word)
    (wide : Bool) :
    ∃ v : State, exec (.accessEnd data wide) s = .next v ∧ v.port.state = .idle ∧
      v.port.completion = some { data := some (a.gather t.width data t.read0) } := by
  let u : Transfer := { t with
    read0 := a.gather t.width data t.read0, ended := t.ended ++ [a], remaining := []
    readyLimit := s.table.settings.readyLimit }
  have hu : s.endAccess data = s.afterAccess u := by
    rw [State.endAccess_eq ht hrem (Transfer.canEnd_iff.2 (.inl hm)), Transfer.gather_low hd h2]
  have ended : s.endAccess data = (s.freed.completed (some (a.gather t.width data t.read0))).releaseReads := by
    rw [hu, State.afterAccess_last rfl, State.reportTimeout_none (u := u) htimed, State.deliver_pass (u := u) hr hdrop,
      passData_read (u := u) hd htimed]
    rfl
  rw [exec_access_end, ended]
  exact ⟨_, rfl, State.serve_completed (s := s.freed) rfl hq hp hw _ wide⟩

end

/-- Settles O25: a wide device's one access, and the one or two of a narrow one. -/
theorem readDataIsAssembledPerLane : Obligations.ReadDataIsAssembledPerLane := by
  refine ⟨?_, ?_, highByte_append_lowByte⟩
  · intro wide s r w limit ht hq hp hw hr hd h2 hm isWide
    have single (a : Access) (data word : Word) (h2 : a.second = false)
        (hrem : r.accesses (w.terms.width.resolve wide) w = [a])
        (hword : a.gather (w.terms.width.resolve wide) data 0xFFFF = word) :
        ∃ v : State, exec (.accessEnd data wide) s = .next v ∧ v.port.state = .idle ∧
          v.port.completion = some { data := some word } := by
      subst hword
      exact exec_read_ends ht hrem hq hp hw hr hd rfl rfl hm h2 data wide
    have wideRes (h : isWide) : w.terms.width.resolve wide = .wide := by
      rcases h with h | ⟨h, rfl⟩ <;> rw [h] <;> rfl
    have narrowRes (h : ¬ isWide) : w.terms.width.resolve wide = .narrow := by
      cases hx : w.terms.width <;> cases wide <;> simp_all [isWide, WindowWidth.resolve]
    have blank : highByte 65535#16 = 255#8 ∧ lowByte 65535#16 = 255#8 := by decide
    refine ⟨?_, fun data h hl => ?_, fun data h hl => ?_, fun d0 d1 h hl => ?_⟩
    · intro data h word
      refine single _ data word rfl (by rw [wideRes h, Request.accesses_wide, h2]; rfl) ?_
      rw [wideRes h, Access.gather_eq]
      simp only [word]
      cases r.lanes
      · simp [Lanes.high?, Lanes.low?, blank]
      · simp [Lanes.high?, Lanes.low?, blank]
      · exact highByte_append_lowByte data
    · obtain ⟨v, hv, -, hc⟩ := single _ data (0xFF#8 ++ lowByte data) rfl
        (by rw [narrowRes h, Request.accesses, hl, h2]; rfl) (by rw [narrowRes h, Access.gather_eq]; simp [blank])
      exact ⟨v, hv, hc⟩
    · obtain ⟨v, hv, -, hc⟩ := single _ data (lowByte data ++ 0xFF#8) rfl
        (by rw [narrowRes h, Request.accesses, hl, h2]; rfl) (by rw [narrowRes h, Access.gather_eq]; simp [blank])
      exact ⟨v, hv, hc⟩
    · let even : Access := { second := false, even := true, odd := false, deviceAddress := w.translate r.address }
      let odd : Access := { second := false, even := false, odd := true, deviceAddress := w.translate r.address + 1 }
      let u : Transfer := { r.start w wide limit with
        read0 := even.gather (w.terms.width.resolve wide) d0 0xFFFF, ended := [even], remaining := [odd]
        readyLimit := s.table.settings.readyLimit }
      have hrem : (r.start w wide limit).remaining = [even, odd] := by
        rw [Request.start, narrowRes h, Request.accesses, hl, h2]
        rfl
      have first : exec (.accessEnd d0 wide) s = .next { s with mem := { s.mem with transfer := some u } } := by
        rw [exec_access_end, State.endAccess_eq ht hrem (Transfer.canEnd_iff.2 (.inl hm)), State.afterAccess_next rfl,
          State.serve_busy wide (by simp), Transfer.gather_low hd rfl]
        rfl
      obtain ⟨v, hv, -, hc⟩ := exec_read_ends (s := { s with mem := { s.mem with transfer := some u } }) (t := u) rfl
        rfl hq hp hw hr hd rfl rfl hm rfl d1 wide
      refine ⟨_, v, first, rfl, hv, hc.trans ?_⟩
      rw [Access.gather_eq]
      simp [u, odd, even, Access.gather_eq, Request.start, narrowRes h, lowByte_append]
  · intro t a data taken
    have htaken (old : Word) : a.gather t.width data old = taken old := by
      rw [Access.gather_eq]
      simp only [taken]
      cases t.width <;> rfl
    refine ⟨fun hd => Transfer.gather_write hd a data, fun hd h2 => ?_, fun hd h2 => ?_⟩
    · rw [Transfer.gather_low hd h2, htaken]
    · rw [Transfer.gather_high hd h2, htaken]

end Sys2Proof.Machine
end

section
namespace Sys2Proof.Machine

section
variable {s : State} {n : Fin 8}

/-! ## Pending halves torn by bus reset (R92) -/

/-- A record changes the log, the output unit and the store, and nothing else. -/
theorem State.takeRecord_rest (r : Report) (l : Log) (o : OutputUnit) (x : Store) (s : State) :
    { s.takeRecord r with log := l, out := o, store := x } = ({ s with log := l, out := o, store := x } : State) := by
  unfold State.takeRecord State.reportAlarm State.markAfter
  split <;> rfl

/-- Records taken under other ports, cells and decision unit are the records taken, with those. -/
theorem State.takeRecords_with (rs : List Report) (p : ProcPort) (d : DecisionUnit) (g : CounterGuard) (m : MemPort)
    (s : State) : State.takeRecords rs { s with port := p, decision := d, guard := g, mem := m } =
      { State.takeRecords rs s with port := p, decision := d, guard := g, mem := m } := by
  induction rs generalizing s with
  | nil => rfl
  | cons r rs ih =>
    have head : State.takeRecord r { s with port := p, decision := d, guard := g, mem := m } =
        { s.takeRecord r with port := p, decision := d, guard := g, mem := m } := by
      refine (State.takeRecord_with r p d g m s.grants s).trans ?_
      simp
    exact (congrArg (State.takeRecords rs) head).trans (ih _)

/-- Records taken with other cells. -/
theorem State.takeRecords_guard (rs : List Report) (g : CounterGuard) (s : State) :
    State.takeRecords rs { s with guard := g } = { State.takeRecords rs s with guard := g } := by
  have ports : (State.takeRecords rs s).port = s.port ∧ (State.takeRecords rs s).decision = s.decision ∧
      (State.takeRecords rs s).mem = s.mem := by
    induction rs generalizing s with
    | nil => exact ⟨rfl, rfl, rfl⟩
    | cons r rs ih =>
      have first : State.takeRecords (r :: rs) s = State.takeRecords rs (s.takeRecord r) := rfl
      simpa [first] using ih (s.takeRecord r)
  refine (State.takeRecords_with rs s.port s.decision g s.mem s).trans ?_
  rw [← ports.1, ← ports.2.1, ← ports.2.2]

/-- The cell without its pending half, if it is enabled. -/
def Cell.torn (c : Cell) : Cell :=
  if c.defn.isSome then { c with live := c.live.map fun v => { v with half := none } } else c

/-- The record of the pending half of an enabled cell. -/
def Cell.tornRecord (n : Fin 8) (c : Cell) : Option Report :=
  match c.defn, c.live.bind LiveState.half with
  | some d, some p => some (tornReport n d p .busReset)
  | _, _ => none

theorem State.setCell_self (n : Fin 8) (s : State) : s.setCell n (s.cell n) = s := by simp [State.setCell, State.cell]

/-- R97, R100: the tearing of one pending half. -/
theorem State.tearHalf_eq {v : LiveState} {p : PendingHalf} (hv : (s.cell n).live = some v) (hp : v.half = some p)
    (d : CellDef) (reason : Reason) : s.tearHalf n d reason =
      (s.setCell n { s.cell n with live := some { v with half := none } }).takeRecord
        (tornReport n d p reason) := by
  rw [State.tearHalf, hv]
  simp only [hp]
  rw [State.modifyLive, hv]
  rfl

theorem State.tearHalf_none (h : (s.cell n).live.bind LiveState.half = none) (d : CellDef) (reason : Reason) :
    s.tearHalf n d reason = s := by
  unfold State.tearHalf
  split
  · rfl
  · rename_i v hv
    rw [hv, Option.bind_some] at h
    rw [h]

theorem Cell.torn_none {c : Cell} (h : c.live.bind LiveState.half = none) : c.torn = c := by
  unfold Cell.torn
  split
  · cases hl : c.live with
    | none => rw [Option.map_none, ← hl]
    | some v =>
      rw [hl, Option.bind_some] at h
      have hv : { v with half := none } = v := by rw [← h]
      rw [Option.map_some, hv, ← hl]
  · rfl

/-- R92: one cell as bus reset asserts. -/
theorem State.tearForReset_eq (n : Fin 8) (s : State) : s.tearForReset n =
    { s.takeRecords ((s.cell n).tornRecord n).toList with guard := (s.setCell n (s.cell n).torn).guard } := by
  unfold State.tearForReset
  cases hd : (s.cell n).defn with
  | none =>
    have hself : (s.cell n).torn = s.cell n := by simp [Cell.torn, hd]
    rw [hself, State.setCell_self, Cell.tornRecord, hd]
    rfl
  | some d =>
    cases hh : (s.cell n).live.bind LiveState.half with
    | none =>
      rw [Cell.torn_none hh, State.setCell_self, Cell.tornRecord, hd, hh]
      exact State.tearHalf_none hh d .busReset
    | some p =>
      obtain ⟨v, hv, hp⟩ := Option.bind_eq_some_iff.1 hh
      have htorn : (s.cell n).torn = { s.cell n with live := some { v with half := none } } := by
        simp [Cell.torn, hd, hv]
      rw [htorn, Cell.tornRecord, hd, hh]
      exact (State.tearHalf_eq hv hp d .busReset).trans
        (State.takeRecords_guard [tornReport n d p .busReset] _ s)

theorem State.cell_tearForReset (n m : Fin 8) (s : State) :
    (s.tearForReset n).cell m = if m = n then (s.cell n).torn else s.cell m := by
  rw [State.tearForReset_eq]
  exact State.cell_setCell ..

theorem State.cell_tearAll (s : State) (m : Fin 8) : (forCells State.tearForReset s).cell m = (s.cell m).torn :=
  State.cell_forCells (g := fun _ => Cell.torn) (fun n s m => State.cell_tearForReset n m s) s m

/-- R92: the records of the pending halves reach the log in cell order. -/
theorem State.tearAll_eq (s : State) : forCells State.tearForReset s =
    { s.takeRecords (octOrder.filterMap fun n => (s.cell n).tornRecord n) with
      guard := (forCells State.tearForReset s).guard } := by
  have walk : ∀ (l : List (Fin 8)) (s : State), l.Nodup → l.foldl (fun s n => s.tearForReset n) s =
      { s.takeRecords (l.filterMap fun n => (s.cell n).tornRecord n) with
        guard := (l.foldl (fun s n => s.tearForReset n) s).guard } := by
    intro l
    induction l with
    | nil => exact fun _ _ => rfl
    | cons n rest ih =>
      intro s hl
      obtain ⟨hn, hrest⟩ := List.nodup_cons.1 hl
      have later : (rest.filterMap fun m => ((s.tearForReset n).cell m).tornRecord m) =
          rest.filterMap fun m => (s.cell m).tornRecord m :=
        List.filterMap_congr fun m hm => by
          rw [State.cell_tearForReset, if_neg fun e : m = n => hn (e ▸ hm)]
      have reports : ((n :: rest).filterMap fun m => (s.cell m).tornRecord m) =
          ((s.cell n).tornRecord n).toList ++ rest.filterMap fun m => (s.cell m).tornRecord m := by
        rw [List.filterMap_cons]
        cases (s.cell n).tornRecord n <;> rfl
      rw [List.foldl_cons]
      refine (ih (s.tearForReset n) hrest).trans ?_
      rw [later, reports]
      generalize (rest.foldl (fun s n => s.tearForReset n) (s.tearForReset n)).guard = g
      rw [State.tearForReset_eq, State.takeRecords_guard, State.takeRecords, State.takeRecords, State.takeRecords,
        List.foldl_append]
  exact walk octOrder s (by decide)

theorem State.takeRecords_rest (rs : List Report) (l : Log) (o : OutputUnit) (x : Store) (s : State) :
    { s.takeRecords rs with log := l, out := o, store := x } = ({ s with log := l, out := o, store := x } : State) := by
  induction rs generalizing s with
  | nil => rfl
  | cons r rs ih => exact (ih (s.takeRecord r)).trans (State.takeRecord_rest r l o x s)

/-! ## Bus reset at the processor port and the memory port (R22, R23, R97) -/

/-- The state with bus reset asserted at both ports, the pending halves not yet torn. -/
abbrev State.portCut (s : State) : State := State.portReset { s with port := { s.port with busReset := true } }

/-- R22: a port that is not ACTIVE has no cycle to abandon. -/
theorem State.portCut_of_not_active (h : s.port.state ≠ .active) : s.portCut = { s with
    port := { s.port with busReset := true, state := if s.port.state = .closed then .closed else .resetHeld } } := by
  unfold State.portCut State.portReset
  cases hs : s.port.state with
  | active => exact absurd hs h
  | _ => simp [hs]

/-- The new reads that waited for the cycle wait for its transfer: the operations of cells change, and nothing else. -/
theorem State.keepReads_rest (g : CounterGuard) (s : State) :
    { forCells State.keepRead s with guard := g } = ({ s with guard := g } : State) :=
  forCells_keeps (fun s => { s with guard := g }) State.keepRead (fun n s => by
    unfold State.keepRead
    split <;> rfl) s

/-- The new reads that waited for the cycle are requested: their cells and the list change, and nothing else. -/
theorem State.releaseReads_rest (g : CounterGuard) (m : MemPort) (s : State) :
    { s.releaseReads with guard := g, mem := m } = ({ s with guard := g, mem := m } : State) :=
  forCells_keeps (fun s => { s with guard := g, mem := m }) (State.releaseRead .forCycle) (fun n s => by
    rw [State.releaseRead_eq]
    rfl) s

theorem Cell.kept_eq (c : Cell) : c.kept = { c with op := c.kept.op } := by
  unfold Cell.kept
  split <;> rfl

theorem Cell.released_eq (w : ReadWait) (c : Cell) : c.released w = { c with op := (c.released w).op } := by
  unfold Cell.released
  split <;> rfl

/-- What bus reset leaves of the state before the pending halves are torn. -/
structure State.CutBy (s p : State) : Prop where
  rest : p = { s with port := p.port, decision := p.decision, guard := p.guard, mem := p.mem }
  port : p.port = { s.port with
    busReset := true, state := if s.port.state = .closed then .closed else .resetHeld
    cycle := p.port.cycle, completion := p.port.completion }
  decision : p.decision = { s.decision with record := p.decision.record }
  cell : ∀ n, p.cell n = { s.cell n with op := (p.cell n).op }
  op : ∀ n, (s.cell n).op ≠ some (.newRead .forCycle) → (p.cell n).op = (s.cell n).op

/-- R22, R23, R97: what an abandoned cycle leaves. -/
structure State.Abandoned (s p : State) : Prop where
  cycle : p.port.cycle = none
  completion : p.port.completion = none
  record : p.decision.record = none
  waiting : p.guard.waitingWrite = none
  transfer : p.mem.transfer = s.mem.transfer.map Transfer.cut
  place : p.mem.place = s.mem.place.filter fun r => !r.requester.cutByReset
  kept : s.mem.cycleTransfer = true → p.mem.queue = s.mem.queue ∧
    ∀ n, (s.cell n).waits .forCycle = true → (p.cell n).op = some (.newRead .forTransfer)
  released : s.mem.cycleTransfer = false →
    p.mem.queue = s.mem.queue ++ (octOrder.filterMap fun n => (s.cell n).readRequest .forCycle n) ∧
      ∀ n, (s.cell n).waits .forCycle = true → (p.cell n).op = some (.newRead .requested)

theorem State.portCut_of_active (h : s.port.state = .active) :
    s.CutBy s.portCut ∧ s.Abandoned s.portCut := by
  rw [State.portCut, State.portReset_of_active h]
  split
  · rename_i hc
    have cell (n : Fin 8) : (forCells State.keepRead s.cutCycle).cell n = (s.cell n).kept := State.cell_keepReads ..
    have rest := State.keepReads_rest (forCells State.keepRead s.cutCycle).guard s.cutCycle
    have frame := s.cutCycle.keepReads_frame
    obtain ⟨-, port, decision, mem, waiting⟩ := frame
    generalize forCells State.keepRead s.cutCycle = p at *
    refine ⟨⟨?_, ?_, ?_, fun n => ?_, fun n hn => ?_⟩, ?_⟩
    · rw [port, decision, mem]
      exact rest
    · rw [port]
      simp [h]
    · rw [decision]
    · rw [cell n]
      exact Cell.kept_eq _
    · rw [cell n, Cell.kept, if_neg hn]
    · refine ⟨by rw [port], by rw [port], by rw [decision], waiting, by rw [mem]; rfl, by rw [mem]; rfl,
        fun _ => ⟨by rw [mem]; rfl, fun n hn => ?_⟩, fun e => nomatch hc.symm.trans e⟩
      rw [cell n, Cell.kept, if_pos (Cell.waits_iff.1 hn).1]
  · rename_i hc
    have cell (n : Fin 8) : s.cutCycle.releaseReads.cell n = (s.cell n).released .forCycle := State.cell_releaseAll ..
    have rest := State.releaseReads_rest s.cutCycle.releaseReads.guard s.cutCycle.releaseReads.mem s.cutCycle
    have mem := s.mem_releaseReads_cutCycle
    have port : s.cutCycle.releaseReads.port = s.cutCycle.port := by simp
    have decision : s.cutCycle.releaseReads.decision = s.cutCycle.decision := by simp
    have waiting : s.cutCycle.releaseReads.guard.waitingWrite = none := by simp
    generalize s.cutCycle.releaseReads = p at *
    refine ⟨⟨?_, ?_, ?_, fun n => ?_, fun n hn => ?_⟩, ?_⟩
    · rw [port, decision]
      exact rest
    · rw [port]
      simp [h]
    · rw [decision]
    · rw [cell n]
      exact Cell.released_eq ..
    · have unmoved : ¬ (s.cell n).waits .forCycle = true := fun e => hn (Cell.waits_iff.1 e).1
      rw [cell n, Cell.released, if_neg unmoved]
    · refine ⟨by rw [port], by rw [port], by rw [decision], waiting, by rw [mem]; rfl, by rw [mem]; rfl,
        fun e => absurd e hc, fun _ => ⟨by rw [mem], fun n hn => ?_⟩⟩
      rw [cell n, Cell.released, if_pos hn]

end
end Sys2Proof.Machine
end

section
namespace Sys2Proof.Machine

section
variable {s p u : State}

/-- R92: what the tearing of the pending halves leaves. -/
structure State.TornTo (p u : State) : Prop where
  rest : u = { p with guard := u.guard, log := u.log, out := u.out, store := u.store }
  waiting : u.guard.waitingWrite = p.guard.waitingWrite
  cell : ∀ n, u.cell n = (p.cell n).torn
  told : ∃ g, u = { p.takeRecords (octOrder.filterMap fun n => (p.cell n).tornRecord n) with guard := g }

theorem State.tearAll_tornTo (p : State) : p.TornTo (forCells State.tearForReset p) where
  rest := by
    have tear := p.tearAll_eq
    generalize forCells State.tearForReset p = u at *
    have rest := State.takeRecords_rest (octOrder.filterMap fun n => (p.cell n).tornRecord n) u.log u.out u.store p
    have guarded := congrArg (fun v : State => { v with guard := u.guard }) rest
    have kept := congrArg (fun v : State => { v with log := u.log, out := u.out, store := u.store }) tear
    exact kept.trans guarded
  waiting := by
    refine forCells_keeps (fun s => s.guard.waitingWrite) State.tearForReset (fun n s => ?_) p
    rw [State.tearForReset_eq]
    rfl
  cell := State.cell_tearAll p
  told := ⟨_, p.tearAll_eq⟩

/-- A port that was not ACTIVE is RESET-HELD, or stays CLOSED, and nothing else changes. -/
theorem State.cutBy_of_not_active (h : s.port.state ≠ .active) : s.CutBy s.portCut := by
  rw [State.portCut_of_not_active h]
  exact ⟨rfl, rfl, rfl, fun _ => rfl, fun _ _ => rfl⟩

/-- The records of the pending halves do not depend on what bus reset does at the ports. -/
theorem State.CutBy.told (h : s.CutBy p) : ∃ port decision guard mem,
    p.takeRecords (octOrder.filterMap fun n => (p.cell n).tornRecord n) =
      { s.takeRecords (octOrder.filterMap fun n => (s.cell n).tornRecord n) with
        port := port, decision := decision, guard := guard, mem := mem } := by
  have reports : (octOrder.filterMap fun n => (p.cell n).tornRecord n) =
      octOrder.filterMap fun n => (s.cell n).tornRecord n :=
    List.filterMap_congr fun n _ => by
      rw [h.cell n]
      rfl
  rw [reports]
  refine ⟨p.port, p.decision, p.guard, p.mem, ?_⟩
  exact (congrArg _ h.rest).trans (State.takeRecords_with ..)

theorem Requester.cutByReset_iff {q : Requester} : q.cutByReset = true ↔
    q ∈ [.processor .pass, .processor .fillRead, .processor .fillWrite] := by
  cases q with
  | internal n => simp [Requester.cutByReset]
  | processor j => cases j <;> simp [Requester.cutByReset]

theorem MemPort.cycleTransfer_iff {m : MemPort} : m.cycleTransfer = true ↔
    ∃ t, m.transfer = some t ∧ t.request.requester.cutByReset = true ∧ t.dropped = false := by
  rw [MemPort.cycleTransfer]
  cases m.transfer <;> simp

theorem Transfer.cut_of_cut {t : Transfer} (h : t.request.requester.cutByReset = true) :
    t.cut = { t with remaining := t.remaining.take 1, dropped := true } := if_pos h

theorem Transfer.cut_of_not_cut {t : Transfer} (h : ¬ t.request.requester.cutByReset = true) : t.cut = t := if_neg h

/-- R97: the request of a new read that waited for the cycle. -/
theorem Cell.readRequest_eq (w : ReadWait) (n : Fin 8) (c : Cell) : c.readRequest w n =
    c.defn.bind fun d => if c.op = some (.newRead w) then
      some { requester := .internal n, direction := .read, address := d.address, twoWords := decide (d.width = .w32)
             lanes := .both, data0 := 0, data1 := 0, window := none } else none := by
  unfold Cell.readRequest Cell.waits
  cases c.defn with
  | none => simp
  | some d => by_cases e : c.op = some (.newRead w) <;> simp [e, cellRequest, lowHalf, highHalf]

/-- R92: the word, the reason and the value of a torn half. -/
theorem tornReport_eq (n : Fin 8) (d : CellDef) (p : PendingHalf) (reason : Reason) : tornReport n d p reason =
    { kind := .halfTorn, key := some (.cell n), reason := some reason
      address := some (match p.half with | .low => d.address | .high => d.address + 2)
      valueA := some (p.value.setWidth 32), valueB := none } := by
  rw [← BitVec.ofNat_toNat]
  rfl

end

/-- Settles O27: what `State.portCut` does at the ports, case by case of the port state, and what
`State.tearForReset` then does to each cell; the records are the same as of the state before. -/
theorem busResetAsserts : Obligations.BusResetAsserts := by
  refine ⟨fun wide s => ⟨s.assertReset, rfl, ?_⟩, fun n d reason v p s hv hp => ?_⟩
  · have htorn : s.portCut.TornTo s.assertReset := State.tearAll_tornTo s.portCut
    have hcut : s.CutBy s.portCut := by
      by_cases h : s.port.state = .active
      · exact (State.portCut_of_active h).1
      · exact State.cutBy_of_not_active h
    have hidle := State.portCut_of_not_active (s := s)
    have hactive (h : s.port.state = .active) := (State.portCut_of_active h).2
    generalize s.assertReset = u at *
    generalize s.portCut = p at *
    have port : u.port = p.port := by rw [htorn.rest]
    have decision : u.decision = p.decision := by rw [htorn.rest]
    have mem : u.mem = p.mem := by rw [htorn.rest]
    have op (n : Fin 8) : (u.cell n).op = (p.cell n).op := by
      rw [htorn.cell n, Cell.torn]
      split <;> rfl
    have live (n : Fin 8) : (u.cell n).live =
        if (s.cell n).defn.isSome then (s.cell n).live.map fun v => { v with half := none } else (s.cell n).live := by
      rw [htorn.cell n, Cell.torn, hcut.cell n]
      split <;> rfl
    have shape (n : Fin 8) : u.cell n = { s.cell n with live := (u.cell n).live, op := (u.cell n).op } := by
      rw [htorn.cell n, Cell.torn, hcut.cell n]
      split <;> rfl
    refine ⟨?_, ?_, ?_, fun n => ⟨shape n, fun hn => ?_, fun hn => ?_⟩, fun h => ?_, fun h => ?_, fun n v hd hv => ?_,
      ?_⟩
    · rw [port, decision, mem]
      exact htorn.rest.trans (congrArg
        (fun q : State => { q with guard := u.guard, log := u.log, out := u.out, store := u.store }) hcut.rest)
    · rw [port]
      exact hcut.port
    · rw [decision]
      exact hcut.decision
    · rw [live n]
      rcases hn with hn | hn <;> simp [hn]
    · rw [op n]
      exact hcut.op n hn
    · have hp := hidle h
      refine ⟨by rw [mem, hp], by rw [port, hp], by rw [port, hp], by rw [decision, hp], by rw [htorn.waiting, hp],
        fun n => ?_⟩
      rw [op n, hp]
      rfl
    · have ab := hactive h
      intro cut remains waits
      have hrem : s.mem.cycleTransfer = true ↔ remains := by
        rw [MemPort.cycleTransfer_iff]
        simp only [Requester.cutByReset_iff]
        rfl
      have hwaits (n : Fin 8) : (s.cell n).waits .forCycle = true ↔ waits n := Cell.waits_iff
      refine ⟨by rw [port, ab.cycle], by rw [port, ab.completion], by rw [decision, ab.record],
        by rw [htorn.waiting, ab.waiting], fun r => ?_, fun hr => ?_, fun hr => ?_, fun ht => ?_, fun t ht hc => ?_,
        fun t ht hc => ?_⟩
      · rw [mem, ab.place, Option.filter_eq_some_iff, Bool.not_eq_true', ← Bool.not_eq_true, Requester.cutByReset_iff]
      · obtain ⟨queue, kept⟩ := ab.kept (hrem.2 hr)
        exact ⟨by rw [mem, queue], fun n hn => by rw [op n, kept n ((hwaits n).2 hn)]⟩
      · obtain ⟨queue, released⟩ := ab.released (by simpa using mt hrem.1 hr)
        refine ⟨?_, fun n hn => by rw [op n, released n ((hwaits n).2 hn)]⟩
        rw [mem, queue]
        congr 1
        refine List.filterMap_congr fun n _ => ?_
        rw [Cell.readRequest_eq]
        cases (s.cell n).defn with
        | none => rfl
        | some d =>
          cases (s.cell n).op with
          | none => rfl
          | some op =>
            cases op with
            | newRead x => cases x <;> rfl
            | _ => rfl
      · rw [mem, ab.transfer, ht, Option.map_none]
      · rw [mem, ab.transfer, ht, Option.map_some, Transfer.cut_of_cut (Requester.cutByReset_iff.2 hc)]
      · rw [mem, ab.transfer, ht, Option.map_some, Transfer.cut_of_not_cut (mt Requester.cutByReset_iff.1 hc)]
    · rw [live n, hd, hv]
      rfl
    · intro torn
      obtain ⟨g, told⟩ := htorn.told
      obtain ⟨_, _, _, _, reports⟩ := hcut.told
      have reported : s.takeRecords (octOrder.filterMap fun n => (s.cell n).tornRecord n) = torn := by
        refine congrArg (fun rs => s.takeRecords rs) (List.filterMap_congr fun n _ => ?_)
        unfold Cell.tornRecord
        cases (s.cell n).defn with
        | none => rfl
        | some d =>
          cases (s.cell n).live.bind LiveState.half with
          | none => rfl
          | some p => exact congrArg some (tornReport_eq n d p .busReset)
      rw [reports, reported] at told
      exact ⟨by rw [told], by rw [told], by rw [told]⟩
  · exact (State.tearHalf_eq hv hp d reason).trans (congrArg (State.takeRecord · _) (tornReport_eq n d p reason))

end Sys2Proof.Machine
end

section
namespace Sys2Proof.Machine

/-! ## Tables of eight entries, built entry by entry -/

section
variable {α : Type}

/-- A walk that gives each entry a value of its own, or leaves it. -/
theorem foldl_entries (f : Fin 8 → α → α) (v : Vector α 8) (m : Fin 8) :
    (octOrder.foldl (fun (w : Vector α 8) (n : Fin 8) => w.set n (f n w[n])) v)[m] = f m v[m] := by
  have walk : ∀ (l : List (Fin 8)) (v : Vector α 8), l.Nodup →
      (l.foldl (fun (w : Vector α 8) (n : Fin 8) => w.set n (f n w[n])) v)[m] = if m ∈ l then f m v[m] else v[m] := by
    intro l
    induction l with
    | nil => simp
    | cons n rest ih =>
      intro v hl
      obtain ⟨hn, hrest⟩ := List.nodup_cons.1 hl
      rw [List.foldl_cons, ih _ hrest]
      by_cases e : m = n
      · simp [e, hn]
      · have e' : (n : Nat) ≠ m := fun k => e (Fin.ext k.symm)
        simp [e, e']
  simpa [mem_octOrder] using walk octOrder v (by decide)

/-- R40: the live entry, or the staged one in its place. -/
theorem overlay_get (live : Vector α 8) (staged : Vector (Option α) 8) (n : Fin 8) :
    (overlay live staged)[n] = (staged[n]).getD live[n] := by
  refine (congrArg (fun g => (octOrder.foldl g live)[n]) ?_).trans
    (foldl_entries (fun n x => (staged[n]).getD x) live n)
  funext v k
  cases h : staged[k] with
  | none => simp
  | some x => rfl

/-- R28: an entry never written reads as disabled. -/
theorem loadEntries_get (v : Vector (Option (Option α)) 8) (n : Fin 8) : (loadEntries v)[n] = (v[n]).join :=
  foldl_entries (fun n _ => (v[n]).join) _ n

end

/-! ## Windows (R26) -/

section
variable {windows : Vector (Option Window) 8} {dflt : WindowTerms} {a b : Addr}

theorem Window.covers_iff {w : Window} :
    w.covers a = true ↔ w.base.toNat ≤ a.toNat ∧ a.toNat < w.base.toNat + w.size := decide_eq_true_iff

theorem coveredBy_some {n : Fin 8} {w : Window} (h : windows[n] = some w) : coveredBy windows a n = w.covers a := by
  rw [coveredBy, h]

theorem coveredBy_none {n : Fin 8} (h : windows[n] = none) : coveredBy windows a n = false := by rw [coveredBy, h]

/-- An address that no enabled window covers is covered by none of the table. -/
theorem coveredBy_eq_false {n : Fin 8} (h : ∀ w, windows[n] = some w → w.covers a = false) :
    coveredBy windows a n = false := by
  cases e : windows[n] with
  | none => exact coveredBy_none e
  | some w => rw [coveredBy_some e, h w e]

theorem matchWindow_numbered {n : Fin 8} {w : Window} (hw : windows[n] = some w) (hc : w.covers a = true)
    (lower : ∀ (k : Fin 8) (v : Window), k < n → windows[k] = some v → v.covers a = false) :
    matchWindow windows dflt a = { id := .numbered n, base := w.base, offset := w.offset, terms := w.terms } := by
  have found : octOrder.find? (coveredBy windows a) = some n :=
    find_octOrder_eq_some.2 ⟨by rw [coveredBy_some hw, hc], fun k hk => coveredBy_eq_false fun v => lower k v hk⟩
  simp only [matchWindow, found, hw]

theorem matchWindow_default (h : ∀ (n : Fin 8) (w : Window), windows[n] = some w → w.covers a = false) :
    matchWindow windows dflt a = matchDefault dflt := by
  rw [matchWindow, find_octOrder_eq_none.2 fun n => coveredBy_eq_false (h n)]

/-- A window made of aligned blocks of 256 covers a block whole or not at all. -/
theorem Window.covers_block {w : Window} (hs : 256 ∣ w.size) (hb : 256 ∣ w.base.toNat)
    (h : b.toNat / 256 = a.toNat / 256) : w.covers b = w.covers a := by
  obtain ⟨x, hx⟩ := hs
  obtain ⟨y, hy⟩ := hb
  rw [Bool.eq_iff_iff, covers_iff, covers_iff]
  omega

/-- A match depends on which windows cover the address, and on nothing else of it. -/
theorem matchWindow_congr (h : coveredBy windows b = coveredBy windows a) :
    matchWindow windows dflt b = matchWindow windows dflt a := by
  rw [matchWindow, h, matchWindow]

end

/-- Settles O13: an address matches the lowest window that covers it, and a window of whole blocks covers both addresses
of a block or neither. -/
theorem matchIsTheLowestEnabledWindow : Obligations.MatchIsTheLowestEnabledWindow := by
  refine ⟨fun _ _ => Window.covers_iff, fun _ _ => rfl, fun windows dflt a => ⟨?_, matchWindow_default, ?_⟩⟩
  · exact fun n w => matchWindow_numbered
  · intro b hb aligned
    refine matchWindow_congr (funext fun n => ?_)
    cases e : windows[n] with
    | none => rw [coveredBy_none e, coveredBy_none e]
    | some w => rw [coveredBy_some e, coveredBy_some e, Window.covers_block (aligned n w e).1 (aligned n w e).2 hb]

/-! ## The check of a table (R41) -/

section
variable {windows : Vector (Option Window) 8} {dflt : WindowTerms} {cells : Vector (Option CellDef) 8}
  {n : Fin 8} {d : CellDef}

/-- R41 test 1: all bytes of a cell match one window, of class OPEN or RECORDS. -/
def CellDef.InOne (windows : Vector (Option Window) 8) (dflt : WindowTerms) (d : CellDef) : Prop :=
  ∃ w : MatchedWindow, (w.terms.cls = .opn ∨ w.terms.cls = .records) ∧ matchWindow windows dflt d.address = w ∧
    ∀ a ∈ d.byteAddresses, (matchWindow windows dflt a).id = w.id

/-- R41 test 2: the cell shares no word with a lower-numbered enabled cell. -/
def CellDef.Apart (cells : Vector (Option CellDef) 8) (n : Fin 8) (d : CellDef) : Prop :=
  ∀ (k : Fin 8) (e : CellDef), k < n → cells[k] = some e → ∀ a ∈ d.words, a ∉ e.words

theorem windowTest_iff : windowTest windows dflt d = true ↔ d.InOne windows dflt := by
  simp [windowTest, CellDef.InOne, and_comm]

/-- Whether enabled cell `k` is below `n` and shares a word with a cell. -/
def sharesBelow (cells : Vector (Option CellDef) 8) (n : Fin 8) (d : CellDef) (k : Fin 8) : Bool :=
  decide (k < n) && (cells[k]).any fun e => e.words.any fun a => decide (a ∈ d.words)

theorem sharesBelow_iff {k : Fin 8} : sharesBelow cells n d k = true ↔
    k < n ∧ ∃ e, cells[k] = some e ∧ ∃ a ∈ d.words, a ∈ e.words := by
  cases h : cells[k] <;> simp [sharesBelow, h, and_comm]

theorem sharedWith_eq : sharedWith cells n d = octOrder.find? (sharesBelow cells n d) := by
  refine congrArg (fun p => octOrder.find? p) (funext fun k => ?_)
  cases h : cells[k] <;> simp [sharesBelow, h]

theorem sharedWith_eq_some {k : Fin 8} : sharedWith cells n d = some k ↔
    (k < n ∧ ∃ e, cells[k] = some e ∧ ∃ a ∈ d.words, a ∈ e.words) ∧ d.Apart cells k := by
  rw [sharedWith_eq, find_octOrder_eq_some, sharesBelow_iff]
  refine and_congr_right fun ⟨hk, _⟩ => ⟨fun h j e hj he a ha ha' => ?_, fun h j hj => ?_⟩
  · exact Bool.eq_false_iff.1 (h j hj) (sharesBelow_iff.2 ⟨hj.trans hk, e, he, a, ha, ha'⟩)
  · refine Bool.eq_false_iff.2 fun shares => ?_
    obtain ⟨-, e, he, a, ha, ha'⟩ := sharesBelow_iff.1 shares
    exact h j e hj he a ha ha'

theorem sharedWith_eq_none : sharedWith cells n d = none ↔ d.Apart cells n := by
  rw [sharedWith_eq, find_octOrder_eq_none]
  refine ⟨fun h k e hk he a ha ha' => ?_, fun h k => Bool.eq_false_iff.2 fun shares => ?_⟩
  · exact Bool.eq_false_iff.1 (h k) (sharesBelow_iff.2 ⟨hk, e, he, a, ha, ha'⟩)
  · obtain ⟨hk, e, he, a, ha, ha'⟩ := sharesBelow_iff.1 shares
    exact h k e hk he a ha ha'

theorem testCell_eq_none : testCell windows dflt cells n d = none ↔ d.InOne windows dflt ∧ d.Apart cells n := by
  rw [← windowTest_iff, ← sharedWith_eq_none, testCell]
  cases windowTest windows dflt d <;> simp

/-- R41: a cell fails its window test, or passes it and shares a word. -/
theorem testCell_eq_some {f : CellFailure} : testCell windows dflt cells n d = some f ↔
    (¬ d.InOne windows dflt ∧ f = .window (matchWindow windows dflt d.address).id) ∨
      (d.InOne windows dflt ∧ ∃ k, sharedWith cells n d = some k ∧ f = .overlap k) := by
  rw [← windowTest_iff, testCell]
  cases windowTest windows dflt d <;> simp [eq_comm]

theorem cellFailure_some (h : cells[n] = some d) :
    cellFailure windows dflt cells n = testCell windows dflt cells n d := by rw [cellFailure, h]

theorem cellFailure_eq_none : cellFailure windows dflt cells n = none ↔
    ∀ d, cells[n] = some d → d.InOne windows dflt ∧ d.Apart cells n := by
  cases h : cells[n] with
  | none => simp [cellFailure, h]
  | some d => simp [cellFailure_some h, testCell_eq_none]

/-- R41: a table passes where each of its enabled cells does. -/
theorem checkTable_eq_none : checkTable windows dflt cells = none ↔
    ∀ (n : Fin 8) (d : CellDef), cells[n] = some d → d.InOne windows dflt ∧ d.Apart cells n := by
  simp only [checkTable, List.findSome?_eq_none_iff, Option.map_eq_none_iff, cellFailure_eq_none]
  exact ⟨fun h n => h n (mem_octOrder n), fun h n _ => h n⟩

/-- R41: the offending cell is the lowest one that fails. -/
theorem checkTable_eq_some {f : CellFailure} (h : checkTable windows dflt cells = some (n, f)) :
    cellFailure windows dflt cells n = some f ∧ ∀ m, m < n → cellFailure windows dflt cells m = none := by
  obtain ⟨front, k, back, order, hk, hfront⟩ := List.findSome?_eq_some_iff.1 h
  obtain ⟨g, hg, e⟩ := Option.map_eq_some_iff.1 hk
  cases e
  refine ⟨hg, fun m hm => ?_⟩
  have rising : (front ++ n :: back).Pairwise (· < ·) := order ▸ (by decide : octOrder.Pairwise (· < ·))
  have here : m ∈ front ++ n :: back := order ▸ mem_octOrder m
  rcases List.mem_append.1 here with hf | hb
  · simpa using hfront m hf
  · have after := (List.pairwise_cons.1 (List.pairwise_append.1 rising).2.1).1
    rcases List.mem_cons.1 hb with rfl | hb
    · exact absurd hm (lt_irrefl _)
    · exact absurd (after m hb) (lt_asymm hm)

theorem State.cell_defns (s : State) (n : Fin 8) : s.guard.defns[n] = (s.cell n).defn := CounterGuard.defns_get ..

end

/-- Settles O35: the check finds the lowest cell that fails, and its tests are those of the statement. -/
theorem wouldBeTableIsChecked : Obligations.WouldBeTableIsChecked := by
  refine ⟨fun windows dflt cells => ⟨checkTable_eq_none, fun n f h => ?_⟩, fun s => ?_⟩
  · obtain ⟨fails, lower⟩ := checkTable_eq_some h
    refine ⟨fun m d hm => cellFailure_eq_none.1 (lower m hm) d, ?_⟩
    cases hd : cells[n] with
    | none => simp [cellFailure, hd] at fails
    | some d =>
      rw [cellFailure_some hd] at fails
      refine ⟨d, rfl, (testCell_eq_some.1 fails).imp_right ?_⟩
      rintro ⟨inOne, k, shared, rfl⟩
      obtain ⟨⟨hk, e, he, word⟩, apart⟩ := sharedWith_eq_some.1 shared
      exact ⟨inOne, k, e, rfl, hk, he, word, apart⟩
  · refine ⟨overlay s.table.windows s.table.staged.windows, overlay s.guard.defns s.table.staged.cells,
      overlay_get _ _, fun n => ?_, rfl⟩
    rw [overlay_get, State.cell_defns]

end Sys2Proof.Machine
end

section
namespace Sys2Proof.Machine

/-! ## Tables in range in the store (R34 to R36, R190) -/

theorem Items.inRange_iff {m : Items} : m.inRange = true ↔
    (∀ v, m.settings = some v → v.inRange = true) ∧
      (∀ (n : Fin 8) (w : Window), m.windows[n] = some (some w) → w.inRange = true) ∧
      ∀ (n : Fin 8) (d : CellDef), m.cells[n] = some (some d) → d.inRange = true := by
  simp only [Items.inRange, Bool.and_eq_true, List.all_eq_true, Option.all_eq_true]
  refine and_congr Iff.rfl ⟨fun h => ⟨fun n w e => ?_, fun n d e => ?_⟩, fun h n _ => ⟨?_, ?_⟩⟩
  · exact (h n (mem_octOrder n)).1 _ e w rfl
  · exact (h n (mem_octOrder n)).2 _ e d rfl
  · rintro _ e w rfl
    exact h.1 n w e
  · rintro _ e d rfl
    exact h.2 n d e

/-- An entry of a table of items is the one written, or the one before. -/
theorem entry_set {α : Type} {v : Vector α 8} {n m : Fin 8} {x y : α} (h : (v.set n x)[m] = y) : x = y ∨ v[m] = y := by
  rw [Fin.getElem_fin, Vector.getElem_set] at h
  split at h
  · exact .inl h
  · exact .inr h

theorem Items.inRange_write {m : Items} {w : ItemWrite} (hm : m.inRange = true) (hw : w.inRange = true) :
    (m.write w).inRange = true := by
  obtain ⟨settings, windows, cells⟩ := Items.inRange_iff.1 hm
  cases w with
  | settings v => exact Items.inRange_iff.2 ⟨fun u e => Option.some.inj e ▸ hw, windows, cells⟩
  | window n v =>
    refine Items.inRange_iff.2 ⟨settings, fun k u e => ?_, cells⟩
    rcases entry_set e with e | e
    · exact (Option.all_eq_true ..).1 hw u (Option.some.inj e)
    · exact windows k u e
  | cellDef n v =>
    refine Items.inRange_iff.2 ⟨settings, windows, fun k u e => ?_⟩
    rcases entry_set e with e | e
    · exact (Option.all_eq_true ..).1 hw u (Option.some.inj e)
    · exact cells k u e
  | _ => exact hm

/-- The settings, windows and cell definitions of the store are in range: those stored, those held, and those of the
writes outstanding. -/
structure Store.InRange (st : Store) : Prop where
  stored : st.stored.inRange = true
  held : st.held.inRange = true
  writes : ∀ w ∈ st.inFlight.toList ++ st.queue, w.inRange = true

/-- The start of the oldest write leaves the writes outstanding as they are. -/
theorem Store.startNext_writes (st : Store) :
    st.startNext.inFlight.toList ++ st.startNext.queue = st.inFlight.toList ++ st.queue := by
  unfold Store.startNext
  split
  · rename_i h hq
    simp [h, hq]
  · rfl

theorem Store.startNext_items (st : Store) : st.startNext.stored = st.stored ∧ st.startNext.held = st.held := by
  unfold Store.startNext
  split <;> exact ⟨rfl, rfl⟩

theorem Store.InRange.startNext {st : Store} (h : st.InRange) : st.startNext.InRange := by
  obtain ⟨stored, held⟩ := st.startNext_items
  exact ⟨stored ▸ h.stored, held ▸ h.held, st.startNext_writes ▸ h.writes⟩

theorem mem_enqueueItem {w x : ItemWrite} {q : List ItemWrite} (h : x ∈ enqueueItem w q) : x = w ∨ x ∈ q := by
  unfold enqueueItem at h
  split at h
  · obtain ⟨y, hy, e⟩ := List.mem_map.1 h
    split at e
    · exact .inl e.symm
    · exact .inr (e ▸ hy)
  · simpa [or_comm] using h

theorem Store.InRange.queueItem {st : Store} (h : st.InRange) {w : ItemWrite} (hw : w.inRange = true) :
    (st.queueItem w).InRange := by
  refine Store.InRange.startNext ⟨h.stored, Items.inRange_write h.held hw, fun x hx => ?_⟩
  rcases List.mem_append.1 hx with hx | hx
  · exact h.writes x (List.mem_append_left _ hx)
  · rcases mem_enqueueItem hx with rfl | hx
    · exact hw
    · exact h.writes x (List.mem_append_right _ hx)

theorem Store.InRange.queueItems {l : List ItemWrite} (hl : ∀ w ∈ l, w.inRange = true) {st : Store} (h : st.InRange) :
    (l.foldl (fun q w => q.queueItem w) st).InRange := by
  induction l generalizing st with
  | nil => exact h
  | cons w l ih => exact ih (fun x hx => hl x (by simp [hx])) (h.queueItem (hl w (by simp)))

theorem Store.InRange.complete {st : Store} (h : st.InRange) : st.complete.InRange := by
  unfold Store.complete
  split
  · exact h
  · rename_i w hw
    refine Store.InRange.startNext ⟨Items.inRange_write h.stored (h.writes w (by simp [hw])), h.held, fun x hx => ?_⟩
    exact h.writes x (List.mem_append_right _ (by simpa using hx))

theorem Items.inRange_loaded {m : Items} (h : m.inRange = true) : m.loaded.inRange = true := by
  unfold Items.loaded
  split
  · exact h
  · refine Items.inRange_iff.2 ⟨(fun _ e => nomatch e), fun n w e => ?_, fun n d e => ?_⟩
    · have blank : (Items.blank.windows)[n] = none := by fin_cases n <;> rfl
      exact nomatch blank.symm.trans e
    · have blank : (Items.blank.cells)[n] = none := by fin_cases n <;> rfl
      exact nomatch blank.symm.trans e

/-- The held values after the load are in range (R190). -/
theorem Store.InRange.load {st : Store} (h : st.InRange) : st.load.InRange := by
  refine ⟨h.stored, ?_, h.writes⟩
  have written : ∀ (l : List ItemWrite) (m : Items), (∀ w ∈ l, w.inRange = true) → m.inRange = true →
      (l.foldl Items.write m).inRange = true := by
    intro l
    induction l with
    | nil => exact fun _ _ hm => hm
    | cons w l ih =>
      exact fun m hl hm => ih _ (fun x hx => hl x (by simp [hx])) (Items.inRange_write hm (hl w (by simp)))
  exact written _ _ h.writes (Items.inRange_loaded h.stored)

/-! ## The state of one cell (R72 to R74, R77, R91) -/

section
variable {c : Cell} {d : CellDef} {v : LiveState}

theorem CellMode.creditFits_of_le {m : CellMode} {x y : Nat} (h : m.creditFits x = true) (hy : y ≤ x) :
    m.creditFits y = true := by
  cases m with
  | monotonic =>
    have hx : x = 0 := by simpa [CellMode.creditFits] using h
    simp [CellMode.creditFits]
    omega
  | rate r cap =>
    have hx : x ≤ cap * 65536 := by simpa [CellMode.creditFits] using h
    simp [CellMode.creditFits]
    omega

theorem CellMode.creditFits_zero (m : CellMode) : m.creditFits 0 = true := by cases m <;> simp [CellMode.creditFits]

/-- The clauses of `Cell.lawful` for a LIVE cell, by name. -/
structure Cell.LiveFits (c : Cell) (d : CellDef) (v : LiveState) : Prop where
  shadow : v.shadow < 2 ^ d.width.bits
  floor : v.floor ≤ v.shadow
  credit : d.mode.creditFits v.credit = true
  half : d.halfFits v.half = true
  write : ∀ o x isSet, c.op = some (.evaluation o x isSet) → c.stale = false →
    x < 2 ^ d.width.bits ∧ (isSet = true ∨ v.shadow ≤ x)
  loaded : c.loadedFloor = none

theorem Cell.writeFits_iff : c.writeFits d v = true ↔ ∀ o x isSet, c.op = some (.evaluation o x isSet) →
    c.stale = false → x < 2 ^ d.width.bits ∧ (isSet = true ∨ v.shadow ≤ x) := by
  unfold Cell.writeFits
  split
  · rename_i o x isSet ho hs
    simp [ho, hs]
  · rename_i h
    simp only [true_iff]
    exact fun o x isSet ho hs => (h o x isSet ho hs).elim

theorem Cell.lawful_live (hd : c.defn = some d) (hv : c.live = some v) : c.lawful = true ↔ c.LiveFits d v := by
  rw [Cell.lawful, hd, hv]
  simp only [Bool.and_eq_true, decide_eq_true_eq, Cell.writeFits_iff, Option.isNone_iff_eq_none]
  constructor
  · rintro ⟨⟨⟨⟨⟨shadow, floor⟩, credit⟩, half⟩, write⟩, loaded⟩
    exact ⟨shadow, floor, credit, half, write, loaded⟩
  · rintro ⟨shadow, floor, credit, half, write, loaded⟩
    exact ⟨⟨⟨⟨⟨shadow, floor⟩, credit⟩, half⟩, write⟩, loaded⟩

theorem Cell.lawful_reading (hd : c.defn = some d) (hv : c.live = none) :
    c.lawful = true ↔ ∀ f, c.loadedFloor = some f → f < 2 ^ d.width.bits := by
  rw [Cell.lawful, hd, hv]
  cases c.loadedFloor <;> simp

theorem Cell.lawful_disabled (hd : c.defn = none) : c.lawful = true ↔ c.live = none := by
  rw [Cell.lawful, hd]
  simp

/-- A cell with no live state and no loaded floor is within its ranges under any definition. -/
theorem Cell.lawful_of_none (hv : c.live = none) (hf : c.loadedFloor = none) : c.lawful = true := by
  cases hd : c.defn with
  | none => exact (Cell.lawful_disabled hd).2 hv
  | some d => exact (Cell.lawful_reading hd hv).2 (by simp [hf])

/-- The law of a cell asks of its operation only what value it writes. -/
theorem Cell.lawful_setOp (h : c.lawful = true) {op : Option Operation} (ho : ∀ o x isSet,
    op = some (.evaluation o x isSet) → c.stale = false → ∀ d v, c.defn = some d → c.live = some v →
      x < 2 ^ d.width.bits ∧ (isSet = true ∨ v.shadow ≤ x)) :
    Cell.lawful { c with op := op } = true := by
  rcases Option.eq_none_or_eq_some c.defn with hd | ⟨d, hd⟩
  · exact (Cell.lawful_disabled (c := { c with op := op }) hd).2 ((Cell.lawful_disabled hd).1 h)
  · rcases Option.eq_none_or_eq_some c.live with hv | ⟨v, hv⟩
    · exact (Cell.lawful_reading (c := { c with op := op }) hd hv).2 ((Cell.lawful_reading hd hv).1 h)
    · exact (Cell.lawful_live (c := { c with op := op }) hd hv).2
        { (Cell.lawful_live hd hv).1 h with write := fun o x isSet e hs => ho o x isSet e hs d v hd hv }

/-- A change of the live state keeps the law where the new live state fits. -/
theorem Cell.lawful_map (h : c.lawful = true) {f : LiveState → LiveState}
    (hf : ∀ d v, c.defn = some d → c.live = some v → c.LiveFits d v → c.LiveFits d (f v)) :
    Cell.lawful { c with live := c.live.map f } = true := by
  rcases Option.eq_none_or_eq_some c.defn with hd | ⟨d, hd⟩
  · have hv := (Cell.lawful_disabled hd).1 h
    exact (Cell.lawful_disabled (c := { c with live := c.live.map f }) hd).2 (by simp [hv])
  · rcases Option.eq_none_or_eq_some c.live with hv | ⟨v, hv⟩
    · exact (Cell.lawful_reading (c := { c with live := c.live.map f }) hd (by simp [hv])).2
        ((Cell.lawful_reading hd hv).1 h)
    · exact (Cell.lawful_live (c := { c with live := c.live.map f }) hd (by simp [hv])).2
        { hf d v hd hv ((Cell.lawful_live hd hv).1 h) with }

end

end Sys2Proof.Machine
end

section
namespace Sys2Proof.Machine

/-! ## Checks and ranges (R34 to R36, R142) -/

/-- A list of checks examines a list of ranges, in order and at their offsets. -/
def Examines (checks : List (Nat × Bool)) (ranges : List (Nat × Prop)) : Prop :=
  List.Forall₂ (fun c r => c.1 = r.1 ∧ (c.2 = true ↔ r.2)) checks ranges

theorem Examines.nil : Examines [] [] := List.Forall₂.nil

theorem Examines.cons {o : Nat} {ok : Bool} {r : Prop} {checks ranges} (h : ok = true ↔ r)
    (rest : Examines checks ranges) : Examines ((o, ok) :: checks) ((o, r) :: ranges) :=
  List.Forall₂.cons ⟨rfl, h⟩ rest

theorem Examines.append {a b : List (Nat × Bool)} {x y : List (Nat × Prop)} (h : Examines a x) (k : Examines b y) :
    Examines (a ++ b) (x ++ y) := List.rel_append h k

/-- No check fails exactly where every range holds. -/
theorem Examines.firstBad_eq_none {checks ranges} (h : Examines checks ranges) :
    firstBad checks = none ↔ ∀ x ∈ ranges, x.2 := by
  induction h with
  | nil => simp [firstBad]
  | @cons c r cs rs hc _ ih =>
    obtain ⟨o, ok⟩ := c
    cases ok with
    | true => simp [firstBad, ih, ← hc.2]
    | false => simp [firstBad, ← hc.2]

/-- The first range that fails is the one answered. -/
theorem Examines.firstBad_eq_some {offset : Nat} {bad : Prop} {before after : List (Nat × Prop)} {checks}
    (h : Examines checks (before ++ (offset, bad) :: after)) (holds : ∀ x ∈ before, x.2) (hb : ¬ bad) :
    firstBad checks = some offset := by
  induction before generalizing checks with
  | nil =>
    obtain ⟨⟨o, ok⟩, rest, ⟨rfl, hok⟩, -, rfl⟩ := List.forall₂_cons_right_iff.1 h
    have failed : ok = false := by simpa using mt hok.1 hb
    simp [firstBad, failed]
  | cons r before ih =>
    obtain ⟨⟨o, ok⟩, rest, ⟨-, hok⟩, hrest, rfl⟩ := List.forall₂_cons_right_iff.1 h
    rw [firstBad, if_pos (hok.2 (holds r (by simp)))]
    exact ih hrest fun x hx => holds x (by simp [hx])

/-! ## The codes of the fields (section 6.5) -/

theorem WindowClass.isSome_ofByteCode (n : Nat) : (WindowClass.ofByteCode n).isSome = true ↔ n ≤ 4 := by
  match n with
  | 0 | 1 | 2 | 3 | 4 => simp [WindowClass.ofByteCode]
  | n + 5 => simp [WindowClass.ofByteCode]

theorem WindowWidth.isSome_ofByteCode (n : Nat) : (WindowWidth.ofByteCode n).isSome = true ↔ n ≤ 2 := by
  match n with
  | 0 | 1 | 2 => simp [WindowWidth.ofByteCode]
  | n + 3 => simp [WindowWidth.ofByteCode]

theorem ReadyMode.isSome_ofByteCode (n : Nat) : (ReadyMode.ofByteCode n).isSome = true ↔ n ≤ 1 := by
  match n with
  | 0 | 1 => simp [ReadyMode.ofByteCode]
  | n + 2 => simp [ReadyMode.ofByteCode]

theorem DenyResponse.isSome_ofByteCode (n : Nat) : (DenyResponse.ofByteCode n).isSome = true ↔ n ≤ 1 := by
  match n with
  | 0 | 1 => simp [DenyResponse.ofByteCode]
  | n + 2 => simp [DenyResponse.ofByteCode]

theorem ParityMode.isSome_ofByteCode (n : Nat) : (ParityMode.ofByteCode n).isSome = true ↔ n ≤ 2 := by
  match n with
  | 0 | 1 | 2 => simp [ParityMode.ofByteCode]
  | n + 3 => simp [ParityMode.ofByteCode]

theorem StopBits.isSome_ofByteCode (n : Nat) : (StopBits.ofByteCode n).isSome = true ↔ 1 ≤ n ∧ n ≤ 2 := by
  match n with
  | 0 | 1 | 2 => simp [StopBits.ofByteCode]
  | n + 3 => simp [StopBits.ofByteCode]

theorem LampPolarity.isSome_ofByteCode (n : Nat) : (LampPolarity.ofByteCode n).isSome = true ↔ n ≤ 1 := by
  match n with
  | 0 | 1 => simp [LampPolarity.ofByteCode]
  | n + 2 => simp [LampPolarity.ofByteCode]

theorem WindowClass.classCode_ofByteCode {n : Nat} (h : n ≤ 4) (x : WindowClass) :
    Layout.classCode ((WindowClass.ofByteCode n).getD x) = n := by
  interval_cases n <;> rfl

theorem WindowWidth.widthCode_ofByteCode {n : Nat} (h : n ≤ 2) (x : WindowWidth) :
    Layout.widthCode ((WindowWidth.ofByteCode n).getD x) = n := by
  interval_cases n <;> rfl

theorem ReadyMode.readyCode_ofByteCode {n : Nat} (h : n ≤ 1) (x : ReadyMode) :
    Layout.readyCode ((ReadyMode.ofByteCode n).getD x) = n := by
  interval_cases n <;> rfl

theorem DenyResponse.denyCode_ofByteCode {n : Nat} (h : n ≤ 1) (x : DenyResponse) :
    Layout.denyCode ((DenyResponse.ofByteCode n).getD x) = n := by
  interval_cases n <;> rfl

theorem ParityMode.parityCode_ofByteCode {n : Nat} (h : n ≤ 2) (x : ParityMode) :
    Layout.parityCode ((ParityMode.ofByteCode n).getD x) = n := by
  interval_cases n <;> rfl

theorem StopBits.stopCode_ofByteCode {n : Nat} (h : 1 ≤ n ∧ n ≤ 2) (x : StopBits) :
    Layout.stopCode ((StopBits.ofByteCode n).getD x) = n := by
  obtain ⟨lo, hi⟩ := h
  interval_cases n <;> rfl

theorem LampPolarity.polarityCode_ofByteCode {n : Nat} (h : n ≤ 1) (x : LampPolarity) :
    Layout.polarityCode ((LampPolarity.ofByteCode n).getD x) = n := by
  interval_cases n <;> rfl

theorem flag_decide {n : Nat} (h : n ≤ 1) : Layout.flag (decide (n = 1)) = n := by interval_cases n <;> rfl

theorem isFlag_iff (n : Nat) : isFlag n = true ↔ n ≤ 1 := decide_eq_true_iff

theorem val_finOf {k n : Nat} (h : n < k) (x : Fin k) : ((finOf k n).getD x).val = n := by
  rw [finOf, dif_pos h]
  rfl

/-- R34: the window sizes are the powers of two from 2^8 to 2^24. -/
theorem isWindowSize_iff (n : Nat) : isWindowSize n = true ↔ ∃ k : Nat, 8 ≤ k ∧ k ≤ 24 ∧ n = 2 ^ k := by
  simp only [isWindowSize, List.any_eq_true, List.mem_range, beq_iff_eq]
  constructor
  · rintro ⟨i, hi, e⟩
    exact ⟨8 + i, by omega, by omega, e⟩
  · rintro ⟨k, lo, hi, e⟩
    exact ⟨k - 8, by omega, by rw [e, Nat.add_sub_of_le lo]⟩

/-- A field of three bytes is an address. -/
theorem toNat_address (p : List Byte) (o : Nat) : (BitVec.ofNat 24 (fieldAt p o 3)).toNat = fieldAt p o 3 := by
  rw [BitVec.toNat_ofNat]
  exact Nat.mod_eq_of_lt (fieldAt_lt p o 3)

theorem toNat_byte (p : List Byte) (o : Nat) : (BitVec.ofNat 8 (fieldAt p o 1)).toNat = fieldAt p o 1 := by
  rw [BitVec.toNat_ofNat]
  exact Nat.mod_eq_of_lt (fieldAt_lt p o 1)

/-! ## The ranges of the staging commands, and what they stage -/

section
variable (p : List Byte)

def timingRanges : List (Nat × Prop) :=
  [(20, fieldAt p 20 1 ≤ 2), (21, fieldAt p 21 1 ≤ 15), (22, fieldAt p 22 1 ≤ 1), (23, fieldAt p 23 1 ≤ 1)]

/-- R34: the ranges of the fields of an enabled numbered window. -/
def enabledRanges : List (Nat × Prop) :=
  [(8, fieldAt p 11 4 ∣ fieldAt p 8 3), (11, ∃ k : Nat, 8 ≤ k ∧ k ≤ 24 ∧ fieldAt p 11 4 = 2 ^ k),
   (15, fieldAt p 15 1 ≤ 4), (16, fieldAt p 16 1 ≤ 5),
   (17, 256 ∣ fieldAt p 17 3 ∧ fieldAt p 17 3 + fieldAt p 11 4 ≤ 16777216)] ++ timingRanges p

def windowRanges : List (Nat × Prop) :=
  (6, fieldAt p 6 1 ≤ 8) ::
    if fieldAt p 6 1 = 8 then [(15, fieldAt p 15 1 ≤ 4), (16, fieldAt p 16 1 ≤ 5)] ++ timingRanges p
    else (7, fieldAt p 7 1 ≤ 1) :: if fieldAt p 7 1 = 0 then [] else enabledRanges p

/-- R35: the ranges of the fields of an enabled cell. -/
def enabledCellRanges : List (Nat × Prop) :=
  [(8, fieldAt p 8 1 = 16 ∨ fieldAt p 8 1 = 32),
   (9, (if fieldAt p 8 1 = 16 then 2 else 4) ∣ fieldAt p 9 3), (12, fieldAt p 12 1 ≤ 1)] ++
    if fieldAt p 12 1 = 1 then [(13, 1 ≤ fieldAt p 13 3), (16, 1 ≤ fieldAt p 16 2)] else []

def cellRanges : List (Nat × Prop) :=
  (6, fieldAt p 6 1 ≤ 7) :: (7, fieldAt p 7 1 ≤ 1) :: if fieldAt p 7 1 = 0 then [] else enabledCellRanges p

def settingsRanges : List (Nat × Prop) :=
  [(6, 1 ≤ fieldAt p 6 1 ∧ fieldAt p 6 1 ≤ 254), (7, fieldAt p 7 2 ≤ 1023), (9, fieldAt p 9 1 ≤ 2),
   (10, 1 ≤ fieldAt p 10 1 ∧ fieldAt p 10 1 ≤ 2), (11, 1 ≤ fieldAt p 11 1),
   (13, 1 ≤ fieldAt p 13 2 ∧ fieldAt p 13 2 ≤ 3600), (15, 16 ≤ fieldAt p 15 2),
   (17, 1 ≤ fieldAt p 17 1 ∧ fieldAt p 17 1 ≤ 16), (18, fieldAt p 18 1 ≤ 1), (19, fieldAt p 19 1 ≤ 1)]

theorem checkTiming_examines : Examines (checkTiming p 7) (timingRanges p) :=
  .cons (WindowWidth.isSome_ofByteCode _) <| .cons decide_eq_true_iff <|
    .cons (ReadyMode.isSome_ofByteCode _) <| .cons (DenyResponse.isSome_ofByteCode _) .nil

theorem stageWindowChecks_examines : Examines (stageWindowChecks p) (windowRanges p) := by
  refine .cons decide_eq_true_iff ?_
  split
  · exact .cons (WindowClass.isSome_ofByteCode _) <| .cons decide_eq_true_iff (checkTiming_examines p)
  · refine .cons (isFlag_iff _) ?_
    split
    · exact .nil
    · refine .cons decide_eq_true_iff <| .cons (isWindowSize_iff _) <| .cons (WindowClass.isSome_ofByteCode _) <|
        .cons decide_eq_true_iff <| .cons ?_ (checkTiming_examines p)
      rw [decide_eq_true_iff, Nat.dvd_iff_mod_eq_zero]

theorem stageCellChecks_examines : Examines (stageCellChecks p) (cellRanges p) := by
  refine .cons decide_eq_true_iff <| .cons (isFlag_iff _) ?_
  split
  · exact .nil
  · refine Examines.append (.cons ?_ <| .cons ?_ <| .cons (isFlag_iff _) .nil) ?_
    · simp
    · rw [decide_eq_true_iff, Nat.dvd_iff_mod_eq_zero]
    · split
      · exact .cons decide_eq_true_iff <| .cons decide_eq_true_iff .nil
      · exact .nil

theorem checkSettings_examines : Examines (checkSettings p 6) (settingsRanges p) :=
  .cons decide_eq_true_iff <| .cons decide_eq_true_iff <| .cons (ParityMode.isSome_ofByteCode _) <|
    .cons (StopBits.isSome_ofByteCode _) <| .cons decide_eq_true_iff <| .cons decide_eq_true_iff <|
    .cons decide_eq_true_iff <| .cons decide_eq_true_iff <| .cons (isFlag_iff _) <|
    .cons (LampPolarity.isSome_ofByteCode _) .nil

/-- The terms of a window as the payload of STAGE WINDOW gives them. -/
def HasTerms (t : WindowTerms) : Prop :=
  Layout.classCode t.cls = fieldAt p 15 1 ∧ t.deviceSelect.val = fieldAt p 16 1 ∧
    Layout.widthCode t.width = fieldAt p 20 1 ∧ t.waitStates.val = fieldAt p 21 1 ∧
    Layout.readyCode t.readyMode = fieldAt p 22 1 ∧ Layout.denyCode t.denyResponse = fieldAt p 23 1

/-- The staged copy with what STAGE WINDOW stages. -/
def TakesWindow (st u : Staged) : Prop :=
  (fieldAt p 6 1 = 8 → ∃ t : WindowTerms, HasTerms p t ∧ u = { st with dflt := some t }) ∧
  ∀ n : Fin 8, fieldAt p 6 1 = n.val →
    (fieldAt p 7 1 = 0 → u = { st with windows := st.windows.set n (some none) }) ∧
    (fieldAt p 7 1 = 1 → ∃ w : Window, w.base.toNat = fieldAt p 8 3 ∧ w.size = fieldAt p 11 4 ∧
      w.offset.toNat = fieldAt p 17 3 ∧ HasTerms p w.terms ∧
        u = { st with windows := st.windows.set n (some (some w)) })

/-- The staged copy with what STAGE CELL stages. -/
def TakesCell (st u : Staged) : Prop :=
  ∀ n : Fin 8, fieldAt p 6 1 = n.val →
    (fieldAt p 7 1 = 0 → u = { st with cells := st.cells.set n (some none) }) ∧
    (fieldAt p 7 1 = 1 → ∃ d : CellDef,
      (match d.width with | .w16 => 16 | .w32 => 32) = fieldAt p 8 1 ∧ d.address.toNat = fieldAt p 9 3 ∧
      d.mode =
        (if fieldAt p 12 1 = 1 then .rate (fieldAt p 13 3) (fieldAt p 16 2) else .monotonic) ∧
        u = { st with cells := st.cells.set n (some (some d)) })

/-- The staged copy with what STAGE SETTINGS stages. -/
def TakesSettings (st u : Staged) : Prop :=
  ∃ v : Settings, u = { st with settings := some v } ∧ v.nodeAddress.toNat = fieldAt p 6 1 ∧
    v.divisor = fieldAt p 7 2 ∧ Layout.parityCode v.parityMode = fieldAt p 9 1 ∧
    Layout.stopCode v.stopBits = fieldAt p 10 1 ∧ v.alertThreshold = fieldAt p 11 1 ∧
    v.lockdownThreshold = fieldAt p 12 1 ∧ v.decayInterval = fieldAt p 13 2 ∧ v.readyLimit = fieldAt p 15 2 ∧
    v.holdLimit = fieldAt p 17 1 ∧ Layout.flag v.parityCheck = fieldAt p 18 1 ∧
    Layout.polarityCode v.polarity = fieldAt p 19 1

variable {p}

theorem readTerms_hasTerms (hc : fieldAt p 15 1 ≤ 4) (hs : fieldAt p 16 1 ≤ 5) (ht : ∀ x ∈ timingRanges p, x.2) :
    HasTerms p (readTerms p 7) := by
  simp only [timingRanges, List.forall_mem_cons] at ht
  obtain ⟨width, wait, ready, deny, -⟩ := ht
  exact ⟨WindowClass.classCode_ofByteCode hc _, val_finOf (Nat.lt_succ_of_le hs) _,
    WindowWidth.widthCode_ofByteCode width _, val_finOf (Nat.lt_succ_of_le wait) _,
    ReadyMode.readyCode_ofByteCode ready _, DenyResponse.denyCode_ofByteCode deny _⟩

theorem stageWindowWrite_numbered {n : Fin 8} (h : fieldAt p 6 1 = n.val) (st : Staged) :
    stageWindowWrite p st = { st with windows := st.windows.set n (some (readWindow p 7)) } := by
  have hn : WindowId.ofByteCode (fieldAt p 6 1) = some (.numbered n) := by
    rw [WindowId.ofByteCode, if_neg (by omega), finOf_eq_some.2 h]
    rfl
  rw [stageWindowWrite, hn]

/-- STAGE WINDOW stages the window of its payload. -/
theorem stageWindowWrite_takes (h : ∀ x ∈ windowRanges p, x.2) (st : Staged) :
    TakesWindow p st (stageWindowWrite p st) := by
  obtain ⟨-, rest⟩ := List.forall_mem_cons.1 h
  refine ⟨fun h8 => ?_, fun n hn => ?_⟩
  · rw [if_pos h8] at rest
    obtain ⟨hc, rest⟩ := List.forall_mem_cons.1 rest
    obtain ⟨hs, ht⟩ := List.forall_mem_cons.1 rest
    refine ⟨readTerms p 7, readTerms_hasTerms hc hs ht, ?_⟩
    rw [stageWindowWrite, h8]
    rfl
  · rw [if_neg (by omega)] at rest
    obtain ⟨-, rest⟩ := List.forall_mem_cons.1 rest
    rw [stageWindowWrite_numbered hn]
    refine ⟨fun h0 => by rw [readWindow, if_pos h0], fun h1 => ?_⟩
    rw [if_neg (by omega)] at rest
    simp only [enabledRanges, List.forall_mem_append, List.forall_mem_cons] at rest
    obtain ⟨⟨-, -, hc, hs, -, -⟩, ht⟩ := rest
    have enabled : readWindow p 7 = some
        { base := BitVec.ofNat 24 (fieldAt p 8 3), size := fieldAt p 11 4, offset := BitVec.ofNat 24 (fieldAt p 17 3)
          terms := readTerms p 7 } := if_neg (by omega)
    rw [enabled]
    exact ⟨_, toNat_address p 8, rfl, toNat_address p 17, readTerms_hasTerms hc hs ht, rfl⟩

/-- STAGE CELL stages the cell definition of its payload. -/
theorem stageCellWrite_takes (h : ∀ x ∈ cellRanges p, x.2) (st : Staged) : TakesCell p st (stageCellWrite p st) := by
  intro n hn
  obtain ⟨-, rest⟩ := List.forall_mem_cons.1 h
  obtain ⟨-, rest⟩ := List.forall_mem_cons.1 rest
  rw [stageCellWrite, finOf_eq_some.2 hn]
  refine ⟨fun h0 => by simp only [readCellDef, if_pos h0], fun h1 => ?_⟩
  rw [if_neg (by omega)] at rest
  simp only [enabledCellRanges, List.forall_mem_append, List.forall_mem_cons] at rest
  obtain ⟨⟨width, -⟩, -⟩ := rest
  have enabled : readCellDef p 7 = some
      { width := if fieldAt p 8 1 = 16 then .w16 else .w32, address := BitVec.ofNat 24 (fieldAt p 9 3)
        mode := if fieldAt p 12 1 = 1 then .rate (fieldAt p 13 3) (fieldAt p 16 2) else .monotonic } := if_neg (by omega)
  rw [enabled]
  refine ⟨_, ?_, toNat_address p 9, rfl, rfl⟩
  rcases width with e | e <;> simp [e]

/-- STAGE SETTINGS stages the settings record of its payload. -/
theorem readSettings_takes (h : ∀ x ∈ settingsRanges p, x.2) (st : Staged) :
    TakesSettings p st { st with settings := some (readSettings p 6) } := by
  simp only [settingsRanges, List.forall_mem_cons] at h
  obtain ⟨-, -, parity, stop, -, -, -, -, check, polarity, -⟩ := h
  exact ⟨_, rfl, toNat_byte p 6, rfl, ParityMode.parityCode_ofByteCode parity _, StopBits.stopCode_ofByteCode stop _,
    rfl, rfl, rfl, rfl, rfl, flag_decide check, LampPolarity.polarityCode_ofByteCode polarity _⟩

end

/-! ## Authority (R33, R126) -/

section
variable {p : List Byte} {s : State}

theorem State.actingGrant_eq_some {a : ActingGrant} {i : Fin 4} {g : Grant} : s.actingGrant a = some (i, g) ↔
    a.slot = i.val ∧ ∃ tally openedAt, s.grants.slots[i] = .opened g tally openedAt ∧ g.toolId = a.toolId := by
  unfold State.actingGrant
  rcases hf : finOf 4 a.slot with _ | j
  · have := finOf_eq_none.1 hf
    simp only [reduceCtorEq, false_iff]
    rintro ⟨e, -⟩
    omega
  · rw [finOf_eq_some] at hf
    rw [hf]
    constructor
    · intro h
      simp only [] at h
      split at h
      · rename_i g' tally openedAt hs
        split at h
        · rename_i ht
          cases h
          exact ⟨rfl, tally, openedAt, hs, ht⟩
        · exact nomatch h
      · exact nomatch h
    · rintro ⟨e, tally, openedAt, hs, ht⟩
      obtain rfl := Fin.ext e
      simp [hs, ht]

/-- R33: an unprovisioned part waives the check. -/
theorem State.configureAuthority_waived (h : s.store.held.provisionedMark ≠ some true) :
    s.configureAuthority p = some none := by
  simp [State.configureAuthority, State.provisioned, h]

theorem State.configureAuthority_provisioned (h : s.store.held.provisionedMark = some true) :
    s.configureAuthority p = (s.actingGrant (.read p)).bind fun x => if x.2.hasRight .configure then some (some x.1) else none := by
  simp only [State.configureAuthority, State.provisioned, h, decide_true, Bool.true_eq_false, if_false]
  cases s.actingGrant (.read p) <;> rfl

/-- R33: on a provisioned part the authority is an acting grant with the right CONFIGURE. -/
theorem State.configureAuthority_iff (h : s.store.held.provisionedMark = some true) {i : Fin 4} :
    s.configureAuthority p = some (some i) ↔
      fieldAt p 1 1 = i.val ∧ ∃ g tally openedAt, s.grants.slots[i] = .opened g tally openedAt ∧
        g.toolId = BitVec.ofNat 32 (fieldAt p 2 4) ∧ g.hasRight .configure = true := by
  rw [State.configureAuthority_provisioned h, Option.bind_eq_some_iff]
  constructor
  · rintro ⟨⟨j, g⟩, ha, hr⟩
    simp only [Option.ite_none_right_eq_some, Option.some.injEq] at hr
    obtain ⟨hr, rfl⟩ := hr
    obtain ⟨slot, tally, openedAt, hs, ht⟩ := State.actingGrant_eq_some.1 ha
    exact ⟨slot, g, tally, openedAt, hs, ht, hr⟩
  · rintro ⟨slot, g, tally, openedAt, hs, ht, hr⟩
    exact ⟨(i, g), State.actingGrant_eq_some.2 ⟨slot, tally, openedAt, hs, ht⟩, by simp [hr]⟩

theorem State.configureAuthority_ne_waived (h : s.store.held.provisionedMark = some true) :
    s.configureAuthority p ≠ some none := by
  rw [State.configureAuthority_provisioned h, ne_eq, Option.bind_eq_some_iff]
  rintro ⟨x, -, hx⟩
  split at hx <;> exact nomatch hx

/-! ## A staging command (R33, R37, R142) -/

/-- The answers of a staging command, in the order of its refusals, and the staged copy it makes. -/
theorem stage_answers {i : Instr} {code : Byte} {size : Nat} {checks : List Byte → List (Nat × Bool)}
    {write : List Byte → Staged → Staged} {ranges : List (Nat × Prop)} {takes : Staged → Prop}
    (run : exec i s = .next (s.runCommand code size fun p s => s.stage p (checks p) (write p)))
    (examined : Examines (checks p) ranges) (taken : (∀ x ∈ ranges, x.2) → takes (write p s.table.staged))
    (hm : s.Message code p) (hl : p.length = size) :
    (s.configureAuthority p = none → exec i s = .next (s.completeCommand { status := .denied, payload := [] })) ∧
      (s.configureAuthority p ≠ none → s.table.apply ≠ .idle →
        exec i s = .next (s.completeCommand { status := .busy, payload := [] })) ∧
      (∀ (before after : List (Nat × Prop)) (offset : Nat) (inRange : Prop), s.configureAuthority p ≠ none →
        s.table.apply = .idle → ranges = before ++ (offset, inRange) :: after → (∀ x ∈ before, x.2) → ¬ inRange →
        exec i s = .next (s.completeCommand { status := .invalid, payload := [BitVec.ofNat 8 offset] })) ∧
      (s.configureAuthority p ≠ none → s.table.apply = .idle → (∀ x ∈ ranges, x.2) →
        ∃ u : Staged, takes u ∧
          exec i s =
            .next (State.completeCommand { status := .ok, payload := [] }
              { s with table := { s.table with staged := u } })) := by
  rw [run, State.runCommand_of_message _ hm hl, State.stage]
  refine ⟨fun ha => by rw [ha]; rfl, fun ha busy => ?_, fun before after offset inRange ha idle e holds bad => ?_,
    fun ha idle holds => ⟨_, taken holds, ?_⟩⟩
  all_goals obtain ⟨slot, ha⟩ := Option.ne_none_iff_exists'.1 ha
  · simp only [ha, if_pos busy]
    rfl
  · subst e
    simp only [ha, idle, examined.firstBad_eq_some holds bad, ne_eq, not_true_eq_false, if_false]
    rfl
  · simp only [ha, idle, examined.firstBad_eq_none.2 holds, ne_eq, not_true_eq_false, if_false]
    rfl

end

/-- Settles O33: each staging command examines its ranges in order, and stages what its payload holds. -/
theorem stagingCommands : Obligations.StagingCommands := by
  unfold Obligations.StagingCommands
  intro p s authority st timing windowRanges cellRanges settingsRanges hasTerms takesWindow takesCell takesSettings rows
  refine ⟨State.configureAuthority_waived, fun h => ⟨State.configureAuthority_ne_waived h,
    fun i => State.configureAuthority_iff h⟩, fun row hrow hm hl => ?_⟩
  simp only [rows, List.mem_cons, List.not_mem_nil, or_false] at hrow
  rcases hrow with rfl | rfl | rfl | rfl
  · exact stage_answers rfl (stageWindowChecks_examines p) (stageWindowWrite_takes · st) hm hl
  · exact stage_answers rfl (stageCellChecks_examines p) (stageCellWrite_takes · st) hm hl
  · exact stage_answers rfl (checkSettings_examines p) (readSettings_takes · st) hm hl
  · exact stage_answers (checks := fun _ => []) (write := fun _ _ => .empty) rfl .nil (fun _ => rfl) hm hl

/-- Settles O34: the branches of the command, in their order. -/
theorem applyStagedCommand : Obligations.ApplyStagedCommand := by
  unfold Obligations.ApplyStagedCommand
  intro p s hm hl
  have run : exec .applyStaged s = .next (State.finish (s.applyStaged p)) :=
    congrArg Host.Outcome.next (State.runCommand_of_message State.applyStaged hm hl)
  rw [run, State.applyStaged]
  refine ⟨fun ha => by rw [ha]; rfl, fun slot ha => ?_⟩
  simp only [ha]
  refine ⟨fun busy => by rw [if_pos busy]; rfl, fun idle empty => ?_, fun n f idle staged fails => ?_,
    fun idle staged passes => ?_⟩
  · rw [if_neg (not_not_intro idle), if_pos empty]
    rfl
  · rw [if_neg (not_not_intro idle), if_neg staged]
    simp only [fails]
    rcases f with (k | _) | k <;> rfl
  · rw [if_neg (not_not_intro idle), if_neg staged]
    simp only [passes]
    rfl

end Sys2Proof.Machine
end

section
namespace Sys2Proof.Machine

/-! ## What leaves the tables alone and keeps the law of the cells -/

/-- The live and staged tables and the cell definitions are as they were, with the store and the counts of seconds and
periods still in range. -/
structure State.SameTables (s t : State) : Prop where
  table : t.table = s.table
  defn : ∀ n, (t.cell n).defn = (s.cell n).defn
  decay : t.decision.decayCount = s.decision.decayCount
  clock : s.time.periodCount ≤ 32767 → t.time.periodCount ≤ 32767
  store : s.store.InRange → t.store.InRange

/-- The tables are as they were, and the cells meet their law if they did. -/
structure State.KeepsLaws (s t : State) : Prop extends s.SameTables t where
  cells : s.CellLaw → t.CellLaw

section
variable {s t u : State} {n : Fin 8}

theorem State.SameTables.refl (s : State) : s.SameTables s := ⟨rfl, fun _ => rfl, rfl, id, id⟩

theorem State.SameTables.trans (h : s.SameTables t) (k : t.SameTables u) : s.SameTables u where
  table := k.table.trans h.table
  defn n := (k.defn n).trans (h.defn n)
  decay := k.decay.trans h.decay
  clock := k.clock ∘ h.clock
  store := k.store ∘ h.store

theorem State.KeepsLaws.refl (s : State) : s.KeepsLaws s := ⟨.refl s, id⟩

theorem State.KeepsLaws.trans (h : s.KeepsLaws t) (k : t.KeepsLaws u) : s.KeepsLaws u :=
  ⟨h.toSameTables.trans k.toSameTables, k.cells ∘ h.cells⟩

/-- An operation that leaves the tables, the cells and the counts, and queues items in range at most. -/
theorem State.KeepsLaws.of_blocks (table : t.table = s.table) (guard : t.guard.cells = s.guard.cells)
    (decay : t.decision.decayCount = s.decision.decayCount)
    (clock : s.time.periodCount ≤ 32767 → t.time.periodCount ≤ 32767) (store : s.store.InRange → t.store.InRange) :
    s.KeepsLaws t where
  table := table
  defn n := by rw [State.cell_congr guard]
  decay := decay
  clock := clock
  store := store
  cells h n := by
    rw [State.cell_congr guard]
    exact h n

theorem State.KeepsLaws.ite {c : Prop} [Decidable c] (h : s.KeepsLaws t) : s.KeepsLaws (if c then t else s) := by
  split
  · exact h
  · exact .refl s

/-- A walk over the cells keeps the laws where each of its steps does. -/
theorem State.keepsLaws_forCells {f : Fin 8 → State → State} (h : ∀ n (s : State), s.KeepsLaws (f n s)) (s : State) :
    s.KeepsLaws (forCells f s) :=
  forCells_induct (s.KeepsLaws ·) f (fun n t k => k.trans (h n t)) s (.refl s)

theorem State.keepsLaws_forSlots {f : Fin 4 → State → State} (h : ∀ i (s : State), s.KeepsLaws (f i s)) (s : State) :
    s.KeepsLaws (forSlots f s) :=
  forSlots_induct (s.KeepsLaws ·) f (fun i t k => k.trans (h i t)) s (.refl s)

/-! ## Records, reports, grants, score and lockdown -/

theorem State.keepsLaws_queueItem {w : ItemWrite} (hw : w.inRange = true) (s : State) : s.KeepsLaws (s.queueItem w) :=
  .of_blocks rfl rfl rfl id fun h => h.queueItem hw

theorem State.keepsLaws_takeRecord (r : Report) (s : State) : s.KeepsLaws (s.takeRecord r) := by
  refine .of_blocks (by simp) (by simp) (by simp) (by simp) fun h => ?_
  rw [State.takeRecord_store]
  split
  · exact h.queueItem rfl
  · exact h

theorem State.keepsLaws_alertCause (s : State) : s.KeepsLaws s.alertCause := .of_blocks rfl rfl rfl id id

theorem State.keepsLaws_resetRequestCause (s : State) : s.KeepsLaws s.resetRequestCause := .of_blocks rfl rfl rfl id id

theorem State.keepsLaws_setSlot (i : Fin 4) (x : Slot) (s : State) : s.KeepsLaws (s.setSlot i x) :=
  .of_blocks rfl rfl rfl id id

theorem State.keepsLaws_reportFreed (i : Fin 4) (s : State) : s.KeepsLaws ((s.forgetCharge i).reportSlot i) :=
  .of_blocks rfl rfl rfl id id

theorem State.keepsLaws_freeSlot (i : Fin 4) (s : State) : s.KeepsLaws (s.freeSlot i) := .of_blocks rfl rfl rfl id id

theorem State.keepsLaws_closeSlot (i : Fin 4) (reason : Reason) (s : State) : s.KeepsLaws (s.closeSlot i reason) := by
  unfold State.closeSlot
  split
  · exact ((keepsLaws_setSlot ..).trans (keepsLaws_takeRecord ..)).trans (keepsLaws_reportFreed ..)
  · exact .refl s

theorem State.keepsLaws_endSlot (i : Fin 4) (reason : Reason) (s : State) : s.KeepsLaws (s.endSlot i reason) := by
  unfold State.endSlot
  split
  · exact .refl s
  · exact keepsLaws_freeSlot ..
  · exact keepsLaws_closeSlot ..

theorem State.keepsLaws_charge (i : Fin 4) (s : State) : s.KeepsLaws (s.charge i) := by
  unfold State.charge
  split
  · simp only []
    split
    · exact (keepsLaws_setSlot ..).trans (keepsLaws_closeSlot ..)
    · exact keepsLaws_setSlot ..
  · exact .refl s

theorem State.keepsLaws_chargeOpt (c : Option (Fin 4)) (s : State) : s.KeepsLaws (s.chargeOpt c) := by
  unfold State.chargeOpt
  split
  · exact .refl s
  · exact keepsLaws_charge ..

theorem State.keepsLaws_lockdownSlot (i : Fin 4) (s : State) : s.KeepsLaws (s.lockdownSlot i) := by
  unfold State.lockdownSlot
  split
  · exact keepsLaws_endSlot ..
  · exact .refl s

theorem State.keepsLaws_enterLockdown (cause : Reason) (s : State) : s.KeepsLaws (s.enterLockdown cause) := by
  have marked : s.KeepsLaws (State.queueItem (.lockdownMark true)
      (State.reportLockdown { s with decision := { s.decision with lockdown := true } })) :=
    .of_blocks rfl rfl rfl id fun h => h.queueItem rfl
  have freed := marked.trans (keepsLaws_forSlots keepsLaws_lockdownSlot _)
  exact ((freed.trans (keepsLaws_takeRecord ..)).trans (keepsLaws_alertCause _)).trans (keepsLaws_resetRequestCause _)

theorem State.keepsLaws_lockdownCheck (cause : Reason) (s : State) : s.KeepsLaws (s.lockdownCheck cause) :=
  (keepsLaws_enterLockdown cause s).ite

theorem State.keepsLaws_scoreIncrement (n : Nat) (cause : Reason) (s : State) :
    s.KeepsLaws (s.scoreIncrement n cause) := by
  have raised (x old : Nat) : s.KeepsLaws
      (State.alertCheck old (State.reportScore { s with decision := { s.decision with score := x } })) :=
    .of_blocks (by simp) (by simp) (by simp) (by simp) (by simp)
  exact (raised _ _).trans (keepsLaws_lockdownCheck cause _)

/-- The record, the increment and the alert cause of a refusal or a regression. -/
theorem State.keepsLaws_violation (r : Report) (k : Nat) (cause : Reason) (s : State) :
    s.KeepsLaws (((s.takeRecord r).scoreIncrement k cause).alertCause) :=
  ((keepsLaws_takeRecord r s).trans (keepsLaws_scoreIncrement k cause _)).trans (keepsLaws_alertCause _)

/-! ## One cell -/

/-- A cell takes a state that keeps its definition and its law. -/
theorem State.keepsLaws_setCell {c : Cell} (hd : c.defn = (s.cell n).defn)
    (hl : s.CellLaw → c.lawful = true) : s.KeepsLaws (s.setCell n c) where
  table := rfl
  defn m := by
    rw [State.cell_setCell]
    split
    · rename_i e
      rw [hd, e]
    · rfl
  decay := rfl
  clock := id
  store := id
  cells h m := by
    rw [State.cell_setCell]
    split
    · exact hl h
    · exact h m

theorem State.keepsLaws_modifyLive {f : LiveState → LiveState} (hf : s.CellLaw → ∀ d v,
    (s.cell n).defn = some d → (s.cell n).live = some v → (s.cell n).LiveFits d v → (s.cell n).LiveFits d (f v)) :
    s.KeepsLaws (s.modifyLive n f) :=
  keepsLaws_setCell rfl fun h => Cell.lawful_map (h n) (hf h)

/-- An operation that writes no value. -/
theorem State.keepsLaws_setOp {op : Option Operation} (ho : ∀ o x isSet, op ≠ some (.evaluation o x isSet)) (n : Fin 8)
    (s : State) : s.KeepsLaws (s.setOp n op) :=
  keepsLaws_setCell rfl fun h => Cell.lawful_setOp (h n) fun o x isSet e => absurd e (ho o x isSet)

theorem State.keepsLaws_enqueueInternal (r : Request) (s : State) : s.KeepsLaws (s.enqueueInternal r) :=
  .of_blocks rfl rfl rfl id id

theorem State.keepsLaws_enqueueProcessor (r : Request) (s : State) : s.KeepsLaws (s.enqueueProcessor r) :=
  .of_blocks rfl rfl rfl id id

theorem State.keepsLaws_startInternal {op : Operation} (ho : ∀ o x isSet, op ≠ .evaluation o x isSet) (n : Fin 8)
    (d : CellDef) (dir : Direction) (v : Nat) (s : State) : s.KeepsLaws (s.startInternal n d dir v op) :=
  (keepsLaws_setOp (fun o x isSet e => ho o x isSet (Option.some.inj e)) n s).trans (keepsLaws_enqueueInternal ..)

theorem State.keepsLaws_startNewRead (n : Fin 8) (s : State) : s.KeepsLaws (s.startNewRead n) := by
  unfold State.startNewRead
  split
  · exact .refl s
  · split
    · exact keepsLaws_setOp (by simp) n s
    · exact keepsLaws_startInternal (by simp) ..

theorem State.keepsLaws_releaseRead (w : ReadWait) (n : Fin 8) (s : State) : s.KeepsLaws (s.releaseRead w n) := by
  rcases s.releaseRead_cases w n with ⟨d, -, -, e⟩ | e <;> rw [e]
  · exact keepsLaws_startInternal (by simp) ..
  · exact .refl s

theorem State.keepsLaws_releaseAll (w : ReadWait) (s : State) : s.KeepsLaws (forCells (State.releaseRead w) s) :=
  keepsLaws_forCells (keepsLaws_releaseRead w) s

theorem State.keepsLaws_keepRead (n : Fin 8) (s : State) : s.KeepsLaws (s.keepRead n) := by
  unfold State.keepRead
  split
  · exact keepsLaws_setOp (by simp) n s
  · exact .refl s

theorem State.keepsLaws_completeCycle (data : Option Word) (s : State) : s.KeepsLaws (s.completeCycle data) := by
  have completed : s.KeepsLaws (s.completed data) := .of_blocks rfl rfl rfl id id
  rw [State.completeCycle_eq]
  exact completed.trans (keepsLaws_releaseAll _ _)

theorem State.keepsLaws_completeIfActive (data : Option Word) (s : State) : s.KeepsLaws (s.completeIfActive data) := by
  unfold State.completeIfActive
  exact (keepsLaws_completeCycle data s).ite

/-! ## Evaluations (R76 to R80) -/

/-- The tables are as they were, and under a condition the law of the cells is kept. -/
structure State.KeepsIf (P : Prop) (s t : State) : Prop extends s.SameTables t where
  cells : P → s.CellLaw → t.CellLaw

theorem State.KeepsLaws.when (h : s.KeepsLaws t) (P : Prop) : State.KeepsIf P s t := ⟨h.toSameTables, fun _ => h.cells⟩

theorem State.KeepsIf.keepsLaws (h : State.KeepsIf s.CellLaw s t) : s.KeepsLaws t :=
  ⟨h.toSameTables, fun law => h.cells law law⟩

theorem State.KeepsLaws.trans_if {P : Prop} (h : s.KeepsLaws t) (k : State.KeepsIf P t u) : State.KeepsIf P s u :=
  ⟨h.toSameTables.trans k.toSameTables, fun p => k.cells p ∘ h.cells⟩

section
variable {P : Prop} {d : CellDef} {p : Nat} {v : LiveState}

/-- R77, R80: the write of a value that the cell can hold and, but for a set, at or above its shadow. -/
theorem State.keepsIf_startWrite {isSet : Bool} (hd : (s.cell n).defn = some d)
    (hv : (s.cell n).live.map LiveState.shadow = some v.shadow)
    (hx : P → p < 2 ^ d.width.bits ∧ (isSet = true ∨ v.shadow ≤ p)) (o : Origin) :
    State.KeepsIf P s (s.startWrite n d o p isSet) := by
  have cell := State.cell_startWrite n (d := d) (o := o) (v := p) (isSet := isSet) (s := s)
  have guard : (s.startWrite n d o p isSet).table = s.table ∧ (s.startWrite n d o p isSet).decision = s.decision ∧
      (s.startWrite n d o p isSet).time = s.time ∧ (s.startWrite n d o p isSet).store = s.store := by
    cases o <;> exact ⟨rfl, rfl, rfl, rfl⟩
  obtain ⟨table, decision, time, store⟩ := guard
  refine ⟨⟨table, fun m => ?_, by rw [decision], by rw [time]; exact id, by rw [store]; exact id⟩, fun hP law m => ?_⟩
  · rw [cell]
    split
    · rename_i e
      rw [e]
    · rfl
  · rw [cell]
    split
    · refine Cell.lawful_setOp (law n) ?_
      rintro o' x' isSet' ⟨⟩ - d' v' hd' hv'
      obtain rfl : d = d' := Option.some.inj (hd.symm.trans hd')
      rw [hv', Option.map_some, Option.some.injEq] at hv
      exact hv ▸ hx hP
    · exact law m

/-- R77: the credit that a rise spends. -/
theorem State.keepsLaws_spend (k : Nat) (n : Fin 8) (s : State) :
    s.KeepsLaws (s.modifyLive n fun x => { x with credit := x.credit - k }) :=
  keepsLaws_modifyLive fun _ _ _ _ _ h => { h with credit := CellMode.creditFits_of_le h.credit (Nat.sub_le ..) }

/-- What an evaluation has still to judge: the cell's definition and shadow are those it began with. -/
structure State.Judging (n : Fin 8) (d : CellDef) (v : LiveState) (s : State) : Prop where
  defn : (s.cell n).defn = some d
  shadow : (s.cell n).live.map LiveState.shadow = some v.shadow

theorem State.Judging.of_cell (h : State.Judging n d v s) (e : t.cell n = s.cell n) : State.Judging n d v t :=
  ⟨e ▸ h.defn, e ▸ h.shadow⟩

theorem State.Judging.modifyLive (h : State.Judging n d v s) {f : LiveState → LiveState}
    (hf : ∀ x, (f x).shadow = x.shadow) : State.Judging n d v (s.modifyLive n f) := by
  refine ⟨by rw [State.cell_modifyLive_self]; exact h.defn, ?_⟩
  rw [State.cell_modifyLive_self, Option.map_map, ← h.shadow]
  exact congrArg (Option.map · _) (funext hf)

/-- A record leaves the cells as they are. -/
theorem State.cell_takeRecord (r : Report) (m : Fin 8) (s : State) : (s.takeRecord r).cell m = s.cell m :=
  State.cell_congr (by simp) m

theorem State.cell_alertCause (m : Fin 8) (s : State) : s.alertCause.cell m = s.cell m := rfl

theorem State.cell_chargeOpt (c : Option (Fin 4)) (m : Fin 8) (s : State) : (s.chargeOpt c).cell m = s.cell m :=
  State.cell_congr (by simp) m

/-- R76, R77: the judgment of a value that the cell can hold. -/
theorem State.keepsIf_judgeByMode (h : State.Judging n d v s) (hp : P → p < 2 ^ d.width.bits) (o : Origin) :
    State.KeepsIf P s (s.judgeByMode n d o p v) := by
  have spent (k : Nat) : State.Judging n d v (s.modifyLive n fun x => { x with credit := x.credit - k }) :=
    h.modifyLive fun _ => rfl
  unfold State.judgeByMode
  split
  · exact (State.KeepsLaws.refl s).when P
  · split
    · exact (keepsLaws_violation ..).when P
    · rename_i hne hlt
      have above : v.shadow ≤ p := Nat.le_of_not_lt hlt
      split
      · exact keepsIf_startWrite h.defn h.shadow (fun q => ⟨hp q, .inr above⟩) o
      · unfold State.rateRise
        split
        · exact (keepsLaws_spend _ n s).trans_if
            (keepsIf_startWrite (spent _).defn (spent _).shadow (fun q => ⟨hp q, .inr above⟩) o)
        · have clamped := ((keepsLaws_spend (v.credit / 65536 * 65536) n s).trans (keepsLaws_takeRecord
            (cellReport .counterClamped n none d.address p (some (v.shadow + v.credit / 65536))) _)).trans
            (keepsLaws_alertCause _)
          have judged := ((spent (v.credit / 65536 * 65536)).of_cell (State.cell_takeRecord
            (cellReport .counterClamped n none d.address p (some (v.shadow + v.credit / 65536))) n _)).of_cell
            (State.cell_alertCause n _)
          unfold State.clampRise
          simp only []
          split
          · refine clamped.trans_if (keepsIf_startWrite (p := v.shadow + v.credit / 65536)
              judged.defn judged.shadow (fun q => ?_) o)
            have := hp q
            exact ⟨by omega, .inr (by omega)⟩
          · exact clamped.when P

/-- R76: an evaluation of a value that the cell can hold. -/
theorem State.keepsLaws_evaluate (hp : s.CellLaw → ∀ d, (s.cell n).defn = some d → p < 2 ^ d.width.bits) (o : Origin) :
    s.KeepsLaws (s.evaluate n o p) := by
  unfold State.evaluate
  split
  · rename_i d v hd hv
    have whole : s.KeepsLaws (s.modifyLive n fun x => { x with half := none }) :=
      keepsLaws_modifyLive fun _ _ _ _ _ h => { h with half := rfl }
    have judging : State.Judging n d v (s.modifyLive n fun x => { x with half := none }) :=
      State.Judging.modifyLive ⟨hd, by rw [hv]; rfl⟩ fun _ => rfl
    refine State.KeepsIf.keepsLaws ?_
    simp only []
    split
    · have judged := (judging.of_cell (State.cell_chargeOpt (s.setCharge d o) n _)).of_cell (State.cell_takeRecord
        (cellReport .counterSet n ((s.setCharge d o).map .charged) d.address p (some v.shadow)) n _)
      exact ((whole.trans (keepsLaws_chargeOpt ..)).trans (keepsLaws_takeRecord ..)).trans_if
        (keepsIf_startWrite judged.defn judged.shadow (fun law => ⟨hp law d hd, .inl rfl⟩) o)
    · exact whole.trans_if (keepsIf_judgeByMode judging (fun law => hp law d hd) o)
  · exact .refl s

end

/-- A value of a LOW half and a HIGH half is one of 32 bits. -/
theorem joinHalf_lt (h : Half) (x y : Word) : joinHalf h x y < 2 ^ 32 := by
  have hx : x.toNat < 65536 := x.isLt
  have hy : y.toNat < 65536 := y.isLt
  cases h <;> simp only [joinHalf, joinHalves] <;> omega

theorem State.keepsLaws_evaluatePending (n : Fin 8) (o : Origin) (s : State) : s.KeepsLaws (s.evaluatePending n o) := by
  unfold State.evaluatePending
  split
  · exact .refl s
  · rename_i v hv
    split
    · exact .refl s
    · rename_i p hp
      refine keepsLaws_evaluate (fun law d hd => ?_) o
      have fits := ((Cell.lawful_live hd hv).1 (law n)).half
      rw [hp, CellDef.halfFits, Bool.and_eq_true, beq_iff_eq] at fits
      rw [fits.1]
      exact joinHalf_lt ..

/-! ## The write of the cycle in progress (R81 to R84) -/

theorem State.keepsLaws_finishWrite (n : Fin 8) (s : State) : s.KeepsLaws (s.finishWrite n) := by
  unfold State.finishWrite
  split
  · exact .refl s
  · exact keepsLaws_completeCycle ..

/-- R84: a pending half of a 32-bit cell. -/
theorem State.keepsLaws_setPending {d : CellDef} (hd : (s.cell n).defn = some d) (hw : d.width = .w32) (h : Half)
    (x : Word) : s.KeepsLaws (s.setPending n h x) := by
  have taken : s.KeepsLaws (s.modifyLive n fun v => { v with half := some { half := h, value := x, age := 0 } }) := by
    refine keepsLaws_modifyLive fun _ e v hd' _ fits => { fits with half := ?_ }
    obtain rfl : d = e := Option.some.inj (hd.symm.trans hd')
    simp [CellDef.halfFits, hw]
  exact taken.trans (keepsLaws_completeCycle ..)

theorem State.keepsLaws_takeHalf {d : CellDef} (hd : (s.cell n).defn = some d) (hw : d.width = .w32) (h : Half)
    (x : Word) (v : LiveState) : s.KeepsLaws (s.takeHalf n h x v) := by
  unfold State.takeHalf
  split
  · exact keepsLaws_setPending hd hw ..
  · split
    · exact keepsLaws_setPending hd hw ..
    · refine (keepsLaws_evaluate (fun _ e hd' => ?_) _).trans (keepsLaws_finishWrite ..)
      obtain rfl : d = e := Option.some.inj (hd.symm.trans hd')
      rw [hw]
      exact joinHalf_lt ..

theorem State.keepsLaws_takeWrite (n : Fin 8) (s : State) : s.KeepsLaws (s.takeWrite n) := by
  unfold State.takeWrite
  split
  · exact .refl s
  · rename_i c _
    split
    · rename_i d v hd hv
      split
      · rename_i hw
        refine (keepsLaws_evaluate (fun _ e hd' => ?_) _).trans (keepsLaws_finishWrite ..)
        obtain rfl : d = e := Option.some.inj (hd.symm.trans hd')
        rw [hw]
        exact c.data.isLt
      · rename_i hw
        exact keepsLaws_takeHalf hd hw ..
    · exact keepsLaws_completeCycle ..

theorem State.keepsLaws_counterWrite (n : Fin 8) (c : Cycle) (s : State) : s.KeepsLaws (s.counterWrite n c) := by
  unfold State.counterWrite
  split
  · exact (keepsLaws_violation ..).trans (keepsLaws_completeCycle ..)
  · split
    · exact .of_blocks rfl rfl rfl id id
    · exact keepsLaws_takeWrite ..

theorem State.keepsLaws_counterRead (n : Fin 8) (c : Cycle) (w : MatchedWindow) (s : State) :
    s.KeepsLaws (s.counterRead n c w) := by
  unfold State.counterRead
  split
  · exact keepsLaws_completeCycle ..
  · exact keepsLaws_enqueueProcessor ..

/-! ## The ends of operations (R80, R82, R88 to R91, R95, R98, R101) -/

/-- R91: the floor takes the shadow. -/
theorem State.keepsLaws_settleFloor (n : Fin 8) (s : State) : s.KeepsLaws (s.settleFloor n) := by
  have settled : s.KeepsLaws (s.modifyLive n fun x => { x with floor := x.shadow, due := false }) :=
    keepsLaws_modifyLive fun _ _ _ _ _ h => { h with floor := le_rfl }
  unfold State.settleFloor
  split
  · exact .refl s
  · simp only []
    split
    · exact settled
    · exact settled.trans (keepsLaws_queueItem rfl _)

theorem State.keepsLaws_settle (n : Fin 8) (s : State) : s.KeepsLaws (s.settle n) := by
  have evaluated := keepsLaws_evaluatePending n .ignition s
  unfold State.settle
  split
  · exact .refl s
  · split
    · simp only []
      split
      · exact evaluated
      · exact evaluated.trans (keepsLaws_settleFloor ..)
    · exact .refl s

theorem State.keepsLaws_clearWaiting (s : State) :
    s.KeepsLaws { s with guard := { s.guard with waitingWrite := none } } := .of_blocks rfl rfl rfl id id

theorem State.keepsLaws_takeWaiting (n : Fin 8) (s : State) : s.KeepsLaws (s.takeWaiting n) := by
  unfold State.takeWaiting
  split
  · exact (keepsLaws_clearWaiting s).trans (keepsLaws_takeWrite ..)
  · exact .refl s

theorem State.keepsLaws_afterOp (n : Fin 8) (s : State) : s.KeepsLaws (s.afterOp n) :=
  (keepsLaws_takeWaiting n s).trans (keepsLaws_settle ..)

/-- R95, R98: a cell begins LIVE with a shadow and a floor of its width. -/
theorem State.keepsLaws_becomeLive {d : CellDef} (hd : (s.cell n).defn = some d) {x y : Nat} (repair : Bool)
    (hx : s.CellLaw → x < 2 ^ d.width.bits) (hy : y ≤ x) : s.KeepsLaws (s.becomeLive n (.begin x y repair)) :=
  keepsLaws_setCell rfl fun law => (Cell.lawful_live
    (c := { s.cell n with live := some (.begin x y repair), loadedFloor := none, op := none }) hd rfl).2
    ⟨hx law, hy, CellMode.creditFits_zero _, rfl, (fun _ _ _ e => nomatch e), rfl⟩

/-- R95: what a cell's words read is a value of its width. -/
theorem readValue_lt (d : CellDef) (r : TransferResult) : readValue d r < 2 ^ d.width.bits := by
  have h0 : r.word0.toNat < 65536 := r.word0.isLt
  have h1 : r.word1.toNat < 65536 := r.word1.isLt
  cases h : d.width <;> simp only [readValue, h, CellWidth.bits] <;> omega

/-- R94: the floor that a cell has loaded, 0 where it has none, is a value of its width. -/
theorem Cell.loadedFloor_lt {c : Cell} {d : CellDef} (h : c.lawful = true) (hd : c.defn = some d) :
    c.loadedFloor.getD 0 < 2 ^ d.width.bits := by
  have none_lt (e : c.loadedFloor = none) : c.loadedFloor.getD 0 < 2 ^ d.width.bits := by
    rw [e]
    exact Nat.two_pow_pos _
  rcases Option.eq_none_or_eq_some c.live with hv | ⟨v, hv⟩
  · rcases Option.eq_none_or_eq_some c.loadedFloor with hf | ⟨f, hf⟩
    · exact none_lt hf
    · rw [hf]
      exact (Cell.lawful_reading hd hv).1 h f hf
  · exact none_lt ((Cell.lawful_live hd hv).1 h).loaded

theorem State.keepsLaws_scanReadEnd {d : CellDef} (hd : (s.cell n).defn = some d) (r : TransferResult) :
    s.KeepsLaws (s.scanReadEnd n d r) := by
  have floored (repair : Bool) := keepsLaws_becomeLive hd (x := (s.cell n).loadedFloor.getD 0) repair
    (fun law => Cell.loadedFloor_lt (law n) hd) le_rfl
  unfold State.scanReadEnd
  simp only []
  split
  · exact floored true
  · split
    · rename_i hle
      exact keepsLaws_becomeLive hd false (fun _ => readValue_lt d r) hle
    · exact ((floored false).trans (keepsLaws_violation ..)).trans (keepsLaws_startInternal (by simp) ..)

theorem State.keepsLaws_newReadEnd {d : CellDef} (hd : (s.cell n).defn = some d) (r : TransferResult) :
    s.KeepsLaws (s.newReadEnd n d r) := by
  unfold State.newReadEnd
  split
  · exact keepsLaws_setOp (by simp) n s
  · exact (keepsLaws_becomeLive hd false (fun _ => readValue_lt d r) le_rfl).trans (keepsLaws_queueItem rfl _)

/-- A change of the repair mark. -/
theorem State.keepsLaws_setRepair (b : Bool) (n : Fin 8) (s : State) :
    s.KeepsLaws (s.modifyLive n fun x => { x with repair := b }) :=
  keepsLaws_modifyLive fun _ _ _ _ _ h => { h with }

/-- R80: the value of an evaluation of the live definition becomes the shadow. -/
theorem State.keepsLaws_written {o : Origin} {x : Nat} {isSet : Bool}
    (ho : (s.cell n).op = some (.evaluation o x isSet)) (hs : (s.cell n).stale = false) :
    s.KeepsLaws ((s.setOp n none).modifyLive n fun v =>
      { v with shadow := x, repair := false, floor := if isSet then x else v.floor }) := by
  unfold State.modifyLive
  rw [State.cell_setOp_self, State.setOp, State.setCell_setCell]
  refine keepsLaws_setCell rfl fun law => ?_
  refine Cell.lawful_setOp (op := none) (Cell.lawful_map (law n) fun d v hd hv h => ?_) fun _ _ _ e => nomatch e
  obtain ⟨hx, above⟩ := h.write o x isSet ho hs
  refine { h with shadow := hx, floor := ?_, write := ?_ }
  · cases isSet with
    | true => exact le_rfl
    | false => exact h.floor.trans (above.resolve_left (by simp))
  · rintro o' x' isSet' e -
    cases ho.symm.trans e
    exact ⟨hx, .inr le_rfl⟩

theorem State.keepsLaws_evaluationEnd {o : Origin} {x : Nat} {isSet : Bool}
    (ho : (s.cell n).op = some (.evaluation o x isSet)) (hs : (s.cell n).stale = false) (r : TransferResult) :
    s.KeepsLaws (s.evaluationEnd n x isSet r) := by
  have ended := keepsLaws_setOp (op := none) (by simp) n s
  unfold State.evaluationEnd
  simp only []
  split
  · exact ended
  · split
    · exact ended.trans (keepsLaws_setRepair ..)
    · have written := keepsLaws_written ho hs
      cases isSet with
      | true => exact written.trans (keepsLaws_queueItem rfl _)
      | false => exact written

theorem State.keepsLaws_restoreEnd (n : Fin 8) (r : TransferResult) (s : State) : s.KeepsLaws (s.restoreEnd n r) := by
  have ended := keepsLaws_setOp (op := none) (by simp) n s
  unfold State.restoreEnd
  simp only []
  split
  · exact ended.trans (keepsLaws_setRepair ..)
  · exact ended

theorem State.keepsLaws_correctionEnd (n : Fin 8) (r : TransferResult) (s : State) :
    s.KeepsLaws (s.correctionEnd n r) := by
  have ended := keepsLaws_setOp (op := none) (by simp) n s
  unfold State.correctionEnd
  simp only []
  split
  · exact ended.trans (keepsLaws_setRepair ..)
  · exact ended

theorem Cell.lawful_of_live {c e : Cell} (h : c.lawful = true) (defn : e.defn = c.defn) (live : e.live = c.live)
    (floor : e.loadedFloor = c.loadedFloor) (ho : e.op = none) : e.lawful = true := by
  have same : e = { { c with op := none } with stale := e.stale } := by
    cases e
    simp_all
  have noWrite : ({ c with op := none } : Cell).lawful = true := Cell.lawful_setOp h fun _ _ _ k => nomatch k
  rw [same]
  exact noWrite

theorem State.keepsLaws_staleEnd (n : Fin 8) (s : State) : s.KeepsLaws (s.staleEnd n) := by
  have cleared : s.KeepsLaws (s.clearOp n) :=
    keepsLaws_setCell rfl fun law => Cell.lawful_of_live (law n) rfl rfl rfl rfl
  have taken := cleared.trans (keepsLaws_takeWaiting n _)
  rw [State.staleEnd_eq]
  split
  · exact taken.trans (keepsLaws_startNewRead ..)
  · exact taken

/-- The end of a cell's transfer reaches the counter guard. -/
theorem State.keepsLaws_opEnd (n : Fin 8) (r : TransferResult) (s : State) : s.KeepsLaws (s.opEnd n r) := by
  unfold State.opEnd
  split
  · exact keepsLaws_staleEnd ..
  · rename_i hs
    rw [Bool.not_eq_true] at hs
    split
    · rename_i hd _
      exact (keepsLaws_scanReadEnd hd r).trans (keepsLaws_afterOp ..)
    · rename_i hd _
      exact (keepsLaws_newReadEnd hd r).trans (keepsLaws_afterOp ..)
    · exact (keepsLaws_correctionEnd ..).trans (keepsLaws_afterOp ..)
    · exact (keepsLaws_restoreEnd ..).trans (keepsLaws_afterOp ..)
    · rename_i ho
      exact (keepsLaws_evaluationEnd ho hs r).trans (keepsLaws_afterOp ..)
    · exact .refl s

end
end Sys2Proof.Machine
end

section
namespace Sys2Proof.Machine

section
variable {s t u : State} {n : Fin 8}

/-! ## Ticks, ignition-off and the tearing of halves (R74, R75, R90, R92) -/

/-- R74: accrual keeps the credit within its mode's range. -/
theorem CellMode.creditFits_accrue {m : CellMode} {x : Nat} (h : m.creditFits x = true) :
    m.creditFits (m.accrue x) = true := by
  cases m with
  | monotonic => exact h
  | rate r cap => simp [CellMode.creditFits, CellMode.accrue]

theorem State.keepsLaws_accrueCell (n : Fin 8) (s : State) : s.KeepsLaws (s.accrueCell n) := by
  unfold State.accrueCell
  split
  · exact .refl s
  · rename_i d hd
    refine State.KeepsLaws.ite (keepsLaws_modifyLive fun _ e v hd' _ h => { h with credit := ?_ })
    obtain rfl : d = e := Option.some.inj (hd.symm.trans hd')
    exact CellMode.creditFits_accrue h.credit

/-- R75: a pending half of any age fits a cell that holds it, once it has aged. -/
theorem CellDef.halfFits_older {d : CellDef} {h : Option PendingHalf} (fits : d.halfFits h = true) :
    d.halfFits (h.map PendingHalf.older) = true := by
  cases h with
  | none => rfl
  | some p =>
    simp only [CellDef.halfFits, Bool.and_eq_true, decide_eq_true_eq] at fits
    simp only [Option.map_some, CellDef.halfFits, Bool.and_eq_true, decide_eq_true_eq]
    exact ⟨fits.1, min_le_right _ _⟩

theorem State.keepsLaws_ageCell (n : Fin 8) (s : State) : s.KeepsLaws (s.ageCell n) :=
  keepsLaws_modifyLive fun _ _ _ _ _ h => { h with half := CellDef.halfFits_older h.half }

theorem State.keepsLaws_repairCell (n : Fin 8) (s : State) : s.KeepsLaws (s.repairCell n) := by
  unfold State.repairCell
  split
  · exact (keepsLaws_startInternal (by simp) ..).ite
  · exact .refl s

theorem State.keepsLaws_retryCell (n : Fin 8) (s : State) : s.KeepsLaws (s.retryCell n) :=
  (keepsLaws_startNewRead n s).ite

theorem State.keepsLaws_tickCell (n : Fin 8) (s : State) : s.KeepsLaws (s.tickCell n) := by
  have aged := (keepsLaws_accrueCell n s).trans (keepsLaws_ageCell n _)
  unfold State.tickCell
  simp only []
  split
  · exact aged.trans (keepsLaws_evaluatePending ..)
  · exact (aged.trans (keepsLaws_repairCell ..)).trans (keepsLaws_retryCell ..)

theorem State.keepsLaws_markDue (n : Fin 8) (s : State) : s.KeepsLaws (s.markDue n) :=
  keepsLaws_modifyLive fun _ _ _ _ _ h => { h with }

theorem State.keepsLaws_ignitionOffGuard (s : State) : s.KeepsLaws s.ignitionOffGuard := by
  unfold State.ignitionOffGuard
  split
  · exact .refl s
  · have taken : s.KeepsLaws { s with ignition := { s.ignition with guardOffs := s.ignition.guardOffs - 1 } } :=
      .of_blocks rfl rfl rfl id id
    exact (taken.trans (keepsLaws_forCells keepsLaws_markDue _)).trans (keepsLaws_forCells keepsLaws_settle _)

theorem State.keepsLaws_tearHalf (n : Fin 8) (d : CellDef) (reason : Reason) (s : State) :
    s.KeepsLaws (s.tearHalf n d reason) := by
  have torn : s.KeepsLaws (s.modifyLive n fun x => { x with half := none }) :=
    keepsLaws_modifyLive fun _ _ _ _ _ h => { h with half := rfl }
  unfold State.tearHalf
  split
  · exact .refl s
  · split
    · exact .refl s
    · exact torn.trans (keepsLaws_takeRecord ..)

theorem State.keepsLaws_tearForReset (n : Fin 8) (s : State) : s.KeepsLaws (s.tearForReset n) := by
  unfold State.tearForReset
  split
  · exact .refl s
  · exact keepsLaws_tearHalf ..

/-! ## Cycles at the processor port (R1 to R6, R47 to R60) -/

theorem State.keepsLaws_denyCycle (c : Cycle) (d : DecisionRecord) (s : State) : s.KeepsLaws (s.denyCycle c d) := by
  have denied := ((keepsLaws_completeCycle (unservedData (some c.kind)) s).trans
    (keepsLaws_takeRecord (denialReport c d) _)).trans (keepsLaws_scoreIncrement 1 .denial _)
  unfold State.denyCycle State.denial
  simp only []
  split
  · exact denied.trans (keepsLaws_alertCause _)
  · exact denied

theorem State.keepsLaws_chargePass (c : Cycle) (d : DecisionRecord) (s : State) : s.KeepsLaws (s.chargePass c d) :=
  (keepsLaws_chargeOpt ..).ite

theorem State.keepsLaws_carryOut (c : Cycle) (d : DecisionRecord) (s : State) : s.KeepsLaws (s.carryOut c d) := by
  unfold State.carryOut
  split
  · exact (keepsLaws_chargePass ..).trans (keepsLaws_enqueueProcessor ..)
  · exact keepsLaws_denyCycle ..
  · exact keepsLaws_denyCycle ..
  · exact keepsLaws_enqueueProcessor ..
  · split
    · exact .refl s
    · split
      · exact keepsLaws_counterWrite ..
      · exact keepsLaws_counterRead ..

theorem State.keepsLaws_decideCycle (c : Cycle) (s : State) : s.KeepsLaws (s.decideCycle c) := by
  have decided : s.KeepsLaws { s with decision := { s.decision with record := some (s.decisionOf c) } } :=
    .of_blocks rfl rfl rfl id id
  exact decided.trans (keepsLaws_carryOut ..)

theorem State.keepsLaws_parityFailure (reason : Reason) (l : CycleLines) (s : State) :
    s.KeepsLaws (s.parityFailure reason l) :=
  ((keepsLaws_takeRecord ..).trans (keepsLaws_alertCause _)).trans (keepsLaws_completeCycle ..)

theorem State.keepsLaws_activate (c : Cycle) (s : State) : s.KeepsLaws (s.activate c) := .of_blocks rfl rfl rfl id id

theorem State.keepsLaws_takeCycle (l : CycleLines) (s : State) : s.KeepsLaws (s.takeCycle l) := by
  unfold State.takeCycle
  split
  · exact keepsLaws_parityFailure ..
  · split
    · exact keepsLaws_parityFailure ..
    · exact keepsLaws_completeCycle ..
    · exact (keepsLaws_activate ..).trans (keepsLaws_decideCycle ..)

theorem State.keepsLaws_takePresented (s : State) : s.KeepsLaws s.takePresented := by
  unfold State.takePresented
  split
  · exact .refl s
  · have taken : s.KeepsLaws { s with port := { s.port with presented := none } } := .of_blocks rfl rfl rfl id id
    exact taken.trans (keepsLaws_takeCycle ..)

theorem State.keepsLaws_presentCycle (l : CycleLines) (s : State) : s.KeepsLaws (s.presentCycle l) := by
  unfold State.presentCycle
  split
  · exact keepsLaws_takeCycle ..
  · exact .of_blocks rfl rfl rfl id id
  · exact .of_blocks rfl rfl rfl id id
  · exact .refl s

theorem State.keepsLaws_judgeFill (timedOut : Bool) (word : Word) (s : State) :
    s.KeepsLaws (s.judgeFill timedOut word) := by
  unfold State.judgeFill
  split
  · rename_i c d _ _
    have judged : s.KeepsLaws
        { s with decision := { s.decision with record := some { d with fill := some .judged } } } :=
      .of_blocks rfl rfl rfl id id
    simp only []
    split
    · exact judged.trans (keepsLaws_completeCycle ..)
    · split
      · exact judged.trans (keepsLaws_enqueueProcessor ..)
      · split
        · exact (judged.trans (keepsLaws_enqueueProcessor ..)).trans (keepsLaws_chargeOpt ..)
        · exact judged.trans (keepsLaws_denyCycle ..)
  · exact .refl s

/-! ## The memory port and the arbiter (R12, R15, R20 to R24) -/

theorem State.keepsLaws_reportTimeout (x : Transfer) (s : State) : s.KeepsLaws (s.reportTimeout x) := by
  unfold State.reportTimeout
  split
  · exact .refl s
  · exact (keepsLaws_takeRecord ..).trans (keepsLaws_alertCause _)

theorem State.keepsLaws_leaveResetHeld (s : State) : s.KeepsLaws s.leaveResetHeld := by
  have idle : s.KeepsLaws { s with port := { s.port with state := .idle } } := .of_blocks rfl rfl rfl id id
  exact (idle.trans (keepsLaws_takePresented _)).ite

/-- The end of a dropped transfer, or what it completes. -/
theorem State.KeepsLaws.unlessDropped (h : s.KeepsLaws t) (x : Transfer) :
    s.KeepsLaws (if x.dropped then s.releaseAbandoned else t) := by
  split
  · exact keepsLaws_releaseAll ..
  · exact h

theorem State.keepsLaws_deliver (x : Transfer) (s : State) : s.KeepsLaws (s.deliver x) := by
  unfold State.deliver
  split
  · exact keepsLaws_opEnd ..
  · exact ((keepsLaws_opEnd ..).trans (keepsLaws_completeIfActive ..)).trans (keepsLaws_leaveResetHeld _)
  · exact (keepsLaws_completeIfActive ..).trans (keepsLaws_leaveResetHeld _)
  · exact (keepsLaws_completeCycle ..).unlessDropped x
  · exact (keepsLaws_completeCycle ..).unlessDropped x
  · exact (keepsLaws_judgeFill ..).unlessDropped x

/-- A change at the memory port. -/
theorem State.keepsLaws_setMem (m : MemPort) (s : State) : s.KeepsLaws { s with mem := m } := .of_blocks rfl rfl rfl id id

theorem State.keepsLaws_endTransfer (x : Transfer) (s : State) : s.KeepsLaws (s.endTransfer x) :=
  ((keepsLaws_setMem { s.mem with transfer := none } s).trans (keepsLaws_reportTimeout x _)).trans
    (keepsLaws_deliver x _)

theorem State.keepsLaws_afterAccess (x : Transfer) (s : State) : s.KeepsLaws (s.afterAccess x) := by
  unfold State.afterAccess
  split
  · exact keepsLaws_endTransfer ..
  · exact keepsLaws_setMem ..

theorem State.keepsLaws_endAccess (data : Word) (s : State) : s.KeepsLaws (s.endAccess data) := by
  unfold State.endAccess
  split
  · exact .refl s
  · split
    · exact .refl s
    · exact (keepsLaws_afterAccess ..).ite

theorem State.keepsLaws_timeOutAccess (s : State) : s.KeepsLaws s.timeOutAccess := by
  unfold State.timeOutAccess
  split
  · exact .refl s
  · split
    · exact .refl s
    · exact (keepsLaws_afterAccess ..).ite

theorem State.keepsLaws_tellNotMade (r : Request) (s : State) : s.KeepsLaws (s.tellNotMade r) := by
  unfold State.tellNotMade
  split
  · exact keepsLaws_opEnd ..
  · exact .refl s

theorem State.keepsLaws_serveWith (wide : Bool) (fuel : Nat) (s : State) :
    s.KeepsLaws (State.serveWith wide fuel s) := by
  induction fuel generalizing s with
  | zero => exact .refl s
  | succ fuel ih =>
    unfold State.serveWith
    split
    · exact .refl s
    · rename_i r rest _ _
      have left := keepsLaws_setMem { s.mem with queue := rest } s
      simp only []
      split
      · exact (left.trans (keepsLaws_tellNotMade ..)).trans (ih _)
      · exact left.trans (keepsLaws_setMem _ _)
    · exact (keepsLaws_setMem _ s).trans (keepsLaws_setMem _ _)
    · exact .refl s

theorem State.keepsLaws_serve (wide : Bool) (s : State) : s.KeepsLaws (s.serve wide) := keepsLaws_serveWith ..

/-! ## Bus reset (R22 to R24, R92, R93) -/

theorem State.keepsLaws_abandon (s : State) : s.KeepsLaws s.abandon := by
  have left : s.KeepsLaws { s with
      port := { s.port with state := .resetHeld, cycle := none, completion := none }
      decision := { s.decision with record := none }
      guard := { s.guard with waitingWrite := none }
      mem := s.mem.busReset } := .of_blocks rfl rfl rfl id id
  unfold State.abandon
  simp only []
  split
  · exact left.trans (keepsLaws_forCells keepsLaws_keepRead _)
  · exact left.trans (keepsLaws_releaseAll ..)

theorem State.keepsLaws_portReset (s : State) : s.KeepsLaws s.portReset := by
  unfold State.portReset
  split
  · exact keepsLaws_abandon s
  · exact .of_blocks rfl rfl rfl id id
  · exact .refl s

/-- A change of the processor port. -/
theorem State.keepsLaws_setPort (p : ProcPort) (s : State) : s.KeepsLaws { s with port := p } := .of_blocks rfl rfl rfl id id

theorem State.keepsLaws_assertReset (s : State) : s.KeepsLaws s.assertReset :=
  ((keepsLaws_setPort { s.port with busReset := true } s).trans (keepsLaws_portReset _)).trans
    (keepsLaws_forCells keepsLaws_tearForReset _)

/-! ## Time (R66, R168) -/

/-- The time goes on; its period count stays in range. -/
theorem State.keepsLaws_withTime {x : Timebase} (h : s.time.periodCount ≤ 32767 → x.periodCount ≤ 32767) :
    s.KeepsLaws (s.withTime x) := .of_blocks rfl rfl rfl h id

theorem Timebase.toNext_periodCount_le (k : Nat) (x : Timebase) : (x.toNext k).periodCount ≤ 32767 :=
  Nat.le_of_lt_succ (Timebase.elapse_periodCount_lt _ _)

theorem Timebase.awaited_periodCount_le {x : Timebase} (h : x.periodCount ≤ 32767) (c : Prop) [Decidable c] (k : Nat) :
    (if c then x.toNext k else x).periodCount ≤ 32767 := by
  split
  · exact x.toNext_periodCount_le k
  · exact h

section
variable {x : Timebase}

theorem Timebase.takeGuardTick_periodCount_le (h : x.periodCount ≤ 32767) : x.takeGuardTick.periodCount ≤ 32767 := by
  simp only [takeGuardTick, awaitGuardTick]
  exact awaited_periodCount_le h ..

theorem Timebase.takeTableTick_periodCount_le (h : x.periodCount ≤ 32767) : x.takeTableTick.periodCount ≤ 32767 := by
  simp only [takeTableTick, awaitTableTick]
  exact awaited_periodCount_le h ..

theorem Timebase.takeGrantSecond_periodCount_le (h : x.periodCount ≤ 32767) : x.takeGrantSecond.periodCount ≤ 32767 := by
  simp only [takeGrantSecond, awaitGrantSecond]
  exact awaited_periodCount_le h ..

theorem Timebase.takeDecisionSecond_periodCount_le (h : x.periodCount ≤ 32767) :
    x.takeDecisionSecond.periodCount ≤ 32767 := by
  simp only [takeDecisionSecond, awaitDecisionSecond]
  exact awaited_periodCount_le h ..

theorem Timebase.takeLampStep_periodCount_le (h : x.periodCount ≤ 32767) : x.takeLampStep.periodCount ≤ 32767 := by
  simp only [takeLampStep, awaitLampStep]
  exact awaited_periodCount_le h ..

theorem Timebase.takeSample_periodCount_le (h : x.periodCount ≤ 32767) : x.takeSample.periodCount ≤ 32767 := by
  simp only [takeSample, awaitSample]
  exact awaited_periodCount_le h ..

end

theorem State.keepsLaws_tickGuard (s : State) : s.KeepsLaws s.tickGuard :=
  (keepsLaws_withTime Timebase.takeGuardTick_periodCount_le).trans (keepsLaws_forCells keepsLaws_tickCell _)

/-! ## The grant table, the log and the link (R109 to R124, R160) -/

theorem State.keepsLaws_acceptRequest (i : Fin 4) (g : Grant) (s : State) : s.KeepsLaws (s.acceptRequest i g) :=
  .of_blocks rfl rfl rfl id fun h => h.queueItem rfl

theorem State.keepsLaws_clearFailed (s : State) : s.KeepsLaws s.clearFailed :=
  State.KeepsLaws.ite (.of_blocks rfl rfl rfl id fun h => h.queueItem rfl)

theorem State.keepsLaws_reportSlot (i : Fin 4) (s : State) : s.KeepsLaws (s.reportSlot i) := .of_blocks rfl rfl rfl id id

theorem State.keepsLaws_openSlot (i : Fin 4) (g : Grant) (s : State) : s.KeepsLaws (s.openSlot i g) :=
  (((keepsLaws_setSlot ..).trans (keepsLaws_clearFailed _)).trans (keepsLaws_takeRecord ..)).trans
    (keepsLaws_reportSlot ..)

theorem State.keepsLaws_refuseProof (i : Fin 4) (g : Grant) (s : State) : s.KeepsLaws (s.refuseProof i g) := by
  have counted : (s.freeSlot i).KeepsLaws (s.freeSlot i).countFailure :=
    .of_blocks rfl rfl rfl id fun h => h.queueItem rfl
  exact (((keepsLaws_freeSlot ..).trans counted).trans (keepsLaws_takeRecord ..)).trans (keepsLaws_scoreIncrement ..)

theorem State.keepsLaws_settleProof (p : ProofInFlight) (s : State) : s.KeepsLaws (s.settleProof p).1 := by
  unfold State.settleProof
  split
  · split
    · split
      · exact keepsLaws_openSlot ..
      · exact keepsLaws_refuseProof ..
    · exact .refl s
  · exact .refl s

theorem State.keepsLaws_secondSlot (i : Fin 4) (s : State) : s.KeepsLaws (s.secondSlot i) := by
  unfold State.secondSlot
  split
  · exact .refl s
  · split
    · exact keepsLaws_freeSlot ..
    · exact keepsLaws_setSlot ..
  · split
    · exact keepsLaws_closeSlot ..
    · exact keepsLaws_setSlot ..

theorem State.keepsLaws_grantSecond (s : State) : s.KeepsLaws s.grantSecond := by
  have taken : s.KeepsLaws (s.withTime s.time.takeGrantSecond) :=
    keepsLaws_withTime Timebase.takeGrantSecond_periodCount_le
  have stepped (t : State) : t.KeepsLaws t.backoffStep := .of_blocks rfl rfl rfl id id
  exact (taken.trans (keepsLaws_forSlots keepsLaws_secondSlot _)).trans (stepped _)

theorem State.keepsLaws_ignitionOffSlot (i : Fin 4) (s : State) : s.KeepsLaws (s.ignitionOffSlot i) := by
  unfold State.ignitionOffSlot
  split
  · exact .refl s
  · split
    · exact .refl s
    · exact keepsLaws_endSlot ..

theorem State.keepsLaws_releaseLog (i : Fin 4) (g : Grant) (count : Nat) (s : State) :
    s.KeepsLaws (s.releaseLog i g count) := by
  have released : s.KeepsLaws { s with log := s.log.release (min count s.log.records.length) } :=
    .of_blocks rfl rfl rfl id id
  have marked (e : Bool) (t : State) : t.KeepsLaws (t.markAfterRelease e) :=
    State.KeepsLaws.ite (.of_blocks rfl rfl rfl id fun h => h.queueItem rfl)
  exact (released.trans (keepsLaws_takeRecord ..)).trans (marked _ _)

theorem State.keepsLaws_endLockdown (i : Fin 4) (g : Grant) (s : State) : s.KeepsLaws (s.endLockdown i g) := by
  unfold State.endLockdown
  refine State.KeepsLaws.trans ?_ (keepsLaws_takeRecord ..)
  exact .of_blocks rfl rfl rfl id fun h => h.queueItem rfl

/-- A change of the link. -/
theorem State.keepsLaws_setLink (l : Link) (s : State) : s.KeepsLaws { s with link := l } := .of_blocks rfl rfl rfl id id

end
end Sys2Proof.Machine
end

section
namespace Sys2Proof.Machine

section
variable {s t u : State} {n : Fin 8} {old new : Option CellDef} {d e : CellDef}

/-! ## The kinds of change (R44) -/

/-- R44: nothing, ADDED, REMOVED, MOVED or RETUNED. -/
theorem cellChange_cases (old new : Option CellDef) : old = new ∨ (∃ e, old = none ∧ new = some e) ∨
    (∃ d, old = some d ∧ new = none) ∨
    (∃ d e, old = some d ∧ new = some e ∧ (d.address ≠ e.address ∨ d.width ≠ e.width)) ∨
    ∃ d e, old = some d ∧ new = some e ∧ d.address = e.address ∧ d.width = e.width ∧ d.mode ≠ e.mode := by
  rcases old with _ | d <;> rcases new with _ | e
  · exact .inl rfl
  · exact .inr (.inl ⟨e, rfl, rfl⟩)
  · exact .inr (.inr (.inl ⟨d, rfl, rfl⟩))
  · by_cases moved : d.address ≠ e.address ∨ d.width ≠ e.width
    · exact .inr (.inr (.inr (.inl ⟨d, e, rfl, rfl, moved⟩)))
    · rw [not_or, not_ne_iff, not_ne_iff] at moved
      by_cases mode : d.mode = e.mode
      · refine .inl (congrArg some ?_)
        cases d
        cases e
        simp_all
      · exact .inr (.inr (.inr (.inr ⟨d, e, rfl, rfl, moved.1, moved.2, mode⟩)))

theorem State.changeCell_removed (d : CellDef) (s : State) : s.changeCell n (some d) none = s.removeCell n d := rfl

theorem State.changeCell_moved (h : d.address ≠ e.address ∨ d.width ≠ e.width) (s : State) :
    s.changeCell n (some d) (some e) = s.moveCell n d := by
  have kind : cellChange (some d) (some e) = .moved := if_pos h
  unfold State.changeCell
  rw [kind]

theorem State.changeCell_retuned (ha : d.address = e.address) (hw : d.width = e.width) (hm : d.mode ≠ e.mode)
    (s : State) : s.changeCell n (some d) (some e) = s.retuneCell n d e := by
  have kind : cellChange (some d) (some e) = .retuned := by
    rw [cellChange, if_neg (by simp [ha, hw]), if_neg fun h => hm (congrArg CellDef.mode h)]
  unfold State.changeCell
  rw [kind]

theorem State.changeCell_same (x : Option CellDef) (s : State) : s.changeCell n x x = s := by
  have kind : cellChange x x = .unchanged := by cases x <;> simp [cellChange]
  unfold State.changeCell
  rw [kind]

/-! ## What a change leaves of the other cells -/

/-- A cell differs from another at most in a new read that has been requested. -/
structure Cell.SameState (c c' : Cell) : Prop where
  defn : c'.defn = c.defn
  live : c'.live = c.live
  loadedFloor : c'.loadedFloor = c.loadedFloor
  stale : c'.stale = c.stale
  writes : ∀ o x isSet, c'.op = some (.evaluation o x isSet) → c.op = some (.evaluation o x isSet)

theorem Cell.SameState.refl (c : Cell) : c.SameState c := ⟨rfl, rfl, rfl, rfl, fun _ _ _ => id⟩

theorem Cell.SameState.trans {a b c : Cell} (h : a.SameState b) (k : b.SameState c) : a.SameState c :=
  ⟨k.defn.trans h.defn, k.live.trans h.live, k.loadedFloor.trans h.loadedFloor, k.stale.trans h.stale,
    fun o x i e => h.writes o x i (k.writes o x i e)⟩

theorem Cell.sameState_released (w : ReadWait) (c : Cell) : c.SameState (c.released w) := by
  unfold Cell.released
  split
  · exact ⟨rfl, rfl, rfl, rfl, fun _ _ _ e => nomatch e⟩
  · exact .refl c

/-- Such a cell is within its ranges, under any definition, where the other is. -/
theorem Cell.SameState.lawful {c c' : Cell} (h : c.SameState c') {x : Option CellDef}
    (law : Cell.lawful { c with defn := x } = true) : Cell.lawful { c' with defn := x } = true := by
  have same : ({ c' with defn := x } : Cell) = { ({ c with defn := x } : Cell) with op := c'.op } := by
    obtain ⟨-, hl, hf, hs, -⟩ := h
    cases c'
    simp_all
  rw [same]
  refine Cell.lawful_setOp law fun o v isSet ho hs d y hd hy => ?_
  exact ((Cell.lawful_live (c := { c with defn := x }) hd hy).1 law).write o v isSet (h.writes o v isSet ho) hs

/-- A change of one cell leaves of the others all but the request of a new read. -/
structure State.LeavesOthers (n : Fin 8) (s t : State) : Prop where
  others : ∀ m, m ≠ n → (s.cell m).SameState (t.cell m)

theorem State.LeavesOthers.refl (n : Fin 8) (s : State) : State.LeavesOthers n s s := ⟨fun _ _ => .refl _⟩

theorem State.LeavesOthers.trans (h : State.LeavesOthers n s t) (k : State.LeavesOthers n t u) :
    State.LeavesOthers n s u := ⟨fun m hm => (h.others m hm).trans (k.others m hm)⟩

theorem State.leavesOthers_of_guard (h : t.guard.cells = s.guard.cells) : State.LeavesOthers n s t :=
  ⟨fun m _ => by rw [State.cell_congr h]; exact .refl _⟩

theorem State.leavesOthers_setCell (n : Fin 8) (c : Cell) (s : State) : State.LeavesOthers n s (s.setCell n c) :=
  ⟨fun m hm => by rw [State.cell_setCell, if_neg hm]; exact .refl _⟩

theorem State.leavesOthers_tearHalf (n : Fin 8) (d : CellDef) (reason : Reason) (s : State) :
    State.LeavesOthers n s (s.tearHalf n d reason) := by
  have torn : State.LeavesOthers n s (s.modifyLive n fun x => { x with half := none }) := leavesOthers_setCell ..
  unfold State.tearHalf
  split
  · exact .refl n s
  · split
    · exact .refl n s
    · exact torn.trans (leavesOthers_of_guard (by simp))

theorem State.leavesOthers_absorbWaiting (n : Fin 8) (s : State) : State.LeavesOthers n s (s.absorbWaiting n) := by
  unfold State.absorbWaiting
  split
  · refine ⟨fun m _ => ?_⟩
    rw [State.cell_completeCycle]
    exact Cell.sameState_released ..
  · exact .refl n s

theorem State.leavesOthers_startNewRead (n : Fin 8) (s : State) : State.LeavesOthers n s (s.startNewRead n) := by
  unfold State.startNewRead
  split
  · exact .refl n s
  · split
    · exact leavesOthers_setCell ..
    · exact (leavesOthers_setCell ..).trans (leavesOthers_of_guard rfl)

theorem State.leavesOthers_addCell (n : Fin 8) (s : State) : State.LeavesOthers n s (s.addCell n) := by
  have dropped := State.leavesOthers_setCell n (s.cell n).dropLive s
  unfold State.addCell
  simp only []
  split
  · exact dropped.trans (leavesOthers_startNewRead ..)
  · exact dropped

theorem State.leavesOthers_changeCell (n : Fin 8) (old new : Option CellDef) (s : State) :
    State.LeavesOthers n s (s.changeCell n old new) := by
  have torn (d : CellDef) := (State.leavesOthers_tearHalf n d .apply s).trans (leavesOthers_absorbWaiting n _)
  rcases cellChange_cases old new with rfl | ⟨e, rfl, rfl⟩ | ⟨d, rfl, rfl⟩ | ⟨d, e, rfl, rfl, h⟩ | ⟨d, e, rfl, rfl, ha, hw, hm⟩
  · rw [State.changeCell_same]
    exact .refl n s
  · exact leavesOthers_addCell ..
  · exact ((torn d).trans (leavesOthers_setCell ..)).trans (leavesOthers_of_guard rfl)
  · rw [State.changeCell_moved h]
    exact (torn d).trans (leavesOthers_addCell ..)
  · rw [State.changeCell_retuned ha hw hm]
    exact leavesOthers_setCell ..

/-! ## A change keeps the tables, and the changed cell is within its ranges (R97 to R101) -/

theorem Cell.dropLive_rest (c : Cell) : c.dropLive.defn = c.defn ∧ c.dropLive.live = none ∧ c.dropLive.loadedFloor = none := by
  rcases c.dropLive_cases with ⟨op, -, -, e⟩ | ⟨-, e⟩ <;> rw [e] <;> exact ⟨rfl, rfl, rfl⟩

/-- A cell's live state is dropped. -/
theorem State.keepsLaws_dropLive (n : Fin 8) (s : State) : s.KeepsLaws (s.setCell n (s.cell n).dropLive) := by
  obtain ⟨defn, live, floor⟩ := (s.cell n).dropLive_rest
  exact keepsLaws_setCell defn fun _ => Cell.lawful_of_none live floor

theorem State.keepsLaws_addCell (n : Fin 8) (s : State) : s.KeepsLaws (s.addCell n) := by
  have dropped := State.keepsLaws_dropLive n s
  unfold State.addCell
  simp only []
  split
  · exact dropped.trans (keepsLaws_startNewRead ..)
  · exact dropped

theorem State.keepsLaws_absorbWaiting (n : Fin 8) (s : State) : s.KeepsLaws (s.absorbWaiting n) :=
  ((keepsLaws_clearWaiting s).trans (keepsLaws_completeCycle ..)).ite

theorem State.keepsLaws_removeCell (n : Fin 8) (d : CellDef) (s : State) : s.KeepsLaws (s.removeCell n d) :=
  (((keepsLaws_tearHalf ..).trans (keepsLaws_absorbWaiting ..)).trans (keepsLaws_dropLive ..)).trans
    (keepsLaws_queueItem rfl _)

theorem State.keepsLaws_moveCell (n : Fin 8) (d : CellDef) (s : State) : s.KeepsLaws (s.moveCell n d) :=
  ((keepsLaws_tearHalf ..).trans (keepsLaws_absorbWaiting ..)).trans (keepsLaws_addCell ..)

theorem State.sameTables_changeCell (n : Fin 8) (old new : Option CellDef) (s : State) :
    s.SameTables (s.changeCell n old new) := by
  rcases cellChange_cases old new with rfl | ⟨e, rfl, rfl⟩ | ⟨d, rfl, rfl⟩ | ⟨d, e, rfl, rfl, h⟩ | ⟨d, e, rfl, rfl, ha, hw, hm⟩
  · rw [State.changeCell_same]
    exact .refl s
  · exact (keepsLaws_addCell n s).toSameTables
  · exact (keepsLaws_removeCell n d s).toSameTables
  · rw [State.changeCell_moved h]
    exact (keepsLaws_moveCell n d s).toSameTables
  · rw [State.changeCell_retuned ha hw hm]
    refine ⟨rfl, fun m => ?_, rfl, id, id⟩
    rw [State.retuneCell, State.modifyLive, State.cell_setCell]
    split
    · rename_i e
      rw [e]
    · rfl

/-- A cell has no live state and no loaded floor. -/
def Cell.Dropped (c : Cell) : Prop := c.live = none ∧ c.loadedFloor = none

theorem State.addCell_dropped (n : Fin 8) (s : State) : ((s.addCell n).cell n).Dropped := by
  have dropped := (s.cell n).dropLive_rest.2
  unfold State.addCell
  simp only []
  split
  · unfold State.startNewRead
    split
    · rw [State.cell_setCell_self]
      exact dropped
    · split
      · rw [State.cell_setOp_self, State.cell_setCell_self]
        exact dropped
      · rw [State.cell_startInternal, if_pos rfl, State.cell_setCell_self]
        exact dropped
  · rw [State.cell_setCell_self]
    exact dropped

/-- R99: the credit after a retuning is in the range of the new mode. -/
theorem CellMode.creditFits_retuned (a b : CellMode) (x : Nat) : b.creditFits (retunedCredit a b x) = true := by
  rcases a with _ | ⟨_, _⟩ <;> rcases b with _ | ⟨_, _⟩ <;> simp [CellMode.creditFits, retunedCredit]

/-- The changed cell is within its ranges under its new definition where it was under its old one. -/
theorem State.changeCell_lawful (hd : (s.cell n).defn = new) (law : Cell.lawful { s.cell n with defn := old } = true) :
    ((s.changeCell n old new).cell n).lawful = true := by
  subst hd
  have ofDropped {c : Cell} (h : c.Dropped) : c.lawful = true := Cell.lawful_of_none h.1 h.2
  rcases cellChange_cases old (s.cell n).defn with h | ⟨e, h, hd⟩ | ⟨d, h, hd⟩ | ⟨d, e, h, hd, hm⟩ | ⟨d, e, h, hd, ha, hw, hm⟩
  · subst h
    rw [State.changeCell_same]
    exact law
  · rw [h, hd]
    exact ofDropped (addCell_dropped ..)
  · rw [h, hd]
    refine ofDropped ?_
    rw [State.changeCell_removed, State.removeCell]
    exact (congrArg Cell.Dropped (State.cell_setCell_self ..)).mpr (Cell.dropLive_rest _).2
  · rw [h, hd, State.changeCell_moved hm]
    exact ofDropped (addCell_dropped ..)
  · rw [h, hd, State.changeCell_retuned ha hw hm, State.retuneCell, State.cell_modifyLive_self]
    rw [h] at law
    rcases Option.eq_none_or_eq_some (s.cell n).live with hv | ⟨v, hv⟩
    · refine (Cell.lawful_reading (c := { s.cell n with live := (s.cell n).live.map _ }) hd (by rw [hv]; rfl)).2 ?_
      rw [← hw]
      exact (Cell.lawful_reading (c := { s.cell n with defn := some d }) rfl hv).1 law
    · have fits := (Cell.lawful_live (c := { s.cell n with defn := some d }) rfl hv).1 law
      refine (Cell.lawful_live (c := { s.cell n with live := (s.cell n).live.map _ }) hd (by rw [hv]; rfl)).2 ?_
      refine ⟨hw ▸ fits.shadow, fits.floor, CellMode.creditFits_retuned .., ?_, hw ▸ fits.write, fits.loaded⟩
      have half := fits.half
      simp only [CellDef.halfFits] at half ⊢
      rw [← hw]
      exact half

/-! ## The walk over the staged cells (R43) -/

/-- The changes have still to be taken at these cells, whose new definitions are live: each is within its ranges under
its old definition, and the other cells are so under their new ones. -/
structure State.ChangesFrom (s : State) (st : Staged) (old : Vector (Option CellDef) 8) (first : State)
    (rest : List (Fin 8)) : Prop where
  tables : first.SameTables s
  defn : ∀ n, (s.cell n).defn = (st.cells[n]).getD old[n]
  todo : ∀ n ∈ rest, Cell.lawful { s.cell n with defn := old[n] } = true
  done : ∀ n, n ∉ rest → (s.cell n).lawful = true

theorem State.ChangesFrom.notifyCell {st : Staged} {old : Vector (Option CellDef) 8} {first : State} {rest : List (Fin 8)}
    (hn : n ∉ rest) (h : s.ChangesFrom st old first (n :: rest)) :
    (s.notifyCell st old n).ChangesFrom st old first rest := by
  have hdefn := h.defn n
  have htodo := h.todo n (by simp)
  unfold State.notifyCell
  split
  · rename_i hst
    rw [hst, Option.getD_none] at hdefn
    refine ⟨h.tables, h.defn, fun m hm => h.todo m (by simp [hm]), fun m hm => ?_⟩
    by_cases e : m = n
    · subst e
      rw [← hdefn] at htodo
      exact htodo
    · exact h.done m (by simp [e, hm])
  · rename_i d hst
    rw [hst, Option.getD_some] at hdefn
    have same := State.sameTables_changeCell n old[n] d s
    have others := (State.leavesOthers_changeCell n old[n] d s).others
    refine ⟨h.tables.trans same, fun m => (same.defn m).trans (h.defn m), fun m hm => ?_, fun m hm => ?_⟩
    · exact (others m fun e => hn (e ▸ hm)).lawful (h.todo m (by simp [hm]))
    · by_cases e : m = n
      · subst e
        exact State.changeCell_lawful hdefn htodo
      · have law := (others m e).lawful (x := (s.cell m).defn) (h.done m (by simp [e, hm]))
        rw [← (others m e).defn] at law
        exact law

end
end Sys2Proof.Machine
end

section
namespace Sys2Proof.Machine

section
variable {s t u : State}

/-! ## The law of the tables, by name (R30, R34 to R36, R41) -/

/-- The clauses of `State.TableLaw`. -/
structure State.TableFits (s : State) : Prop where
  checked : checkTable s.table.windows s.table.dflt s.guard.defns = none
  wouldBe : s.table.apply = .pending → s.checkWouldBe = none
  settings : s.table.settings.inRange = true
  windows : ∀ (n : Fin 8) (w : Window), s.table.windows[n] = some w → w.inRange = true
  cells : ∀ (n : Fin 8) (d : CellDef), (s.cell n).defn = some d → d.inRange = true
  staged : s.table.staged.inRange = true
  store : s.store.InRange

theorem State.tableLaw_iff : s.TableLaw ↔ s.TableFits := by
  constructor
  · rintro ⟨checked, wouldBe, settings, windows, cells, staged, stored, held, writes⟩
    exact ⟨checked, wouldBe, settings, windows, cells, staged, stored, held, writes⟩
  · rintro ⟨checked, wouldBe, settings, windows, cells, staged, stored, held, writes⟩
    exact ⟨checked, wouldBe, settings, windows, cells, staged, stored, held, writes⟩

theorem vector_eq_of_get {α : Type} {v w : Vector α 8} (h : ∀ n : Fin 8, v[n] = w[n]) : v = w :=
  Vector.ext fun i hi => h ⟨i, hi⟩

theorem State.defns_congr (h : ∀ n, (t.cell n).defn = (s.cell n).defn) : t.guard.defns = s.guard.defns :=
  vector_eq_of_get fun n => by rw [State.cell_defns, State.cell_defns, h]

theorem State.TableFits.of_sameTables (h : s.TableFits) (k : s.SameTables t) : t.TableFits where
  checked := by
    rw [k.table, State.defns_congr k.defn]
    exact h.checked
  wouldBe p := by
    rw [State.checkWouldBe, k.table, State.defns_congr k.defn]
    exact h.wouldBe (k.table ▸ p)
  settings := k.table ▸ h.settings
  windows := k.table ▸ h.windows
  cells n d hd := h.cells n d (k.defn n ▸ hd)
  staged := k.table ▸ h.staged
  store := k.store h.store

/-- What a command has to show for the laws of the cells, the tables and the clocks. -/
structure State.LawsPass (s t : State) : Prop where
  cells : s.CellLaw → t.CellLaw
  tables : s.TableFits → s.ClockLaw → t.TableFits ∧ t.ClockLaw

theorem State.SameTables.tables (h : s.SameTables t) (fits : s.TableFits) (clock : s.ClockLaw) :
    t.TableFits ∧ t.ClockLaw := ⟨fits.of_sameTables h, h.decay ▸ clock.1, h.clock clock.2⟩

theorem State.KeepsLaws.pass (h : s.KeepsLaws t) : s.LawsPass t := ⟨h.cells, h.toSameTables.tables⟩

theorem State.LawsPass.refl (s : State) : s.LawsPass s := (State.KeepsLaws.refl s).pass

theorem State.LawsPass.trans (h : s.LawsPass t) (k : t.LawsPass u) : s.LawsPass u :=
  ⟨k.cells ∘ h.cells, fun fits clock => (h.tables fits clock).elim k.tables⟩

theorem State.LawsPass.then (h : s.LawsPass t) (k : t.KeepsLaws u) : s.LawsPass u := h.trans k.pass

theorem State.LawsPass.ite {c : Prop} [Decidable c] (h : s.LawsPass t) : s.LawsPass (if c then t else s) := by
  split
  · exact h
  · exact .refl s

/-- A change of the window table, the cells and the counts staying. -/
theorem State.lawsPass_of_table (guard : t.guard.cells = s.guard.cells) (decision : t.decision = s.decision)
    (time : t.time = s.time) (fits : s.TableFits → t.TableFits) : s.LawsPass t where
  cells h n := by
    rw [State.cell_congr guard]
    exact h n
  tables h clock := ⟨fits h, by rw [State.ClockLaw, decision, time]; exact clock⟩

/-! ## The staging commands (R34 to R38) -/

theorem Staged.mem_writes {st : Staged} {w : ItemWrite} : w ∈ st.writes ↔
    (∃ (n : Fin 8) (x : Option Window), st.windows[n] = some x ∧ w = .window n x) ∨
      (∃ x : WindowTerms, st.dflt = some x ∧ w = .dflt x) ∨
      (∃ (n : Fin 8) (x : Option CellDef), st.cells[n] = some x ∧ w = .cellDef n x) ∨
      ∃ x : Settings, st.settings = some x ∧ w = .settings x := by
  simp only [Staged.writes, List.mem_append, List.mem_filterMap, Option.map_eq_some_iff, Option.mem_toList, mem_octOrder,
    true_and, or_assoc, eq_comm (a := w)]

/-- The staged entries are in range. -/
theorem Staged.inRange_iff {st : Staged} : st.inRange = true ↔
    (∀ (n : Fin 8) (w : Window), st.windows[n] = some (some w) → w.inRange = true) ∧
      (∀ (n : Fin 8) (d : CellDef), st.cells[n] = some (some d) → d.inRange = true) ∧
      ∀ v, st.settings = some v → v.inRange = true := by
  rw [Staged.inRange, List.all_eq_true]
  constructor
  · intro h
    refine ⟨fun n w e => ?_, fun n d e => ?_, fun v e => ?_⟩
    · exact h _ (mem_writes.2 (.inl ⟨n, _, e, rfl⟩))
    · exact h _ (mem_writes.2 (.inr (.inr (.inl ⟨n, _, e, rfl⟩))))
    · exact h _ (mem_writes.2 (.inr (.inr (.inr ⟨v, e, rfl⟩))))
  · rintro ⟨windows, cells, settings⟩ x hx
    rcases mem_writes.1 hx with ⟨n, w, e, rfl⟩ | ⟨v, -, rfl⟩ | ⟨n, d, e, rfl⟩ | ⟨v, e, rfl⟩
    · refine (Option.all_eq_true ..).2 fun y hy => windows n y (hy ▸ e)
    · rfl
    · refine (Option.all_eq_true ..).2 fun y hy => cells n y (hy ▸ e)
    · exact settings v e

theorem Staged.inRange_empty : Staged.empty.inRange = true := by decide

section
variable {p : List Byte} {st v : Staged}

/-- R34: a window within the ranges of STAGE WINDOW is in range. -/
theorem inRange_of_enabledRanges (h : ∀ x ∈ enabledRanges p, x.2) {w : Window} (base : w.base.toNat = fieldAt p 8 3)
    (size : w.size = fieldAt p 11 4) (offset : w.offset.toNat = fieldAt p 17 3) : w.inRange = true := by
  simp only [enabledRanges, List.forall_mem_append, List.forall_mem_cons] at h
  obtain ⟨⟨aligned, power, -, -, ⟨multiple, fits⟩, -⟩, -⟩ := h
  rw [Window.inRange, base, size, offset, Bool.and_eq_true, isWindowSize_iff, decide_eq_true_iff]
  exact ⟨power, aligned, Nat.mod_eq_zero_of_dvd multiple, fits⟩

theorem inRange_takesWindow (h : ∀ x ∈ windowRanges p, x.2) (ht : TakesWindow p st v) (hst : st.inRange = true) :
    v.inRange = true := by
  obtain ⟨windows, cells, settings⟩ := Staged.inRange_iff.1 hst
  obtain ⟨hi, rest⟩ := List.forall_mem_cons.1 h
  obtain ⟨dflt, numbered⟩ := ht
  by_cases h8 : fieldAt p 6 1 = 8
  · obtain ⟨x, -, rfl⟩ := dflt h8
    exact Staged.inRange_iff.2 ⟨windows, cells, settings⟩
  · rw [if_neg h8] at rest
    obtain ⟨hflag, rest⟩ := List.forall_mem_cons.1 rest
    obtain ⟨off, on⟩ := numbered ⟨fieldAt p 6 1, by omega⟩ rfl
    by_cases h0 : fieldAt p 7 1 = 0
    · rw [off h0]
      refine Staged.inRange_iff.2 ⟨fun n w e => ?_, cells, settings⟩
      rcases entry_set e with e | e
      · exact nomatch e
      · exact windows n w e
    · rw [if_neg h0] at rest
      obtain ⟨x, base, size, offset, -, rfl⟩ := on (by omega)
      refine Staged.inRange_iff.2 ⟨fun n w e => ?_, cells, settings⟩
      rcases entry_set e with e | e
      · cases e
        exact inRange_of_enabledRanges rest base size offset
      · exact windows n w e

/-- R35: a definition within the ranges of STAGE CELL is in range. -/
theorem inRange_of_enabledCellRanges (h : ∀ x ∈ enabledCellRanges p, x.2) {d : CellDef}
    (width : (match d.width with | .w16 => 16 | .w32 => 32) = fieldAt p 8 1) (address : d.address.toNat = fieldAt p 9 3)
    (mode : d.mode = if fieldAt p 12 1 = 1 then .rate (fieldAt p 13 3) (fieldAt p 16 2) else .monotonic) :
    d.inRange = true := by
  simp only [enabledCellRanges, List.forall_mem_append, List.forall_mem_cons] at h
  obtain ⟨⟨-, aligned, -⟩, rate⟩ := h
  rw [CellDef.inRange, address, Bool.and_eq_true, decide_eq_true_iff, mode]
  constructor
  · cases hw : d.width <;> simp only [hw] at width <;> rw [← width] at aligned <;>
      exact Nat.mod_eq_zero_of_dvd (by simpa using aligned)
  · by_cases h1 : fieldAt p 12 1 = 1
    · simp only [if_pos h1, List.forall_mem_cons] at rate ⊢
      have hr : fieldAt p 13 3 < 16777216 := fieldAt_lt p 13 3
      have hc : fieldAt p 16 2 < 65536 := fieldAt_lt p 16 2
      rw [decide_eq_true_iff]
      exact ⟨rate.1, by omega, rate.2.1, by omega⟩
    · simp only [if_neg h1]

theorem inRange_takesCell (h : ∀ x ∈ cellRanges p, x.2) (ht : TakesCell p st v) (hst : st.inRange = true) :
    v.inRange = true := by
  obtain ⟨windows, cells, settings⟩ := Staged.inRange_iff.1 hst
  obtain ⟨hi, rest⟩ := List.forall_mem_cons.1 h
  obtain ⟨hflag, rest⟩ := List.forall_mem_cons.1 rest
  obtain ⟨off, on⟩ := ht ⟨fieldAt p 6 1, by omega⟩ rfl
  by_cases h0 : fieldAt p 7 1 = 0
  · rw [off h0]
    refine Staged.inRange_iff.2 ⟨windows, fun n d e => ?_, settings⟩
    rcases entry_set e with e | e
    · exact nomatch e
    · exact cells n d e
  · rw [if_neg h0] at rest
    obtain ⟨x, width, address, mode, rfl⟩ := on (by omega)
    refine Staged.inRange_iff.2 ⟨windows, fun n d e => ?_, settings⟩
    rcases entry_set e with e | e
    · cases e
      exact inRange_of_enabledCellRanges rest width address mode
    · exact cells n d e

theorem inRange_takesSettings (h : ∀ x ∈ settingsRanges p, x.2) (ht : TakesSettings p st v) (hst : st.inRange = true) :
    v.inRange = true := by
  obtain ⟨windows, cells, -⟩ := Staged.inRange_iff.1 hst
  obtain ⟨x, rfl, node, divisor, -, -, alert, lockdown, decay, ready, hold, -, -⟩ := ht
  simp only [settingsRanges, List.forall_mem_cons] at h
  obtain ⟨rnode, rdivisor, -, -, ralert, rdecay, rready, rhold, -⟩ := h
  have ba : fieldAt p 11 1 < 256 := fieldAt_lt p 11 1
  have bl : fieldAt p 12 1 < 256 := fieldAt_lt p 12 1
  have br : fieldAt p 15 2 < 65536 := fieldAt_lt p 15 2
  refine Staged.inRange_iff.2 ⟨windows, cells, fun y e => ?_⟩
  cases e
  rw [Settings.inRange, decide_eq_true_iff, node, divisor, alert, lockdown, decay, ready, hold]
  omega

end

/-- R37: a staging command stages a value that has passed its checks, or nothing. -/
theorem State.lawsPass_stage (p : List Byte) {checks : List (Nat × Bool)} {write : Staged → Staged}
    (h : ∀ st, firstBad checks = none → st.inRange = true → (write st).inRange = true) (s : State) :
    s.LawsPass (s.stage p checks write).1 := by
  unfold State.stage
  split
  · exact .refl s
  · split
    · exact .refl s
    · rename_i idle
      rw [not_ne_iff] at idle
      split
      · exact .refl s
      · rename_i passed
        refine lawsPass_of_table rfl rfl rfl fun fits => { fits with wouldBe := fun e => ?_, staged := h _ passed fits.staged }
        exact nomatch idle.symm.trans e

/-- R40, R42: an apply becomes PENDING where its check has passed. -/
theorem State.lawsPass_applyStaged (p : List Byte) (s : State) : s.LawsPass (s.applyStaged p).1 := by
  unfold State.applyStaged
  split
  · exact .refl s
  · split
    · exact .refl s
    · split
      · exact .refl s
      · split
        · exact .refl s
        · rename_i passed
          exact lawsPass_of_table rfl rfl rfl fun fits => { fits with wouldBe := fun _ => passed }

/-- R192: the live node address takes one that is in range. -/
theorem State.lawsPass_setIdentity (serial : List Byte) {node : Byte} (h : 1 ≤ node.toNat ∧ node.toNat ≤ 254)
    (s : State) : s.LawsPass (s.setIdentity serial node) := by
  refine lawsPass_of_table rfl rfl rfl fun fits => ?_
  have settings : Settings.inRange { s.table.settings with nodeAddress := node } = true := by
    have old := of_decide_eq_true fits.settings
    exact decide_eq_true ⟨h.1, h.2, old.2.2⟩
  exact
    { fits with
      wouldBe := fits.wouldBe
      settings := settings
      store := (fits.store.queueItem (w := .serial serial) rfl).queueItem (w := .settings _) settings }

/-! ## The tick of an apply (R43) -/

/-- R43: the entries of a table with the staged ones laid over them, where both are in range. -/
theorem overlay_some {α : Type} {live : Vector (Option α) 8} {staged : Vector (Option (Option α)) 8} {n : Fin 8} {x : α}
    (h : (overlay live staged)[n] = some x) : live[n] = some x ∨ staged[n] = some (some x) := by
  rw [overlay_get] at h
  cases hst : staged[n] with
  | none => exact .inl (by rwa [hst, Option.getD_none] at h)
  | some y => exact .inr (by rw [hst, Option.getD_some] at h; rw [h])

/-- R43 steps 1 to 4: the staged entries are live and queued, and CONFIG-APPLIED is recorded. -/
def State.applyTold (s : State) : State :=
  let r := forCells (State.replaceDefn s.table.staged) { s with table := s.table.applied }
  let q := { r with store := s.table.staged.writes.foldl (fun q w => q.queueItem w) r.store }
  let t := q.takeRecord (configAppliedReport s.table.applyingSlot s.table.staged.writes.length)
  { t with table := { t.table with applyingSlot := none } }

theorem State.applyNow_eq (s : State) :
    s.applyNow = forCells (State.notifyCell s.table.staged s.guard.defns) s.applyTold := rfl

theorem State.replaceDefns_rest (st : Staged) (s : State) :
    (forCells (State.replaceDefn st) s).table = s.table ∧ (forCells (State.replaceDefn st) s).time = s.time ∧
      (forCells (State.replaceDefn st) s).store = s.store := by
  have one (n : Fin 8) (s : State) : (s.replaceDefn st n).table = s.table ∧ (s.replaceDefn st n).time = s.time ∧
      (s.replaceDefn st n).store = s.store := by
    unfold State.replaceDefn
    split <;> exact ⟨rfl, rfl, rfl⟩
  exact ⟨forCells_keeps (fun s => s.table) _ (fun n s => (one n s).1) s,
    forCells_keeps (fun s => s.time) _ (fun n s => (one n s).2.1) s,
    forCells_keeps (fun s => s.store) _ (fun n s => (one n s).2.2) s⟩

theorem State.applyTold_frame (s : State) :
    s.applyTold.table = { s.table.applied with applyingSlot := none } ∧ s.applyTold.decision = s.decision ∧
      s.applyTold.time = s.time ∧
      ∀ n, s.applyTold.cell n = { s.cell n with defn := (s.table.staged.cells[n]).getD (s.cell n).defn } := by
  obtain ⟨table, time, -⟩ := State.replaceDefns_rest s.table.staged { s with table := s.table.applied }
  obtain ⟨-, -, decision, -⟩ := State.replaceDefns_frame s.table.staged { s with table := s.table.applied }
  refine ⟨?_, ?_, ?_, fun n => ?_⟩
  · simp [State.applyTold, table]
  · simp [State.applyTold, decision]
  · simp [State.applyTold, time]
  · rw [State.cell_congr (t := s.applyTold) (s := forCells (State.replaceDefn s.table.staged)
      { s with table := s.table.applied }) (by simp [State.applyTold]), State.cell_replaceDefns]
    rfl

theorem State.applyTold_store (h : s.store.InRange) (hst : s.table.staged.inRange = true) : s.applyTold.store.InRange := by
  obtain ⟨-, -, store⟩ := State.replaceDefns_rest s.table.staged { s with table := s.table.applied }
  refine (keepsLaws_takeRecord _ _).store ?_
  exact Store.InRange.queueItems (fun w hw => List.all_eq_true.1 hst w hw) (store.symm ▸ h)

/-- R43: the tables after the staged entries are live are those that passed the check. -/
theorem State.TableFits.applyTold (h : s.TableFits) (hp : s.table.apply = .pending) : s.applyTold.TableFits := by
  obtain ⟨table, -, -, cell⟩ := s.applyTold_frame
  obtain ⟨windows, cells, settings⟩ := Staged.inRange_iff.1 h.staged
  have defns : s.applyTold.guard.defns = overlay s.guard.defns s.table.staged.cells :=
    vector_eq_of_get fun n => by rw [State.cell_defns, cell, overlay_get, State.cell_defns]
  constructor
  · rw [table, defns]
    exact h.wouldBe hp
  · rw [table]
    exact fun e => nomatch e
  · rw [table]
    cases hs : s.table.staged.settings with
    | none =>
      simp only [WindowTable.applied, hs, Option.getD_none]
      exact h.settings
    | some v =>
      simp only [WindowTable.applied, hs, Option.getD_some]
      exact settings v hs
  · intro n w hw
    rw [table] at hw
    rcases overlay_some hw with hw | hw
    · exact h.windows n w hw
    · exact windows n w hw
  · intro n d hd
    rw [← State.cell_defns, defns] at hd
    rcases overlay_some hd with hd | hd
    · exact h.cells n d ((s.cell_defns n).symm.trans hd)
    · exact cells n d hd
  · rw [table]
    exact Staged.inRange_empty
  · exact State.applyTold_store h.store h.staged

theorem State.sameTables_notifyCells (st : Staged) (old : Vector (Option CellDef) 8) (s : State) :
    s.SameTables (forCells (State.notifyCell st old) s) := by
  refine forCells_induct (s.SameTables ·) _ (fun n t k => k.trans ?_) s (.refl s)
  unfold State.notifyCell
  split
  · exact .refl t
  · exact sameTables_changeCell ..

theorem State.lawsPass_applyNow (hp : s.table.apply = .pending) : s.LawsPass s.applyNow := by
  obtain ⟨-, decision, time, cell⟩ := s.applyTold_frame
  rw [State.applyNow_eq]
  refine ⟨fun law n => ?_, fun fits clock => ?_⟩
  · refine (forCells_walk (fun rest u => u.ChangesFrom s.table.staged s.guard.defns s.applyTold rest)
      (fun n rest u hn hu => hu.notifyCell hn) _ ⟨.refl _, fun m => ?_, fun m _ => ?_, fun m hm => ?_⟩).done n (by simp)
    · rw [cell, State.cell_defns]
    · rw [cell, State.cell_defns]
      exact law m
    · exact absurd (mem_octOrder m) hm
  · refine (State.sameTables_notifyCells ..).tables (fits.applyTold hp) ?_
    rw [State.ClockLaw, decision, time]
    exact clock

theorem State.keepsLaws_divisorTick (s : State) : s.KeepsLaws s.divisorTick := (keepsLaws_setLink ..).ite

/-- R45: an apply that is no more PENDING. -/
theorem State.lawsPass_applyStored (s : State) : s.LawsPass s.applyStored := by
  refine State.LawsPass.ite (lawsPass_of_table rfl rfl rfl fun fits => ?_)
  exact { fits with wouldBe := fun e => nomatch e }

end
end Sys2Proof.Machine
end

section
namespace Sys2Proof.Machine

/-! ## The load check (R30) -/

section
variable {windows : Vector (Option Window) 8} {dflt : WindowTerms} {cells : Vector (Option CellDef) 8}
  {n m : Fin 8} {d : CellDef}

/-- One cell of the load check. -/
def loadStep (windows : Vector (Option Window) 8) (dflt : WindowTerms) (cells : Vector (Option CellDef) 8)
    (n : Fin 8) : Vector (Option CellDef) 8 :=
  if (cellFailure windows dflt cells n).isSome then cells.set n none else cells

theorem loadCheck_eq : loadCheck windows dflt cells = octOrder.foldl (loadStep windows dflt) cells := rfl

theorem loadStep_get_ne (h : m ≠ n) : (loadStep windows dflt cells n)[m] = cells[m] := by
  have hv : (n : Nat) ≠ m := fun e => h (Fin.ext e.symm)
  unfold loadStep
  split
  · rw [Fin.getElem_fin, Vector.getElem_set_ne _ _ hv]
    rfl
  · rfl

theorem loadStep_get_self : (loadStep windows dflt cells n)[n] = some d ↔
    cells[n] = some d ∧ d.InOne windows dflt ∧ d.Apart cells n := by
  unfold loadStep
  split
  · rename_i fails
    have cleared : (cells.set n none)[n] = none := by simp
    rw [cleared]
    refine ⟨fun e => (nomatch e), fun ⟨hd, passes⟩ => ?_⟩
    have none : cellFailure windows dflt cells n = none :=
      cellFailure_eq_none.2 fun e he => Option.some.inj (hd.symm.trans he) ▸ passes
    rw [none] at fails
    exact nomatch fails
  · rename_i passes
    rw [Bool.not_eq_true, Option.isSome_eq_false_iff, Option.isNone_iff_eq_none, cellFailure_eq_none] at passes
    exact ⟨fun hd => ⟨hd, passes d hd⟩, And.left⟩

/-- What a cell shares with lower ones is a matter of the lower ones. -/
theorem CellDef.apart_congr {cells' : Vector (Option CellDef) 8} (h : ∀ k, k < n → cells'[k] = cells[k]) :
    d.Apart cells' n ↔ d.Apart cells n :=
  forall_congr' fun k => forall_congr' fun _ => forall_congr' fun hk => by rw [h k hk]

/-- The check of some cells in rising order leaves the others, and keeps of them those that pass it. -/
theorem foldl_loadStep {l : List (Fin 8)} (rising : l.Pairwise (· < ·)) (n : Fin 8) :
    (n ∉ l → (l.foldl (loadStep windows dflt) cells)[n] = cells[n]) ∧
      (n ∈ l → ∀ d, (l.foldl (loadStep windows dflt) cells)[n] = some d ↔
        cells[n] = some d ∧ d.InOne windows dflt ∧ d.Apart (l.foldl (loadStep windows dflt) cells) n) := by
  induction l generalizing cells n with
  | nil => exact ⟨fun _ => rfl, fun h => nomatch h⟩
  | cons k l ih =>
    obtain ⟨least, rising⟩ := List.pairwise_cons.1 rising
    rw [List.foldl_cons]
    have rest := ih (cells := loadStep windows dflt cells k) rising
    constructor
    · intro hn
      rw [List.mem_cons, not_or] at hn
      rw [(rest n).1 hn.2, loadStep_get_ne hn.1]
    · intro hn d
      by_cases e : n = k
      · subst e
        have later : ∀ j, j ≤ n → j ∉ l := fun j hj hl => absurd (least j hl) (not_lt.2 hj)
        have lower : ∀ j, j < n → (l.foldl (loadStep windows dflt) (loadStep windows dflt cells n))[j] = cells[j] :=
          fun j hj => by rw [(rest j).1 (later j hj.le), loadStep_get_ne hj.ne]
        rw [(rest n).1 (later n le_rfl), loadStep_get_self, CellDef.apart_congr lower]
      · rw [(rest n).2 ((List.mem_cons.1 hn).resolve_left e) d, loadStep_get_ne e]

/-- R30: a cell is kept exactly where it lies in one window and shares no word with a lower one that is kept. -/
theorem loadCheck_get : (loadCheck windows dflt cells)[n] = some d ↔
    cells[n] = some d ∧ d.InOne windows dflt ∧ d.Apart (loadCheck windows dflt cells) n := by
  rw [loadCheck_eq]
  exact (foldl_loadStep (by decide) n).2 (mem_octOrder n) d

theorem checkTable_loadCheck : checkTable windows dflt (loadCheck windows dflt cells) = none :=
  checkTable_eq_none.2 fun _ _ hd => (loadCheck_get.1 hd).2

end

section
variable {s t u : State} {n : Fin 8}

/-! ## The load of the store (R28 to R30, R94) -/

theorem State.setDefns_rest (cells : Vector (Option CellDef) 8) (s : State) :
    (s.setDefns cells).table = s.table ∧ (s.setDefns cells).time = s.time ∧ (s.setDefns cells).store = s.store :=
  ⟨forCells_keeps (fun s => s.table) _ (by simp) s, forCells_keeps (fun s => s.time) _ (by simp) s,
    forCells_keeps (fun s => s.store) _ (by simp) s⟩

/-- R28, R29: the window table that the load brings, but for the staged copy and the apply. -/
def State.loadedTable (s : State) : WindowTable :=
  let m := s.store.held
  let strapped := WindowTerms.unprovisioned s.start.strap
  if s.provisioned then
    { s.table with
      windows := loadEntries m.windows, dflt := m.dflt.getD strapped, settings := m.settings.getD .unprovisioned }
  else
    { s.table with
      windows := #v[none, none, none, none, none, none, none, none], dflt := strapped, settings := .unprovisioned }

/-- R28 to R30: the cell definitions that the load brings. -/
def State.loadedDefns (s : State) : Vector (Option CellDef) 8 :=
  if s.provisioned then loadCheck s.loadedTable.windows s.loadedTable.dflt (loadEntries s.store.held.cells)
  else #v[none, none, none, none, none, none, none, none]

theorem State.loadTables_eq (s : State) :
    s.loadTables = State.setDefns s.loadedDefns { s with table := s.loadedTable } := by
  unfold State.loadTables State.loadedDefns State.loadedTable
  simp only []
  split <;> rfl

theorem State.cell_loaded (s : State) (n : Fin 8) :
    s.loadTables.cell n = { Cell.disabled with defn := s.loadedDefns[n] } := by
  rw [State.loadTables_eq]
  exact State.cell_setDefns ..

theorem State.loadTables_rest (s : State) : s.loadTables.table = s.loadedTable ∧ s.loadTables.time = s.time ∧
    s.loadTables.store = s.store := by
  rw [State.loadTables_eq]
  exact State.setDefns_rest ..

theorem State.checkTable_loaded (s : State) :
    checkTable s.loadedTable.windows s.loadedTable.dflt s.loadedDefns = none := by
  unfold State.loadedDefns
  split
  · exact checkTable_loadCheck
  · refine checkTable_eq_none.2 fun n d hd => ?_
    fin_cases n <;> exact nomatch hd

theorem Settings.inRange_unprovisioned : Settings.unprovisioned.inRange = true := by decide

/-- The tables that the load brings are in range and pass their check. -/
theorem State.TableFits.loadTables (h : s.TableFits) (idle : s.table.apply = .idle) : s.loadTables.TableFits := by
  obtain ⟨table, -, store⟩ := s.loadTables_rest
  obtain ⟨settings, windows, cells⟩ := Items.inRange_iff.1 h.store.held
  have defn (n : Fin 8) : (s.loadTables.cell n).defn = s.loadedDefns[n] := by rw [State.cell_loaded]
  have defns : s.loadTables.guard.defns = s.loadedDefns := vector_eq_of_get fun n => by rw [State.cell_defns, defn]
  have kept : s.loadedTable.apply = s.table.apply ∧ s.loadedTable.staged = s.table.staged := by
    unfold State.loadedTable
    simp only []
    split <;> exact ⟨rfl, rfl⟩
  constructor
  · rw [table, defns]
    exact s.checkTable_loaded
  · rw [table, kept.1, idle]
    exact fun e => nomatch e
  · rw [table, State.loadedTable]
    split
    · cases hm : s.store.held.settings with
      | none =>
        simp only [Option.getD_none]
        exact Settings.inRange_unprovisioned
      | some v =>
        simp only [Option.getD_some]
        exact settings v hm
    · exact Settings.inRange_unprovisioned
  · intro n w hw
    rw [table, State.loadedTable] at hw
    split at hw
    · rw [loadEntries_get] at hw
      exact windows n w (Option.join_eq_some_iff.1 hw)
    · fin_cases n <;> exact nomatch hw
  · intro n d hd
    rw [defn, State.loadedDefns] at hd
    split at hd
    · have held := (loadCheck_get.1 hd).1
      rw [loadEntries_get] at held
      exact cells n d (Option.join_eq_some_iff.1 held)
    · fin_cases n <;> exact nomatch hd
  · rw [table, kept.2]
    exact h.staged
  · rw [store]
    exact h.store

theorem State.keepsLaws_evidenceCheck (s : State) : s.KeepsLaws s.evidenceCheck := by
  have marked (b : Bool) : s.KeepsLaws { s with log := { s.log with markCopy := b } } := .of_blocks rfl rfl rfl id id
  unfold State.evidenceCheck
  simp only []
  split
  · exact (marked _).trans (keepsLaws_takeRecord ..)
  · exact marked _

/-- The state before the scan reads are requested. -/
def State.loadedPart (s : State) : State :=
  let l := State.loadTables { s with store := s.store.load }
  let e := l.loadGrants.evidenceCheck.loadLockdown
  { e with start := { e.start with phase := .scanning } }

theorem State.finishLoad_eq (s : State) : s.finishLoad = forCells State.scanCell s.loadedPart := rfl

theorem State.keepsLaws_loadedPart (s : State) :
    (State.loadTables { s with store := s.store.load }).KeepsLaws s.loadedPart := by
  have granted (l : State) : l.KeepsLaws l.loadGrants := .of_blocks rfl rfl rfl id id
  have locked (l : State) : l.KeepsLaws l.loadLockdown := .of_blocks rfl rfl rfl id id
  have begun (l : State) : l.KeepsLaws { l with start := { l.start with phase := .scanning } } :=
    .of_blocks rfl rfl rfl id id
  exact (((granted _).trans (keepsLaws_evidenceCheck _)).trans (locked _)).trans (begun _)

theorem State.sameTables_scanCell (n : Fin 8) (s : State) : s.SameTables (s.scanCell n) := by
  unfold State.scanCell
  split
  · exact .refl s
  · refine ⟨rfl, fun m => ?_, rfl, id, id⟩
    rw [State.cell_startInternal]
    split
    · rename_i e
      rw [State.cell_setCell_self, e]
    · rename_i e
      rw [State.cell_setCell, if_neg e]

theorem State.cell_loadedPart (s : State) (n : Fin 8) : s.loadedPart.cell n =
    { Cell.disabled with defn := (State.loadedDefns { s with store := s.store.load })[n] } := by
  obtain ⟨-, -, guard⟩ := (State.loadTables { s with store := s.store.load }).loadGrants.evidenceCheck_frame
  rw [← State.cell_loaded]
  exact State.cell_congr (congrArg CounterGuard.cells guard) n

/-- The scan has still to be started at these cells, which have no live state. -/
structure State.ScanLaws (s : State) (rest : List (Fin 8)) : Prop where
  cells : s.CellLaw
  todo : ∀ n ∈ rest, (s.cell n).live = none

theorem loadedFloor_lt (m : Items) (n : Fin 8) (d : CellDef) : loadedFloor m n d < 2 ^ d.width.bits := by
  have := Nat.two_pow_pos d.width.bits
  simp only [loadedFloor]
  omega

theorem State.cell_scanCell_ne {m : Fin 8} (h : m ≠ n) (s : State) : (s.scanCell n).cell m = s.cell m := by
  unfold State.scanCell
  split
  · rfl
  · rw [State.cell_startInternal, if_neg h, State.cell_setCell, if_neg h]

/-- R94: the scan read of an enabled cell, its floor loaded. -/
theorem State.cell_scanCell_self {d : CellDef} (hd : (s.cell n).defn = some d) : (s.scanCell n).cell n =
    { s.cell n with loadedFloor := some (loadedFloor s.store.held n d), op := some .scanRead } := by
  unfold State.scanCell
  split
  · rename_i e
    exact nomatch e.symm.trans hd
  · rename_i e he
    obtain rfl : d = e := Option.some.inj (hd.symm.trans he)
    rw [State.cell_startInternal, if_pos rfl, State.cell_setCell_self]

theorem State.scanCell_none (hd : (s.cell n).defn = none) : s.scanCell n = s := by
  unfold State.scanCell
  rw [hd]

theorem State.ScanLaws.scanCell {rest : List (Fin 8)} (hn : n ∉ rest) (h : s.ScanLaws (n :: rest)) :
    (s.scanCell n).ScanLaws rest := by
  refine ⟨fun m => ?_, fun m hm => ?_⟩
  · by_cases e : m = n
    · subst e
      cases hd : (s.cell m).defn with
      | none =>
        rw [State.scanCell_none hd]
        exact h.cells m
      | some d =>
        rw [State.cell_scanCell_self hd]
        refine (Cell.lawful_reading (c := { s.cell m with loadedFloor := _, op := some .scanRead }) hd
          (h.todo m (by simp))).2 fun f hf => ?_
        rw [← Option.some.inj hf]
        exact loadedFloor_lt ..
    · rw [State.cell_scanCell_ne e]
      exact h.cells m
  · have e : m ≠ n := fun e => hn (e ▸ hm)
    rw [State.cell_scanCell_ne e]
    exact h.todo m (by simp [hm])

theorem State.cellLaw_finishLoad (s : State) : s.finishLoad.CellLaw := by
  rw [State.finishLoad_eq]
  refine (forCells_walk (fun rest u => u.ScanLaws rest) (fun n rest u hn hu => hu.scanCell hn) _ ⟨?_, fun n _ => ?_⟩).cells
  · refine fun n => ?_
    rw [State.cell_loadedPart]
    exact Cell.lawful_of_none rfl rfl
  · rw [State.cell_loadedPart]
    rfl

theorem State.tables_finishLoad (idle : s.table.apply = .idle) (fits : s.TableFits) (clock : s.ClockLaw) :
    s.finishLoad.TableFits ∧ s.finishLoad.ClockLaw := by
  rw [State.finishLoad_eq]
  have loaded : TableFits { s with store := s.store.load } :=
    { fits with wouldBe := fun e => (nomatch idle.symm.trans e), store := fits.store.load }
  have scanned := forCells_induct (s.loadedPart.SameTables ·) _ (fun n t k => k.trans (sameTables_scanCell n t))
    s.loadedPart (.refl _)
  refine ((keepsLaws_loadedPart s).toSameTables.trans scanned).tables (loaded.loadTables idle) ?_
  obtain ⟨-, time, -⟩ := State.loadTables_rest { s with store := s.store.load }
  obtain ⟨-, -, decision, -⟩ := State.loadTables_frame { s with store := s.store.load }
  rw [State.ClockLaw, decision, time]
  exact clock

end
end Sys2Proof.Machine
end

section
namespace Sys2Proof.Machine

section
variable {s t u : State}

/-! ## The commands of the link -/

/-- A block's effects keep the laws. -/
def Body.PassesLaws (body : Body) : Prop := ∀ (p : List Byte) (s : State), s.LawsPass (body p s).1

theorem State.keepsLaws_completeCommand (a : Answer) (s : State) : s.KeepsLaws (s.completeCommand a) :=
  keepsLaws_setLink ..

theorem Body.PassesLaws.finish {body : Body} (h : body.PassesLaws) (p : List Byte) (s : State) :
    s.LawsPass (State.finish (body p s)) := by
  unfold State.finish
  split
  · exact h p s
  · exact (h p s).then (State.keepsLaws_completeCommand ..)

/-- A command row keeps the laws where its block does. -/
theorem Body.PassesLaws.run {body : Body} (h : body.PassesLaws) (code : Byte) (size : Nat) (s : State) :
    s.LawsPass (s.runCommand code size body) := by
  rcases s.runCommand_cases code size body with e | ⟨a, e⟩ | ⟨p, -, -, e⟩ <;> rw [e]
  · exact .refl s
  · exact (State.keepsLaws_completeCommand ..).pass
  · exact h.finish p s

theorem Body.passesLaws_requestGrant : Body.PassesLaws bodyRequestGrant := fun p s => by
  unfold bodyRequestGrant
  split
  · exact .refl s
  · exact (State.keepsLaws_acceptRequest ..).pass

theorem Body.passesLaws_proveGrant : Body.PassesLaws bodyProveGrant := fun p s => by
  unfold bodyProveGrant
  split
  · exact .refl s
  · split
    · refine State.KeepsLaws.pass ?_
      exact .of_blocks rfl rfl rfl id id
    · exact .refl s

theorem Body.passesLaws_closeGrant : Body.PassesLaws bodyCloseGrant := fun p s => by
  unfold bodyCloseGrant
  split
  · exact .refl s
  · split
    · exact .refl s
    · split
      · exact (State.keepsLaws_endSlot ..).pass
      · exact .refl s

theorem Body.passesLaws_readLog : Body.PassesLaws bodyReadLog := fun p s => by
  unfold bodyReadLog
  split <;> exact .refl s

theorem Body.passesLaws_readCell : Body.PassesLaws bodyReadCell := fun p s => by
  unfold bodyReadCell
  split <;> exact .refl s

theorem Body.passesLaws_readTable : Body.PassesLaws bodyReadTable := fun p s => by
  unfold bodyReadTable
  split <;> exact .refl s

theorem Body.passesLaws_releaseLog : Body.PassesLaws bodyReleaseLog := fun p s => by
  unfold bodyReleaseLog
  split
  · exact .refl s
  · split
    · exact .refl s
    · split
      · exact (State.keepsLaws_releaseLog ..).pass
      · exact .refl s

theorem Body.passesLaws_stageWindow : Body.PassesLaws bodyStageWindow := fun p s =>
  State.lawsPass_stage p (fun st passed => inRange_takesWindow ((stageWindowChecks_examines p).firstBad_eq_none.1 passed)
    (stageWindowWrite_takes ((stageWindowChecks_examines p).firstBad_eq_none.1 passed) st)) s

theorem Body.passesLaws_stageCell : Body.PassesLaws bodyStageCell := fun p s =>
  State.lawsPass_stage p (fun st passed => inRange_takesCell ((stageCellChecks_examines p).firstBad_eq_none.1 passed)
    (stageCellWrite_takes ((stageCellChecks_examines p).firstBad_eq_none.1 passed) st)) s

theorem Body.passesLaws_stageSettings : Body.PassesLaws bodyStageSettings := fun p s =>
  State.lawsPass_stage p (fun st passed => inRange_takesSettings ((checkSettings_examines p).firstBad_eq_none.1 passed)
    (readSettings_takes ((checkSettings_examines p).firstBad_eq_none.1 passed) st)) s

theorem Body.passesLaws_discardStaged : Body.PassesLaws bodyDiscardStaged := fun p s =>
  State.lawsPass_stage p (fun _ _ _ => Staged.inRange_empty) s

theorem Body.passesLaws_resetEcu : Body.PassesLaws bodyResetEcu := fun p s => by
  unfold bodyResetEcu
  split
  · exact .refl s
  · split
    · exact .refl s
    · exact (State.keepsLaws_resetRequestCause s).pass

theorem Body.passesLaws_unlock : Body.PassesLaws bodyUnlock := fun p s => by
  unfold bodyUnlock
  split
  · exact .refl s
  · split
    · exact .refl s
    · split
      · exact (State.keepsLaws_endLockdown ..).pass
      · exact .refl s

theorem Body.PassesLaws.ifUnprovisioned {body : Body} (h : body.PassesLaws) :
    Body.PassesLaws (ifUnprovisioned body) := fun p s => by
  unfold Machine.ifUnprovisioned
  split
  · exact .refl s
  · exact h p s

theorem Body.passesLaws_provisionKey : Body.PassesLaws bodyProvisionKey :=
  Body.PassesLaws.ifUnprovisioned fun p s => by
    split
    · exact .refl s
    · exact (State.keepsLaws_queueItem rfl s).pass

theorem Body.passesLaws_provisionIdentity : Body.PassesLaws bodyProvisionIdentity :=
  Body.PassesLaws.ifUnprovisioned fun p s => by
    split
    · exact .refl s
    · rename_i passed
      simp only [firstBad] at passed
      split at passed
      · split at passed
        · rename_i node
          refine State.lawsPass_setIdentity _ ?_ s
          rw [toNat_byte]
          exact of_decide_eq_true node
        · exact nomatch passed
      · exact nomatch passed

theorem Body.passesLaws_finishProvisioning : Body.PassesLaws bodyFinishProvisioning :=
  Body.PassesLaws.ifUnprovisioned fun p s => by
    split
    · exact .refl s
    · exact (State.keepsLaws_queueItem rfl s).pass

theorem State.keepsLaws_takeResult (p : ProofInFlight) (s : State) : s.KeepsLaws (s.takeResult p) := by
  have stopped : s.KeepsLaws { s with engine := none } := .of_blocks rfl rfl rfl id id
  have settled := stopped.trans (keepsLaws_settleProof p _)
  unfold State.takeResult
  simp only []
  split
  · exact settled.trans (keepsLaws_completeCommand ..)
  · exact settled

/-! ## Time, power-on and start-up (R66, R168, R195) -/

/-- R66: the decay count stays below the decay interval. -/
theorem State.lawsPass_decayed {d : DecisionUnit} {x : Timebase} {o : OutputUnit}
    (hx : s.time.periodCount ≤ 32767 → x.periodCount ≤ 32767)
    (hd : s.table.settings.inRange = true → d.decayCount ≤ 3599) :
    s.LawsPass { s with decision := d, time := x, out := o } where
  cells h := h
  tables fits clock :=
    ⟨{ fits with wouldBe := fits.wouldBe }, hd fits.settings, hx clock.2⟩

theorem State.lawsPass_decayScore (s : State) : s.LawsPass (State.decayScore (s.withTime s.time.takeDecisionSecond)) :=
  lawsPass_decayed Timebase.takeDecisionSecond_periodCount_le fun _ => Nat.zero_le _

theorem State.lawsPass_decayCount (s : State) :
    ∀ t, execDecayCount s = .next t → s.LawsPass t := by
  rintro t ⟨⟩
  simp only []
  split
  · exact lawsPass_decayScore s
  · rename_i early
    refine lawsPass_decayed (o := s.out) Timebase.takeDecisionSecond_periodCount_le fun settings => ?_
    have range := of_decide_eq_true settings
    have early : ¬ s.table.settings.decayInterval ≤ s.decision.decayCount + 1 := by simpa [State.decayDue] using early
    simp only []
    omega

theorem Items.inRange_blank : Items.blank.inRange = true := by decide

/-- R190, R195: power-on reset, with the stored items in range. -/
theorem State.lawsPass_powerOnReset (strap : Bool) (s : State) :
    ∀ t, execPowerOnReset strap s = .next t → s.LawsPass t := by
  rintro t ⟨⟩
  have disabled (n : Fin 8) : (State.fresh s.store.stored strap s.port.busReset s.port.presented).cell n = .disabled := by
    fin_cases n <;> rfl
  have defns : (State.fresh s.store.stored strap s.port.busReset s.port.presented).guard.defns =
      #v[none, none, none, none, none, none, none, none] := vector_eq_of_get fun n => by
    rw [State.cell_defns, disabled]
    fin_cases n <;> rfl
  refine ⟨fun _ n => ?_, fun fits _ => ⟨?_, Nat.zero_le _, Nat.zero_le _⟩⟩
  · exact (congrArg Cell.lawful (disabled n)).trans rfl
  · refine ⟨checkTable_eq_none.2 fun n d hd => ?_, fun e => (nomatch e), Settings.inRange_unprovisioned, fun n w hw => ?_,
      fun n d hd => ?_, Staged.inRange_empty, ?_⟩
    · have hd : (State.fresh s.store.stored strap s.port.busReset s.port.presented).guard.defns[n] = some d := hd
      rw [defns] at hd
      fin_cases n <;> exact nomatch hd
    · fin_cases n <;> exact nomatch hw
    · exact nomatch (congrArg Cell.defn (disabled n)).symm.trans hd
    · exact Store.InRange.queueItem (st := { stored := s.store.stored, held := .blank, queue := [], inFlight := none })
        ⟨fits.store.stored, Items.inRange_blank, fun _ h => nomatch h⟩ rfl

theorem State.keepsLaws_openPart (s : State) : s.KeepsLaws s.openPart := by
  have started : s.KeepsLaws { s with start := { s.start with phase := .running } } := .of_blocks rfl rfl rfl id id
  have opened (v : State) : v.KeepsLaws v.openPort := by
    unfold State.openPort
    split
    · exact keepsLaws_setPort ..
    · exact (keepsLaws_setPort { v.port with state := .idle } v).trans (keepsLaws_takePresented _)
  have shown (v : State) (o : OutputUnit) (l : Link) : v.KeepsLaws { v with out := o, link := l } :=
    .of_blocks rfl rfl rfl id id
  exact (started.trans (opened _)).trans (shown _ _ _)

/-- One guard-clock period. -/
theorem State.keepsLaws_period (s : State) : s.KeepsLaws s.period := by
  refine .of_blocks rfl rfl rfl (fun h => ?_) id
  simp only [State.period]
  split
  · exact Nat.le_of_lt_succ s.time.period_periodCount_lt
  · exact h

/-! ## Every command keeps the laws -/

theorem State.LawsPass.next (h : s.LawsPass t) :
    ∀ u, (Host.Outcome.next t : Host.Outcome State Fault Refusal) = .next u → s.LawsPass u := by
  rintro u ⟨⟩
  exact h

theorem State.KeepsLaws.next (h : s.KeepsLaws t) :
    ∀ u, (Host.Outcome.next t : Host.Outcome State Fault Refusal) = .next u → s.LawsPass u := h.pass.next

/-- R43: the tick of an apply. -/
theorem State.lawsPass_applyTick (wide : Bool) (s : State) :
    ∀ t, execApplyTick wide s = .next t → s.LawsPass t := by
  rintro t ⟨⟩
  have ticked : s.LawsPass (s.withTime s.time.takeTableTick) :=
    (keepsLaws_withTime Timebase.takeTableTick_periodCount_le).pass
  split
  · rename_i pending
    exact ((ticked.trans (lawsPass_applyNow pending)).then (keepsLaws_divisorTick _)).then (keepsLaws_serve ..)
  · exact ticked.then (keepsLaws_serve ..)

/-- Every command but the end of the load, whose tables come from the store. -/
theorem State.lawsPass_exec (i : Instr) (hi : ∀ wide, i ≠ .storeLoadEnd wide) (s : State) :
    ∀ t, exec i s = .next t → s.LawsPass t := by
  have served {u : State} (k : s.KeepsLaws u) (wide : Bool) := (k.trans (keepsLaws_serve wide u)).next
  have link (l : Link) := (keepsLaws_setLink l s).next
  have out (o : OutputUnit) : s.KeepsLaws { s with out := o } := .of_blocks rfl rfl rfl id id
  have reports {body : Body} (code : Byte) (size : Nat) (h : ∀ p s, (body p s).1 = s) :=
    (Body.PassesLaws.run (body := body) (fun p s => (h p s).symm ▸ .refl s) code size s).next
  cases i with
  | processorCycle lines wide => exact served (keepsLaws_presentCycle ..) wide
  | accessEnd data wide => exact served (keepsLaws_endAccess ..) wide
  | accessTimeout wide => exact served (keepsLaws_timeOutAccess _) wide
  | counterTick wide => exact served (keepsLaws_tickGuard _) wide
  | holdExpiry cell wide => exact served (keepsLaws_tickGuard _).ite wide
  | applyTick wide => exact lawsPass_applyTick wide s
  | grantTableSecond => exact (keepsLaws_grantSecond s).next
  | challengeExpiry slot => exact (keepsLaws_grantSecond s).ite.next
  | lifetimeExpired slot => exact (keepsLaws_grantSecond s).ite.next
  | backoffEnd => exact (keepsLaws_grantSecond s).ite.next
  | decayCount => exact lawsPass_decayCount s
  | scoreDecay => exact (lawsPass_decayScore s).ite.next
  | lampStep step =>
    refine State.LawsPass.next (State.KeepsLaws.pass (State.KeepsLaws.ite ?_))
    exact .of_blocks rfl rfl rfl Timebase.takeLampStep_periodCount_le id
  | ignitionSample line =>
    refine State.LawsPass.next (State.KeepsLaws.pass ?_)
    exact .of_blocks rfl rfl rfl Timebase.takeSample_periodCount_le id
  | ignitionOffGrantTable =>
    have taken : s.KeepsLaws { s with ignition := { s.ignition with grantOffs := s.ignition.grantOffs - 1 } } :=
      .of_blocks rfl rfl rfl id id
    refine State.LawsPass.next ?_
    split
    · exact .refl s
    · exact (taken.trans (keepsLaws_forSlots keepsLaws_ignitionOffSlot _)).pass
  | ignitionOffCounterGuard wide => exact served (keepsLaws_ignitionOffGuard s) wide
  | ignitionMirror on =>
    refine State.LawsPass.next (State.KeepsLaws.pass (State.KeepsLaws.ite ?_))
    exact .of_blocks rfl rfl rfl id id
  | alertPulseEnd => exact (out _).next
  | alertGapEnd => exact (out _).next
  | resetRequestPulseEnd => exact (out _).next
  | resetRequestGapEnd => exact (out _).next
  | logRecord report => exact (keepsLaws_takeRecord report s).next
  | storeWriteComplete =>
    have stored : s.KeepsLaws { s with store := s.store.complete } := .of_blocks rfl rfl rfl id Store.InRange.complete
    exact (stored.pass.trans (lawsPass_applyStored _)).next
  | powerOnReset strap => exact lawsPass_powerOnReset strap s
  | scanEnd wide =>
    refine State.LawsPass.next (State.LawsPass.ite ?_)
    exact ((keepsLaws_openPart s).trans (keepsLaws_serve ..)).pass
  | busResetAssert wide => exact served (keepsLaws_assertReset s) wide
  | busResetDeassert wide =>
    exact served ((keepsLaws_setPort { s.port with busReset := false } s).trans (keepsLaws_leaveResetHeld _)) wide
  | gapTimeout => exact link _
  | linkOff => exact link _
  | replySent => exact link _
  | lengthError =>
    refine State.LawsPass.next ?_
    split
    · exact (keepsLaws_completeCommand ..).pass
    · exact .refl s
  | unknown =>
    refine State.LawsPass.next ?_
    split
    · exact .refl s
    · split
      · exact .refl s
      · split <;> exact (keepsLaws_completeCommand ..).pass
  | identify => exact reports codeIdentify 0 fun _ _ => rfl
  | status => exact reports codeStatus 0 fun _ _ => rfl
  | requestGrant => exact (Body.passesLaws_requestGrant.run ..).next
  | proveGrant => exact (Body.passesLaws_proveGrant.run ..).next
  | proofResult =>
    refine State.LawsPass.next ?_
    split
    · exact .refl s
    · exact (keepsLaws_takeResult ..).pass
  | closeGrant => exact (Body.passesLaws_closeGrant.run ..).next
  | listGrants => exact reports codeListGrants 0 fun _ _ => rfl
  | readLog => exact (Body.passesLaws_readLog.run ..).next
  | releaseLog => exact (Body.passesLaws_releaseLog.run ..).next
  | readCell => exact (Body.passesLaws_readCell.run ..).next
  | readTable => exact (Body.passesLaws_readTable.run ..).next
  | stageWindow => exact (Body.passesLaws_stageWindow.run ..).next
  | stageCell => exact (Body.passesLaws_stageCell.run ..).next
  | stageSettings => exact (Body.passesLaws_stageSettings.run ..).next
  | applyStaged => exact (Body.PassesLaws.run lawsPass_applyStaged codeApplyStaged 5 s).next
  | discardStaged => exact (Body.passesLaws_discardStaged.run ..).next
  | resetEcu => exact (Body.passesLaws_resetEcu.run ..).next
  | unlock => exact (Body.passesLaws_unlock.run ..).next
  | provisionKey => exact (Body.passesLaws_provisionKey.run ..).next
  | provisionIdentity => exact (Body.passesLaws_provisionIdentity.run ..).next
  | finishProvisioning => exact (Body.passesLaws_finishProvisioning.run ..).next
  | frameArrival frame => exact link _
  | startBitConfirmed fall => exact link _
  | storeLoadEnd wide => exact absurd rfl (hi wide)

/-- R30, R94: the end of the load. -/
theorem State.cellLaw_storeLoadEnd (wide : Bool) (h : s.CellLaw) :
    ∀ t, exec (.storeLoadEnd wide) s = .next t → t.CellLaw := by
  rintro t ⟨⟩
  split
  · exact (keepsLaws_serve wide s.finishLoad).cells s.cellLaw_finishLoad
  · exact h

/-- R31: no apply is outstanding while the store loads. -/
theorem State.tables_storeLoadEnd (wide : Bool) (fits : s.TableFits) (clock : s.ClockLaw)
    (loading : s.start.phase = .loading → s.table.apply = .idle) :
    ∀ t, exec (.storeLoadEnd wide) s = .next t → t.TableFits ∧ t.ClockLaw := by
  rintro t ⟨⟩
  split
  · rename_i hl
    exact (tables_finishLoad (loading hl) fits clock).elim (keepsLaws_serve wide s.finishLoad).toSameTables.tables
  · exact ⟨fits, clock⟩

theorem State.keepsLaws_takePending (rest : List Instr) (s : State) : s.KeepsLaws { s with pending := rest } :=
  .of_blocks rfl rfl rfl id id

/-- One step is a guard-clock period, the end of the load, or another command. -/
theorem step_cases (h : step s = .next t) : t = s.period ∨
    (∃ wide rest, exec (.storeLoadEnd wide) { s with pending := rest } = .next t) ∨
    ∃ i rest, (∀ wide, i ≠ .storeLoadEnd wide) ∧ exec i { s with pending := rest } = .next t := by
  unfold step at h
  split at h
  · cases h
    exact .inl rfl
  · rename_i c rest _
    by_cases load : ∃ wide, c = .storeLoadEnd wide
    · obtain ⟨wide, rfl⟩ := load
      exact .inr (.inl ⟨wide, rest, h⟩)
    · exact .inr (.inr ⟨c, rest, fun wide e => load ⟨wide, e⟩, h⟩)

end

/-- Settles O11: every command passes the laws on, and the load of the store takes no PENDING apply over. -/
theorem cellLawKept : Obligations.CellLawKept := by
  unfold Obligations.CellLawKept
  refine ⟨fun s t law h => ?_, fun s t traffic tables clock h => ?_⟩
  · have taken (rest : List Instr) := (State.keepsLaws_takePending rest s).cells law
    rcases step_cases h with rfl | ⟨wide, rest, h⟩ | ⟨i, rest, hi, h⟩
    · exact (State.keepsLaws_period s).cells law
    · exact State.cellLaw_storeLoadEnd wide (taken rest) t h
    · exact (State.lawsPass_exec i hi _ t h).cells (taken rest)
  · rw [State.tableLaw_iff] at tables ⊢
    obtain ⟨-, loading, -⟩ := traffic
    have taken (rest : List Instr) := (State.keepsLaws_takePending rest s).pass.tables tables clock
    rcases step_cases h with rfl | ⟨wide, rest, h⟩ | ⟨i, rest, hi, h⟩
    · exact (State.keepsLaws_period s).pass.tables tables clock
    · exact State.tables_storeLoadEnd wide (taken rest).1 (taken rest).2 (fun hl => (loading hl).2.2) t h
    · exact (State.lawsPass_exec i hi _ t h).tables (taken rest).1 (taken rest).2

end Sys2Proof.Machine
end

section
namespace Sys2Proof.Machine

/-! ## The write queue (R45, R191) -/

/-- An item with no entry in the queue joins at the newest end. -/
theorem enqueueItem_new {w : ItemWrite} {q : List ItemWrite} (h : ∀ x ∈ q, x.item ≠ w.item) :
    enqueueItem w q = q ++ [w] := by
  rw [enqueueItem, if_neg]
  simpa using h

/-- The entry of the same item takes the value in place. -/
theorem enqueueItem_same {w x : ItemWrite} {before after : List ItemWrite} (hx : x.item = w.item)
    (h : ∀ y ∈ before ++ after, y.item ≠ w.item) :
    enqueueItem w (before ++ x :: after) = before ++ w :: after := by
  have others {l : List ItemWrite} (hl : ∀ y ∈ l, y ∈ before ++ after) :
      l.map (fun y => if y.item = w.item then w else y) = l :=
    (List.map_congr_left fun y hy => if_neg (h y (hl y hy))).trans (List.map_id l)
  rw [enqueueItem, if_pos (by simp [hx]), List.map_append, List.map_cons, if_pos hx,
    others fun y hy => List.mem_append_left _ hy, others fun y hy => List.mem_append_right _ hy]

/-- R191: while a write is in flight none is started. -/
theorem Store.startNext_busy {st : Store} (h : st.inFlight ≠ none) : st.startNext = st := by
  obtain ⟨w, hw⟩ := Option.ne_none_iff_exists'.1 h
  rw [Store.startNext, hw]

/-- R191: an item queued while a write is in flight. -/
theorem Store.queueItem_busy {st : Store} (h : st.inFlight ≠ none) (w : ItemWrite) :
    st.queueItem w = { st with held := st.held.write w, queue := enqueueItem w st.queue } :=
  Store.startNext_busy (st := { st with held := _, queue := _ }) h

/-- R191: the write in flight completes and the oldest entry starts. -/
theorem Store.complete_eq {st : Store} {w : ItemWrite} (h : st.inFlight = some w) : st.complete =
    { stored := st.stored.write w, held := st.held, queue := st.queue.tail, inFlight := st.queue.head? } := by
  rw [Store.complete, h]
  cases st.queue <;> simp [Store.startNext]

/-- R45: after the completion an item is outstanding where it was queued before. -/
theorem Store.outstanding_complete {st : Store} {w : ItemWrite} (h : st.inFlight = some w) (i : Item) :
    st.complete.outstanding i = true ↔ ∃ x ∈ st.queue, x.item = i := by
  rw [Store.complete_eq h, Store.outstanding]
  cases st.queue with
  | nil => simp
  | cons x rest => simp [or_comm]

/-- R45: the apply has none of its items outstanding once the write in flight has completed. -/
theorem Store.complete_settles {st : Store} {w : ItemWrite} (h : st.inFlight = some w) (items : List Item) :
    items.any st.complete.outstanding = false ↔ ∀ i ∈ items, ∀ x ∈ st.queue, x.item ≠ i := by
  rw [List.any_eq_false]
  refine forall₂_congr fun i _ => ?_
  rw [Store.outstanding_complete h]
  simp

/-- Settles O57: the three ways of queuing, the completion of a write, and the item of each write. -/
theorem storeWrites : Obligations.StoreWrites := by
  unfold Obligations.StoreWrites
  refine ⟨fun w st => ⟨fun idle empty => ?_, fun busy new => ?_, fun before after x busy hq hx others => ?_⟩,
    fun w s hw => ?_, fun m => ?_⟩
  · simp [Store.queueItem, enqueueItem, Store.startNext, idle, empty]
  · rw [Store.queueItem_busy busy, enqueueItem_new new]
  · rw [Store.queueItem_busy busy, hq, enqueueItem_same hx others]
  · have run : exec .storeWriteComplete s = .next (State.applyStored { s with store := s.store.complete }) := rfl
    have completed := Store.complete_eq hw
    simp only [run, State.applyStored, Store.complete_settles hw]
    rw [completed]
    exact ⟨fun done => by rw [if_pos done], fun busy => by rw [if_neg busy]⟩
  · exact ⟨fun _ => ⟨⟨rfl, rfl⟩, ⟨rfl, rfl⟩, ⟨rfl, rfl⟩⟩,
      fun _ => ⟨⟨rfl, rfl⟩, ⟨rfl, rfl⟩, ⟨rfl, rfl⟩, ⟨rfl, rfl⟩⟩, fun _ => ⟨rfl, rfl⟩, fun _ _ => ⟨rfl, rfl⟩,
      fun _ => ⟨rfl, rfl⟩, fun _ _ => ⟨rfl, rfl⟩, fun _ _ => ⟨rfl, rfl⟩, fun _ => ⟨rfl, rfl⟩,
      fun _ => ⟨⟨rfl, rfl⟩, ⟨rfl, rfl⟩, rfl, rfl, rfl⟩⟩

end Sys2Proof.Machine
end

section
namespace Sys2Proof.Machine

/-! ## The decision of a cycle (R48 to R51) -/

/-- R50: a word of cell `n`, enabled in the live definitions, is at byte address `a`. -/
def State.WordOf (s : State) (a : Addr) (n : Fin 8) : Prop :=
  ∃ d : CellDef, (s.cell n).defn = some d ∧ (a = d.address ∨ (d.width = .w32 ∧ a = d.address + 2))

theorem CellDef.mem_words {d : CellDef} {a : Addr} : a ∈ d.words ↔ a = d.address ∨ (d.width = .w32 ∧ a = d.address + 2) := by
  cases h : d.width <;> simp [CellDef.words, h]

theorem CellDef.mem_byteAddresses {d : CellDef} {a : Addr} : a ∈ d.byteAddresses ↔ ∃ b ∈ d.words, a = b ∨ a = b + 1 := by
  simp [CellDef.byteAddresses]

section
variable {s : State} {a : Addr} {n : Fin 8}

/-- R50: whether a word of cell `n` is at byte address `a`, as the lookup tests it. -/
def State.hasWordAt (s : State) (a : Addr) (n : Fin 8) : Bool := ((s.cell n).defn).any fun d => decide (a ∈ d.words)

theorem State.hasWordAt_iff : s.hasWordAt a n = true ↔ s.WordOf a n := by
  rw [State.hasWordAt, Option.any_eq_true, State.WordOf]
  exact exists_congr fun d => and_congr Iff.rfl (by rw [decide_eq_true_iff, CellDef.mem_words])

theorem State.cellAt_eq : s.guard.cellAt a = octOrder.find? (s.hasWordAt a) := by
  refine congrArg (fun p => octOrder.find? p) (funext fun k => ?_)
  have cell : s.guard.cells[k] = s.cell k := rfl
  rw [State.hasWordAt, cell]
  cases (s.cell k).defn <;> rfl

theorem State.cellAt_eq_some : s.guard.cellAt a = some n ↔ s.WordOf a n ∧ ∀ m, m < n → ¬ s.WordOf a m := by
  rw [State.cellAt_eq, find_octOrder_eq_some, State.hasWordAt_iff]
  exact and_congr_right fun _ => forall₂_congr fun m _ => by rw [← Bool.not_eq_true, State.hasWordAt_iff]

theorem State.cellAt_eq_none : s.guard.cellAt a = none ↔ ∀ n, ¬ s.WordOf a n := by
  rw [State.cellAt_eq, find_octOrder_eq_none]
  exact forall_congr' fun n => by rw [← Bool.not_eq_true, State.hasWordAt_iff]

/-- R41, R50: under the law of the live table a word is of one cell at most. -/
theorem State.wordOf_unique (h : s.TableLaw) {m : Fin 8} (hm : m < n) (hn : s.WordOf a n) : ¬ s.WordOf a m := by
  rintro ⟨e, he, ha⟩
  obtain ⟨d, hd, ha'⟩ := hn
  obtain ⟨checked, -⟩ := h
  obtain ⟨-, apart⟩ := checkTable_eq_none.1 checked n d ((s.cell_defns n).trans hd)
  exact apart m e hm ((s.cell_defns m).trans he) a (CellDef.mem_words.2 ha') (CellDef.mem_words.2 ha)

end

/-- Section 1.1: twice a word address is a byte address. -/
theorem toNat_byteAddress (w : WordAddr) : (byteAddress w).toNat = 2 * w.toNat := by
  have : w.toNat < 8388608 := w.isLt
  rw [byteAddress, BitVec.toNat_ofNat]
  omega

section
variable (c : Cycle) (s : State)

theorem State.decisionOf_held (r : Option Right) (h : (s.decisionOf c).right = r) :
    (s.decisionOf c).held = (r.bind fun r => s.grants.holder r (s.decisionOf c).window.id).isSome ∧
      (s.decisionOf c).chargeGrant = r.bind fun r => s.grants.holder r (s.decisionOf c).window.id := by
  subst h
  exact ⟨rfl, rfl⟩

/-- R48, R49: the right, the outcome and the fill check at a word that is no cell word. -/
theorem State.decisionOf_class (h : (s.decisionOf c).cell = none) :
    (s.decisionOf c).right = rightNeeded (s.decisionOf c).window.terms.cls c.kind ∧
      (s.decisionOf c).outcome =
        classOutcome (s.decisionOf c).window.terms.cls c.kind (s.decisionOf c).held ∧
      (s.decisionOf c).fill = if (s.decisionOf c).outcome = .fillCheck then some .reading else none := by
  have h : s.guard.cellAt (byteAddress c.address) = none := h
  simp [State.decisionOf, h]

/-- R50: the right and the outcome at a cell word. -/
theorem State.decisionOf_cell (h : (s.decisionOf c).cell ≠ none) :
    (s.decisionOf c).right = cellRight c.kind ∧
      (s.decisionOf c).outcome = cellOutcome (s.decisionOf c).window.terms.cls c.kind := by
  obtain ⟨n, h⟩ := Option.ne_none_iff_exists'.1 h
  have h : s.guard.cellAt (byteAddress c.address) = some n := h
  simp [State.decisionOf, h]

end

/-- Settles O18: the class table row by row, and the cell words. -/
theorem classTable : Obligations.ClassTable := by
  unfold Obligations.ClassTable
  refine ⟨fun c s => ?_, fun a s => ⟨fun n => State.cellAt_eq_some, State.cellAt_eq_none, fun law n => ?_⟩,
    fun d a => ⟨CellDef.mem_words, CellDef.mem_byteAddresses⟩, toNat_byteAddress⟩
  · refine ⟨rfl, rfl, State.decisionOf_held c s none, fun r hr => State.decisionOf_held c s (some r) hr, fun h => ?_,
      fun h => ?_⟩
    · obtain ⟨right, outcome, fill⟩ := State.decisionOf_class c s h
      refine ⟨fun fetch => ?_, fun read => ?_, fun write => ?_⟩
      · rw [right, outcome, fetch]
        refine ⟨rfl, ?_⟩
        cases (s.decisionOf c).window.terms.cls <;> rfl
      · rw [right, outcome, read]
        refine ⟨fun open_ => ?_, fun priv => ?_⟩
        · simp [rightNeeded, classOutcome, open_]
        · cases (s.decisionOf c).held <;> simp [rightNeeded, classOutcome, priv]
      · rw [fill, right, outcome, write]
        refine ⟨fun cls => ?_, fun cls => ?_, fun cls => ?_, fun cls => ?_, fun cls => ?_⟩ <;> rw [cls]
        · exact ⟨rfl, rfl⟩
        · exact ⟨rfl, rfl⟩
        · exact ⟨rfl, rfl⟩
        · exact ⟨rfl, rfl⟩
        · exact ⟨rfl, rfl, rfl⟩
    · obtain ⟨right, outcome⟩ := State.decisionOf_cell c s h
      rw [right, outcome]
      refine ⟨fun write => ?_, fun read => ?_, fun fetch => ?_⟩
      · rw [write]
        exact ⟨rfl, rfl⟩
      · rw [read]
        exact ⟨rfl, rfl⟩
      · rw [fetch]
        exact ⟨rfl, fun cls => by rw [cls]; rfl, fun cls => by rw [cls]; rfl⟩
  · rw [State.cellAt_eq_some]
    exact ⟨And.left, fun h => ⟨h, fun m hm => State.wordOf_unique law hm h⟩⟩

end Sys2Proof.Machine
end

section
namespace Sys2Proof.Machine

section
variable {n m : Fin 8} {d e : CellDef} {s : State}

/-! ## A change of the live state of one cell (R97, R100) -/

/-- The live state of a cell is another one. -/
def State.setLive (n : Fin 8) (v : Option LiveState) (s : State) : State := s.setCell n { s.cell n with live := v }

theorem State.setCell_comm (h : m ≠ n) (c e : Cell) (s : State) :
    (s.setCell n c).setCell m e = (s.setCell m e).setCell n c := by
  have hv : (n : Nat) ≠ m := fun e => h (Fin.ext e.symm)
  simp only [State.setCell, Vector.set_comm _ _ hv]

/-- A record does not depend on a live state. -/
theorem State.takeRecord_setLive (r : Report) (n : Fin 8) (v : Option LiveState) (s : State) :
    (s.setLive n v).takeRecord r = (s.takeRecord r).setLive n v := by
  have cell : (s.takeRecord r).cell n = s.cell n := State.cell_takeRecord r n s
  have guard : (s.takeRecord r).guard = s.guard := by simp
  rw [State.setLive, State.setLive, cell, State.setCell, State.setCell, guard]
  exact State.takeRecord_with r s.port s.decision _ s.mem s.grants s |>.trans (by simp)

/-- Nor does the request of a new read that waited. -/
theorem State.releaseRead_setLive (w : ReadWait) (m n : Fin 8) (v : Option LiveState) (s : State) :
    (s.setLive n v).releaseRead w m = (s.releaseRead w m).setLive n v := by
  by_cases h : m = n
  · subst h
    have released : ({ s.cell m with live := v } : Cell).released w = { (s.cell m).released w with live := v } := by
      have waits : ({ s.cell m with live := v } : Cell).waits w = (s.cell m).waits w := rfl
      unfold Cell.released
      rw [waits]
      split <;> rfl
    rw [State.releaseRead_eq, State.releaseRead_eq, State.setLive, State.cell_setCell_self, released]
    have cell (q : MemPort) : State.cell { s.setCell m ((s.cell m).released w) with mem := q } m = (s.cell m).released w :=
      State.cell_setCell_self ..
    rw [State.setLive, cell]
    have merged := State.setCell_setCell m { s.cell m with live := v } { (s.cell m).released w with live := v } s
    have merged' := State.setCell_setCell m ((s.cell m).released w) { (s.cell m).released w with live := v } s
    rw [merged]
    exact congrArg (fun u : State => ({ u with
      mem := { s.mem with queue := s.mem.queue ++ ((s.cell m).readRequest w m).toList } } : State)) merged'.symm
  · have cell : (s.setLive n v).cell m = s.cell m := by rw [State.setLive, State.cell_setCell, if_neg h]
    have own (q : MemPort) : State.cell { s.setCell m ((s.cell m).released w) with mem := q } n = s.cell n := by
      exact (State.cell_setCell ..).trans (if_neg fun e => h e.symm)
    rw [State.releaseRead_eq, State.releaseRead_eq, cell, State.setLive, State.setLive, own,
      State.setCell_comm h]
    rfl

theorem State.releaseReads_setLive (n : Fin 8) (v : Option LiveState) (s : State) :
    (s.setLive n v).releaseReads = s.releaseReads.setLive n v := by
  simp only [State.releaseReads, forCells, octOrder, List.foldl, State.releaseRead_setLive]

theorem State.absorbWaiting_setLive (n : Fin 8) (v : Option LiveState) (s : State) :
    (s.setLive n v).absorbWaiting n = (s.absorbWaiting n).setLive n v := by
  have waiting : (s.setLive n v).guard.waitingWrite = s.guard.waitingWrite := rfl
  unfold State.absorbWaiting
  rw [waiting]
  split
  · exact State.releaseReads_setLive n v (State.completed none { s with guard := { s.guard with waitingWrite := none } })
  · rfl

/-- A cell whose live state goes does not show what it was. -/
theorem State.dropLive_setLive (n : Fin 8) (v : Option LiveState) (s : State) :
    (s.setLive n v).setCell n ((s.setLive n v).cell n).dropLive = s.setCell n (s.cell n).dropLive := by
  rw [State.setLive, State.cell_setCell_self, State.setCell_setCell]
  rfl

theorem State.addCell_setLive (n : Fin 8) (v : Option LiveState) (s : State) :
    (s.setLive n v).addCell n = s.addCell n := by
  unfold State.addCell
  rw [State.dropLive_setLive]

/-! ## The steps of a change, as the statement writes them (R97, R100, R101) -/

/-- A pending half is recorded as torn by an apply. -/
def State.tornBy (n : Fin 8) (d : CellDef) (s : State) : State :=
  match (s.cell n).live.bind LiveState.half with
  | none => s
  | some p =>
    s.takeRecord
      { kind := .halfTorn, key := some (.cell n), reason := some .apply
        address := some (match p.half with | .low => d.address | .high => d.address + 2)
        valueA := some (p.value.setWidth 32), valueB := none }

/-- A torn half is recorded, and the live state has lost it. -/
theorem State.tearHalf_apply (n : Fin 8) (d : CellDef) (s : State) :
    ∃ v, s.tearHalf n d .apply = (s.tornBy n d).setLive n v := by
  unfold State.tornBy
  cases h : (s.cell n).live.bind LiveState.half with
  | none => exact ⟨(s.cell n).live, (State.tearHalf_none h d .apply).trans (State.setCell_self n s).symm⟩
  | some p =>
    obtain ⟨v, hv, hp⟩ := Option.bind_eq_some_iff.1 h
    refine ⟨some { v with half := none }, ?_⟩
    rw [State.tearHalf_eq hv hp, tornReport_eq]
    exact State.takeRecord_setLive ..

/-- The live state and the loaded floor go; an operation at the arbiter runs on as one of the old definition. -/
def State.dropped (n : Fin 8) (s : State) : State :=
  let gone : Cell := { s.cell n with live := none, loadedFloor := none, op := none, stale := false }
  match (s.cell n).op with
  | none | some (.newRead .forCycle) | some (.newRead .forTransfer) => s.setCell n gone
  | some o => s.setCell n { gone with op := some o, stale := true }

theorem State.dropped_eq (n : Fin 8) (s : State) : s.dropped n = s.setCell n (s.cell n).dropLive := by
  unfold State.dropped Cell.dropLive
  rcases h : (s.cell n).op with _ | op
  · rfl
  · rcases op with _ | (_ | _ | _) | _ | _ | _ <;> rfl

theorem State.addCell_eq (n : Fin 8) (s : State) :
    s.addCell n = if ((s.dropped n).cell n).op = none then (s.dropped n).startNewRead n else s.dropped n := by
  rw [State.dropped_eq]
  rfl

theorem State.removeCell_eq (n : Fin 8) (d : CellDef) (s : State) :
    s.removeCell n d = (((s.tornBy n d).absorbWaiting n).dropped n).queueItem (.floor n none) := by
  obtain ⟨v, hv⟩ := State.tearHalf_apply n d s
  rw [State.removeCell, hv, State.absorbWaiting_setLive, State.dropped_eq]
  simp only [State.dropLive_setLive]

theorem State.moveCell_eq (n : Fin 8) (d : CellDef) (s : State) :
    s.moveCell n d = ((s.tornBy n d).absorbWaiting n).addCell n := by
  obtain ⟨v, hv⟩ := State.tearHalf_apply n d s
  rw [State.moveCell, hv, State.absorbWaiting_setLive, State.addCell_setLive]

theorem retunedCredit_eq (a b : CellMode) (x : Nat) : retunedCredit a b x =
    match a, b with
    | .rate _ _, .rate _ cap => min x (cap * 65536)
    | .rate _ _, .monotonic => 0
    | .monotonic, _ => 0 := by
  cases a <;> cases b <;> rfl

theorem State.retuneCell_none (h : (s.cell n).live = none) : s.retuneCell n d e = s := by
  rw [State.retuneCell, State.modifyLive, h]
  change s.setCell n { s.cell n with live := none } = s
  rw [← h]
  exact State.setCell_self n s

theorem State.retuneCell_live {v : LiveState} (h : (s.cell n).live = some v) : s.retuneCell n d e =
    s.setCell n { s.cell n with live := some { v with credit := retunedCredit d.mode e.mode v.credit } } := by
  rw [State.retuneCell, State.modifyLive, h]
  rfl

end

/-- Settles O37: each kind of change, its pending half and its live state going together. -/
theorem changedCells : Obligations.ChangedCells := by
  unfold Obligations.ChangedCells
  intro n old new s t torn absorbed dropped renewed
  refine ⟨fun e ho hn => ?_, fun d ho hn => ?_, fun d e ho hn moved => ?_, fun d e ho hn ha hw hm => ⟨fun hv => ?_, fun v hv => ?_⟩,
    fun same => ?_⟩
  · subst ho hn
    exact State.addCell_eq n s
  · subst ho hn
    exact State.removeCell_eq n d s
  · subst ho hn
    exact (State.changeCell_moved moved s).trans ((State.moveCell_eq n d s).trans (State.addCell_eq ..))
  · subst ho hn
    exact (State.changeCell_retuned ha hw hm s).trans (State.retuneCell_none hv)
  · subst ho hn
    have credit := retunedCredit_eq d.mode e.mode v.credit
    exact (State.changeCell_retuned ha hw hm s).trans ((State.retuneCell_live hv).trans
      (congrArg (fun x : Nat => s.setCell n { s.cell n with live := some { v with credit := x } }) credit))
  · subst same
    exact State.changeCell_same old s

end Sys2Proof.Machine
end

section
namespace Sys2Proof.Machine

section
variable {n : Fin 8} {s : State}

/-! ## What the changes of the cells leave of the link (R44) -/

theorem State.addCell_link (n : Fin 8) (s : State) : (s.addCell n).link = s.link := by
  unfold State.addCell
  simp only []
  split <;> simp

theorem State.absorbWaiting_link (n : Fin 8) (s : State) : (s.absorbWaiting n).link = s.link := by
  unfold State.absorbWaiting
  split <;> simp

theorem State.tornBy_link (n : Fin 8) (d : CellDef) (s : State) : (s.tornBy n d).link = s.link := by
  unfold State.tornBy
  split <;> simp

theorem State.changeCell_link (n : Fin 8) (old new : Option CellDef) (s : State) :
    (s.changeCell n old new).link = s.link := by
  rcases cellChange_cases old new with rfl | ⟨e, rfl, rfl⟩ | ⟨d, rfl, rfl⟩ | ⟨d, e, rfl, rfl, h⟩ | ⟨d, e, rfl, rfl, ha, hw, hm⟩
  · rw [State.changeCell_same]
  · exact State.addCell_link n s
  · rw [State.changeCell_removed, State.removeCell_eq, State.dropped_eq]
    exact (State.absorbWaiting_link ..).trans (State.tornBy_link ..)
  · rw [State.changeCell_moved h, State.moveCell_eq, State.addCell_link, State.absorbWaiting_link, State.tornBy_link]
  · rw [State.changeCell_retuned ha hw hm]
    rfl

/-! ## The tick of an apply (R43, R46) -/

/-- A record does not depend on the slot that an apply names. -/
theorem State.takeRecord_applyingSlot (r : Report) (x : Option (Fin 4)) (s : State) :
    { s.takeRecord r with table := { (s.takeRecord r).table with applyingSlot := x } } =
      State.takeRecord r { s with table := { s.table with applyingSlot := x } } := by
  unfold State.takeRecord State.reportAlarm State.markAfter
  split <;> rfl

/-- The replacement of the cell definitions changes the cells alone. -/
theorem State.replaceDefns_eq (st : Staged) (s : State) : forCells (State.replaceDefn st) s =
    { s with guard := { s.guard with cells := (forCells (State.replaceDefn st) s).guard.cells } } := by
  have rest := forCells_keeps
    (fun t : State => { t with guard := { t.guard with cells := (forCells (State.replaceDefn st) s).guard.cells } })
    (State.replaceDefn st) (fun n t => by unfold State.replaceDefn; split <;> rfl) s
  exact rest

/-- R43: the part with the staged entries live, queued and recorded, as one state. -/
theorem State.applyTold_eq (s : State) : s.applyTold = State.takeRecord
    (configAppliedReport s.table.applyingSlot s.table.staged.writes.length)
    { s with
      table := { s.table.applied with applyingSlot := none }
      guard := { s.guard with
        cells := (forCells (State.replaceDefn s.table.staged) { s with table := s.table.applied }).guard.cells }
      store := s.table.staged.writes.foldl (fun q w => q.queueItem w) s.store } := by
  unfold State.applyTold
  simp only []
  rw [State.takeRecord_applyingSlot, State.replaceDefns_eq]

/-- R46, R133: a tick that has made the live divisor 0 turns a link at rest OFF, and one within a frame at its end. -/
theorem State.divisorTick_eq (s : State) : s.divisorTick = { s with link :=
    if s.table.settings.divisor ≠ 0 ∨ s.link.receiver = .off then s.link
    else if s.link.line.busy = true ∨ s.link.sending = true then { s.link with offDue := true }
    else { s.link with
      receiver := .off, buffer := if s.link.receiver = .receiving then none else s.link.buffer, reply := none
      offDue := false } } := by
  unfold State.divisorTick
  by_cases zero : s.table.settings.divisor = 0
  · by_cases off : s.link.receiver = .off
    · simp [zero, off, Link.turnOff]
    · simp [zero, off, Link.turnOff, Link.goOff]
  · simp [zero]

theorem State.notifyCells_eq (st : Staged) (s t : State) : forCells (State.notifyCell st s.guard.defns) t =
    octOrder.foldl
      (fun u n => match st.cells[n] with | none => u | some d => u.changeCell n (s.cell n).defn d) t := by
  refine congrArg (fun f => octOrder.foldl f t) (funext fun u => funext fun n => ?_)
  unfold State.notifyCell
  cases st.cells[n] with
  | none => rfl
  | some d => exact congrArg (fun old => u.changeCell n old d) (s.cell_defns n)

theorem State.notifyCells_link (st : Staged) (old : Vector (Option CellDef) 8) (s : State) :
    (forCells (State.notifyCell st old) s).link = s.link :=
  forCells_keeps (fun s => s.link) _ (fun n s => by
    unfold State.notifyCell
    split
    · rfl
    · exact State.changeCell_link ..) s

/-- The items of the entries of one kind are in the order of the kind. -/
theorem sublist_entries {α : Type} (f : Fin 8 → Option α) (g : Fin 8 → α → ItemWrite) {h : Fin 8 → Item}
    (item : ∀ n x, (g n x).item = h n) (l : List (Fin 8)) :
    ((l.filterMap fun n => (f n).map (g n)).map ItemWrite.item).Sublist (l.map h) := by
  induction l with
  | nil => exact .slnil
  | cons n l ih =>
    cases hf : f n with
    | none =>
      rw [List.filterMap_cons_none (by rw [hf]; rfl), List.map_cons]
      exact ih.cons _
    | some x =>
      rw [List.filterMap_cons_some (by rw [hf]; rfl), List.map_cons, List.map_cons, item]
      exact ih.cons_cons _

theorem sublist_entry {α : Type} (v : Option α) {g : α → ItemWrite} {i : Item} (item : ∀ x, (g x).item = i) :
    ((v.map g).toList.map ItemWrite.item).Sublist [i] := by
  cases v with
  | none => exact List.nil_sublist _
  | some x => simp [item]

/-- R43: the items of the staged entries, in the order of the windows, the default window, the cells and the settings. -/
theorem Staged.items_sublist (st : Staged) : (st.writes.map ItemWrite.item).Sublist
    (octOrder.map (fun n => Item.window (.numbered n)) ++ Item.window .dflt :: octOrder.map Item.cellDef ++
      [Item.settings]) := by
  have windows := sublist_entries (fun n => st.windows[n]) ItemWrite.window (fun _ _ => rfl) octOrder
  have dflt := sublist_entry st.dflt (g := ItemWrite.dflt) fun _ => rfl
  have cells := sublist_entries (fun n => st.cells[n]) ItemWrite.cellDef (fun _ _ => rfl) octOrder
  have settings := sublist_entry st.settings (g := ItemWrite.settings) fun _ => rfl
  rw [Staged.writes, List.map_append, List.map_append, List.map_append,
    List.append_cons (octOrder.map fun n => Item.window (.numbered n))]
  exact ((windows.append dflt).append cells).append settings

/-- R43, R46: the tick of a PENDING apply. -/
theorem State.applyNow_divisorTick (s : State) : s.applyNow.divisorTick =
    { s.applyNow with link :=
      if s.table.applied.settings.divisor ≠ 0 ∨ s.link.receiver = .off then s.link
      else if s.link.line.busy = true ∨ s.link.sending = true then { s.link with offDue := true }
      else { s.link with
        receiver := .off, buffer := if s.link.receiver = .receiving then none else s.link.buffer, reply := none
        offDue := false } } := by
  have settings : s.applyNow.table.settings = s.table.applied.settings := by
    rw [State.applyNow_eq, (State.sameTables_notifyCells ..).table, s.applyTold_frame.1]
  have link : s.applyNow.link = s.link := by
    rw [State.applyNow_eq, State.notifyCells_link, State.applyTold_eq]
    simp
  rw [State.divisorTick_eq, settings, link]

end

/-- Settles O36: the tick takes effect on a PENDING apply alone, in the steps of R43. -/
theorem applyTick : Obligations.ApplyTick := by
  unfold Obligations.ApplyTick
  intro wide s st s1
  refine ⟨fun idle => ?_, fun w => Staged.mem_writes, Staged.items_sublist st, fun pending => ?_⟩
  · have run : exec (.applyTick wide) s =
        .next ((if s.table.apply = .pending then s1.applyNow.divisorTick else s1).serve wide) := rfl
    rw [run, if_neg idle]
  · refine ⟨overlay s.table.windows st.windows,
      (forCells (State.replaceDefn st) { s1 with table := s1.table.applied }).guard.cells, overlay_get _ _,
      State.cell_replaceDefns st { s1 with table := s1.table.applied }, ?_⟩
    have run : exec (.applyTick wide) s =
        .next ((if s.table.apply = .pending then s1.applyNow.divisorTick else s1).serve wide) := rfl
    rw [run, if_pos pending, State.applyNow_divisorTick, State.applyNow_eq, State.applyTold_eq,
      State.notifyCells_eq]
    rfl

end Sys2Proof.Machine
end

section
namespace Sys2Proof.Machine

/-! ## Reports to the mirrors (R158, R185) -/

section
variable {st : Settings} {o : OutputUnit}

/-- R185: before started is yes an evaluation leaves both lamps dark. -/
theorem OutputUnit.evaluate_dark (h : o.started = false) : (o.evaluate st).LampsDark := by
  simp [OutputUnit.evaluate, OutputUnit.setDrivers, OutputUnit.driven, driverLevel, LampPattern.litAt, Lamp.dark, h]

theorem OutputUnit.reportLockdown_eq (b : Bool) : o.reportLockdown st b = { o with
    lockdownMirror := b, workshopLamp := (o.reportLockdown st b).workshopLamp
    tamperLamp := (o.reportLockdown st b).tamperLamp } := by
  unfold OutputUnit.reportLockdown
  split
  · rename_i h
    rw [← h]
  · rfl

theorem OutputUnit.reportAlarm_eq (b : Bool) : o.reportAlarm st b = { o with
    alarmMirror := b, workshopLamp := (o.reportAlarm st b).workshopLamp
    tamperLamp := (o.reportAlarm st b).tamperLamp } := by
  unfold OutputUnit.reportAlarm
  split
  · rename_i h
    rw [← h]
  · rfl

theorem OutputUnit.reportLockdown_dark (h : o.started = false) (dark : o.LampsDark) (b : Bool) :
    (o.reportLockdown st b).LampsDark := by
  unfold OutputUnit.reportLockdown
  split
  · exact dark
  · exact OutputUnit.evaluate_dark (o := { o with lockdownMirror := b }) h

theorem OutputUnit.reportAlarm_dark (h : o.started = false) (dark : o.LampsDark) (b : Bool) :
    (o.reportAlarm st b).LampsDark := by
  unfold OutputUnit.reportAlarm
  split
  · exact dark
  · exact OutputUnit.evaluate_dark (o := { o with alarmMirror := b }) h

end

section
variable {s : State} {n : Fin 8} {d : CellDef}

/-! ## The load, as whole states (R28 to R30, R69, R106, R164) -/

theorem State.setDefns_eq (cells : Vector (Option CellDef) 8) (s : State) :
    s.setDefns cells = { s with guard := { s.guard with cells := (s.setDefns cells).guard.cells } } := by
  have rest (x : Vector Cell 8) : ({ s.setDefns cells with guard := { (s.setDefns cells).guard with cells := x } } : State) =
      { s with guard := { s.guard with cells := x } } :=
    forCells_keeps (fun t : State => ({ t with guard := { t.guard with cells := x } } : State)) _ (by simp [State.setCell]) s
  exact rest (s.setDefns cells).guard.cells

/-- The load of the tables changes the window table and the cells. -/
theorem State.loadTables_whole (s : State) : s.loadTables =
    { s with table := s.loadedTable, guard := { s.guard with cells := s.loadTables.guard.cells } } := by
  rw [State.loadTables_eq]
  exact State.setDefns_eq ..

/-- R164: without the mark there is no record. -/
theorem State.evidenceCheck_clear (h : s.store.held.logMark ≠ some true) :
    s.evidenceCheck = { s with log := { s.log with markCopy := false } } := by
  have clear : s.store.held.logMark.getD false = false := by
    rcases hm : s.store.held.logMark with _ | _ | _ <;> simp_all
  simp [State.evidenceCheck, clear]

/-- R164: with the mark EVIDENCE-LOST is recorded. -/
theorem State.evidenceCheck_marked (h : s.store.held.logMark = some true) : s.evidenceCheck =
    State.takeRecord (evidenceReport (s.store.held.powerOnCount.getD 0))
      { s with log := { s.log with markCopy := true } } := by
  simp [State.evidenceCheck, h]

/-- A record taken with the mark copy set queues no item. -/
theorem State.takeRecord_marked (r : Report) (h : s.log.markCopy = true) : s.takeRecord r =
    { s with log := (s.takeRecord r).log, out := (s.takeRecord r).out } := by
  have store : (s.takeRecord r).store = s.store := by
    rw [State.takeRecord_store, if_neg (by simp [h])]
  have rest := State.takeRecord_rest r (s.takeRecord r).log (s.takeRecord r).out (s.takeRecord r).store s
  rw [store] at rest
  rw [← rest]
  exact congrArg (fun x => { s.takeRecord r with store := x }) store

theorem State.evidenceCheck_eq (s : State) :
    s.evidenceCheck = { s with log := s.evidenceCheck.log, out := s.evidenceCheck.out } := by
  by_cases h : s.store.held.logMark = some true
  · rw [State.evidenceCheck_marked h]
    exact State.takeRecord_marked (s := { s with log := { s.log with markCopy := true } }) _ rfl
  · rw [State.evidenceCheck_clear h]

/-- EVIDENCE-LOST is the first record of an empty log. -/
theorem State.evidenceCheck_log (h : s.store.held.logMark = some true) (empty : s.log.records = [])
    (first : s.log.nextSeq = 1) : s.evidenceCheck.log =
      { records :=
          [{ sequence := 1, seconds := s.time.seconds, repeats := 1
             report :=
              { kind := .evidenceLost, key := none, reason := none, address := none
                valueA := some (s.store.held.powerOnCount.getD 0), valueB := none } }]
        nextSeq := 2, dropped := s.log.dropped, markCopy := true, alarm := true } := by
  have appended (r : Report) : Log.caseOf r { s.log with markCopy := true } = .appended := by
    simp [Log.caseOf, Log.coalescesWith, Log.exhausted, empty, first, Config.logCapacity]
  rw [State.evidenceCheck_marked h, State.takeRecord_log]
  simp only [Log.take, appended]
  simp [Log.append, Log.stamp, empty, first, evidenceReport, LogRecord.severity, RecordKind.severity, Config.logCapacity]

/-- R158: where EVIDENCE-LOST was recorded the alarm indication was reported. -/
theorem State.evidenceCheck_out (h : s.store.held.logMark = some true) :
    s.evidenceCheck.out = s.out.reportAlarm s.table.settings s.evidenceCheck.log.alarm := by
  rw [State.evidenceCheck_marked h]
  exact State.takeRecord_out ..

theorem State.evidenceCheck_out_eq (s : State) : s.evidenceCheck.out = { s.out with
    alarmMirror := s.evidenceCheck.out.alarmMirror, workshopLamp := s.evidenceCheck.out.workshopLamp
    tamperLamp := s.evidenceCheck.out.tamperLamp } := by
  by_cases h : s.store.held.logMark = some true
  · rw [State.evidenceCheck_out h, OutputUnit.reportAlarm_eq]
  · rw [State.evidenceCheck_clear h]

theorem State.evidenceCheck_dark (started : s.out.started = false) (dark : s.out.LampsDark) :
    s.evidenceCheck.out.LampsDark := by
  by_cases h : s.store.held.logMark = some true
  · rw [State.evidenceCheck_out h]
    exact OutputUnit.reportAlarm_dark started dark _
  · rw [State.evidenceCheck_clear h]
    exact dark

/-! ## The scan reads (R94) -/

/-- The request of the scan read of a cell with a definition. -/
def scanRequest (n : Fin 8) (defn : Option CellDef) : Option Request :=
  defn.map fun d => cellRequest d .read 0 (.internal n) none

/-- A cell with a definition has its floor loaded and its scan read in flight. -/
def Cell.scanBegun (m : Items) (n : Fin 8) (c : Cell) : Cell :=
  match c.defn with
  | none => c
  | some d => { c with loadedFloor := some (Machine.loadedFloor m n d), op := some .scanRead }

theorem Cell.scanBegun_none {c : Cell} (h : c.defn = none) (m : Items) (n : Fin 8) : c.scanBegun m n = c := by
  unfold Cell.scanBegun
  rw [h]

theorem Cell.scanBegun_some {c : Cell} (h : c.defn = some d) (m : Items) (n : Fin 8) : c.scanBegun m n =
    { c with loadedFloor := some (Machine.loadedFloor m n d), op := some .scanRead } := by
  unfold Cell.scanBegun
  split
  · rename_i e
    exact nomatch e.symm.trans h
  · rename_i e he
    obtain rfl : d = e := Option.some.inj (h.symm.trans he)
    rfl

theorem Cell.scanBegun_defn (m : Items) (n : Fin 8) (c : Cell) : (c.scanBegun m n).defn = c.defn := by
  unfold Cell.scanBegun
  split <;> rfl

theorem State.scanCell_some (h : (s.cell n).defn = some d) : s.scanCell n =
    (s.setCell n { s.cell n with loadedFloor := some (loadedFloor s.store.held n d) }).startInternal n d .read 0
      .scanRead := by
  unfold State.scanCell
  split
  · rename_i e
    exact nomatch e.symm.trans h
  · rename_i e he
    obtain rfl : d = e := Option.some.inj (h.symm.trans he)
    rfl

theorem State.scanCell_eq (n : Fin 8) (s : State) : s.scanCell n =
    { s.setCell n ((s.cell n).scanBegun s.store.held n) with
      mem := { s.mem with queue := s.mem.queue ++ (scanRequest n (s.cell n).defn).toList } } := by
  cases hd : (s.cell n).defn with
  | none =>
    rw [State.scanCell_none hd, Cell.scanBegun_none hd, State.setCell_self]
    simp [scanRequest]
  | some d =>
    rw [State.scanCell_some hd, Cell.scanBegun_some hd, State.startInternal, State.setOp, State.cell_setCell_self,
      State.setCell_setCell]
    rfl

/-- Where the scan of the cells stands: those to come are as they were, the others have begun, and the requests made and
to come are those of all. -/
structure State.Scanning (s first : State) (rest : List (Fin 8)) : Prop where
  frame : s = { first with
    guard := { first.guard with cells := s.guard.cells }, mem := { first.mem with queue := s.mem.queue } }
  todo : ∀ n ∈ rest, s.cell n = first.cell n
  done : ∀ n, n ∉ rest → s.cell n = (first.cell n).scanBegun first.store.held n
  queue : s.mem.queue ++ rest.filterMap (fun n => scanRequest n (first.cell n).defn) =
    first.mem.queue ++ octOrder.filterMap fun n => scanRequest n (first.cell n).defn

theorem State.Scanning.scanCell {first : State} {rest : List (Fin 8)} (hn : n ∉ rest)
    (h : s.Scanning first (n :: rest)) : (s.scanCell n).Scanning first rest := by
  have here := h.todo n (by simp)
  have held : s.store.held = first.store.held := by rw [h.frame]
  have cell (m : Fin 8) : (s.scanCell n).cell m =
      if m = n then (first.cell n).scanBegun first.store.held n else s.cell m := by
    rw [State.scanCell_eq, here, held]
    exact State.cell_setCell ..
  refine ⟨?_, fun m hm => ?_, fun m hm => ?_, ?_⟩
  · rw [State.scanCell_eq]
    have frame := h.frame
    generalize ((s.cell n).scanBegun s.store.held n) = c
    generalize (s.mem.queue ++ (scanRequest n (s.cell n).defn).toList) = q
    have mem : s.mem = { first.mem with queue := s.mem.queue } := by rw [h.frame]
    have rest : { s with guard := { s.guard with cells := s.guard.cells.set n c }, mem := { s.mem with queue := q } } =
        { first with
          guard := { first.guard with cells := s.guard.cells.set n c }, mem := { first.mem with queue := q } } :=
      congrArg (fun t : State => { t with
        guard := { t.guard with cells := s.guard.cells.set n c }, mem := { t.mem with queue := q } }) frame
    exact rest
  · rw [cell, if_neg fun e : m = n => hn (e ▸ hm)]
    exact h.todo m (by simp [hm])
  · rw [cell]
    split
    · rename_i e
      rw [e]
    · rename_i e
      exact h.done m (by simp [e, hm])
  · rw [← h.queue, State.scanCell_eq, here]
    cases hr : scanRequest n (first.cell n).defn with
    | none => simp [hr]
    | some r => simp [hr]

/-- R94: the part once every scan read has been requested. -/
theorem State.scanCells_scanning (s : State) : (forCells State.scanCell s).Scanning s [] :=
  forCells_walk (fun rest u => u.Scanning s rest) (fun _ _ _ hn hu => hu.scanCell hn) s
    ⟨rfl, fun _ _ => rfl, fun n hn => absurd (mem_octOrder n) hn, rfl⟩

/-! ## The end of the load (R195) -/

/-- The part with its tables, its grants and their counts loaded, before the evidence check. -/
def State.loadedGrants (s : State) : State := (State.loadTables { s with store := s.store.load }).loadGrants

theorem State.loadedGrants_eq (s : State) : s.loadedGrants = { s with
    store := s.store.load
    table := State.loadedTable { s with store := s.store.load }
    guard := { s.guard with cells := s.loadedGrants.guard.cells }
    grants := { s.grants with
      failed := (s.store.load.held.failedCount.getD 0).toNat
      backoff := backoffFor (s.store.load.held.failedCount.getD 0).toNat
      counter := s.store.load.held.challengeCounter.getD 0 } } :=
  congrArg State.loadGrants (State.loadTables_whole { s with store := s.store.load })

/-- R195 steps 2 to 4: the part before the scan reads are requested, as one state. -/
theorem State.loadedPart_eq (s : State) : s.loadedPart = { s with
    start := { s.start with phase := .scanning }
    store := s.store.load
    table := State.loadedTable { s with store := s.store.load }
    guard := { s.guard with cells := s.loadedGrants.guard.cells }
    decision := { s.decision with lockdown := s.store.load.held.lockdownMark.getD false }
    grants := { s.grants with
      failed := (s.store.load.held.failedCount.getD 0).toNat
      backoff := backoffFor (s.store.load.held.failedCount.getD 0).toNat
      counter := s.store.load.held.challengeCounter.getD 0 }
    log := s.loadedGrants.evidenceCheck.log
    out := s.loadedGrants.evidenceCheck.out.reportLockdown (State.loadedTable { s with store := s.store.load }).settings
      (s.store.load.held.lockdownMark.getD false) } := by
  have evidence := s.loadedGrants.evidenceCheck_eq
  have grants := s.loadedGrants_eq
  have begun : s.loadedPart = { s.loadedGrants.evidenceCheck.loadLockdown with
      start := { s.loadedGrants.evidenceCheck.loadLockdown.start with phase := .scanning } } := rfl
  rw [begun]
  generalize s.loadedGrants.evidenceCheck.log = l at evidence ⊢
  generalize s.loadedGrants.evidenceCheck.out = o at evidence ⊢
  generalize s.loadedGrants.guard.cells = c at grants ⊢
  rw [evidence, grants]
  rfl

theorem State.loadedTable_kept (s : State) : s.loadedTable = { s.loadedTable with
    staged := s.table.staged, apply := s.table.apply, applyingSlot := s.table.applyingSlot
    applyItems := s.table.applyItems } := by
  unfold State.loadedTable
  simp only []
  split <;> rfl

section
variable (h : s.store.held.provisionedMark = some true)
include h

theorem State.loadedTable_provisioned : s.loadedTable = { s.table with
    windows := loadEntries s.store.held.windows
    dflt := s.store.held.dflt.getD (WindowTerms.unprovisioned s.start.strap)
    settings := s.store.held.settings.getD .unprovisioned } := by
  simp [State.loadedTable, State.provisioned, h]

theorem State.loadedDefns_provisioned : s.loadedDefns =
    loadCheck s.loadedTable.windows s.loadedTable.dflt (loadEntries s.store.held.cells) := by
  simp [State.loadedDefns, State.provisioned, h]

end

section
variable (h : s.store.held.provisionedMark ≠ some true)
include h

theorem State.loadedTable_unprovisioned : s.loadedTable = { s.table with
    windows := #v[none, none, none, none, none, none, none, none]
    dflt := WindowTerms.unprovisioned s.start.strap, settings := .unprovisioned } := by
  simp [State.loadedTable, State.provisioned, h]

theorem State.loadedDefns_unprovisioned : s.loadedDefns = #v[none, none, none, none, none, none, none, none] := by
  simp [State.loadedDefns, State.provisioned, h]

end

theorem empty_get {α : Type} (n : Fin 8) :
    (#v[none, none, none, none, none, none, none, none] : Vector (Option α) 8)[n] = none := by fin_cases n <;> rfl

/-- The store with its items loaded. -/
def State.loaded (s : State) : State := { s with store := s.store.load }

theorem State.finishLoad_table (s : State) : s.finishLoad.table = s.loaded.loadedTable := by
  rw [State.finishLoad_eq, s.loadedPart.scanCells_scanning.frame, State.loadedPart_eq]
  rfl

theorem State.finishLoad_log (s : State) : s.finishLoad.log = s.loadedGrants.evidenceCheck.log := by
  rw [State.finishLoad_eq, s.loadedPart.scanCells_scanning.frame, State.loadedPart_eq]

theorem State.finishLoad_out (s : State) : s.finishLoad.out =
    s.loadedGrants.evidenceCheck.out.reportLockdown s.loaded.loadedTable.settings
      (s.store.load.held.lockdownMark.getD false) := by
  rw [State.finishLoad_eq, s.loadedPart.scanCells_scanning.frame, State.loadedPart_eq]
  rfl

/-- A cell after the load: its definition kept, its floor loaded and its scan read in flight. -/
theorem State.finishLoad_cell (s : State) (n : Fin 8) : s.finishLoad.cell n =
    ({ Cell.disabled with defn := s.loaded.loadedDefns[n] } : Cell).scanBegun s.store.load.held n := by
  have held : s.loadedPart.store.held = s.store.load.held := by rw [State.loadedPart_eq]
  rw [State.finishLoad_eq, s.loadedPart.scanCells_scanning.done n (by simp), State.cell_loadedPart, held]
  rfl

theorem State.finishLoad_defn (s : State) (n : Fin 8) : (s.finishLoad.cell n).defn = s.loaded.loadedDefns[n] := by
  rw [State.finishLoad_cell, Cell.scanBegun_defn]

theorem State.finishLoad_queue (s : State) : s.finishLoad.mem.queue =
    s.mem.queue ++ octOrder.filterMap fun n => scanRequest n (s.finishLoad.cell n).defn := by
  have queue := s.loadedPart.scanCells_scanning.queue
  have mem : s.loadedPart.mem = s.mem := by rw [State.loadedPart_eq]
  have defn (n : Fin 8) : (s.loadedPart.cell n).defn = (s.finishLoad.cell n).defn := by
    rw [State.finishLoad_defn, State.cell_loadedPart]
    rfl
  simpa only [List.filterMap_nil, List.append_nil, mem, defn, ← State.finishLoad_eq] using queue

/-- R195 steps 2 to 5: the part once the store has loaded, as one state. -/
theorem State.finishLoad_whole (s : State) : s.finishLoad = { s with
    start := { s.start with phase := .scanning }
    store := s.store.load
    table := { s.finishLoad.table with
      staged := s.table.staged, apply := s.table.apply, applyingSlot := s.table.applyingSlot
      applyItems := s.table.applyItems }
    guard := { s.finishLoad.guard with waitingWrite := s.guard.waitingWrite }
    decision := { s.decision with lockdown := s.store.load.held.lockdownMark.getD false }
    grants := { s.grants with
      failed := (s.store.load.held.failedCount.getD 0).toNat
      backoff := backoffFor (s.store.load.held.failedCount.getD 0).toNat
      counter := s.store.load.held.challengeCounter.getD 0 }
    mem := { s.mem with
      queue := s.mem.queue ++ octOrder.filterMap fun n => scanRequest n (s.finishLoad.cell n).defn }
    log := s.finishLoad.log
    out := s.finishLoad.out } := by
  have frame := s.loadedPart.scanCells_scanning.frame
  rw [← State.finishLoad_eq, State.loadedPart_eq] at frame
  have kept := s.loaded.loadedTable_kept
  rw [← State.finishLoad_queue, State.finishLoad_table, State.finishLoad_log, State.finishLoad_out]
  have table : ({ s.loaded.loadedTable with
      staged := s.table.staged, apply := s.table.apply, applyingSlot := s.table.applyingSlot
      applyItems := s.table.applyItems } : WindowTable) = s.loaded.loadedTable := kept.symm
  rw [table]
  exact frame

/-! ## The output unit after the load (R158, R185) -/

theorem State.loadedGrants_out (s : State) : s.loadedGrants.out = s.out ∧ s.loadedGrants.log = s.log ∧
    s.loadedGrants.time = s.time ∧ s.loadedGrants.store = s.store.load := by
  rw [State.loadedGrants_eq]
  exact ⟨rfl, rfl, rfl, rfl⟩

theorem State.finishLoad_alarm (s : State) : s.finishLoad.out.alarmMirror = s.loadedGrants.evidenceCheck.out.alarmMirror := by
  rw [State.finishLoad_out, OutputUnit.reportLockdown_eq]

/-- Only the two mirrors and the lamps change. -/
theorem State.finishLoad_mirrors (s : State) : s.finishLoad.out = { s.out with
    lockdownMirror := s.store.load.held.lockdownMark.getD false, alarmMirror := s.finishLoad.out.alarmMirror
    workshopLamp := s.finishLoad.out.workshopLamp, tamperLamp := s.finishLoad.out.tamperLamp } := by
  have evidence := s.loadedGrants.evidenceCheck_out_eq
  rw [s.loadedGrants_out.1] at evidence
  have alarm := s.finishLoad_alarm
  have lockdown := OutputUnit.reportLockdown_eq (o := s.loadedGrants.evidenceCheck.out)
    (st := s.loaded.loadedTable.settings) (s.store.load.held.lockdownMark.getD false)
  rw [← State.finishLoad_out] at lockdown
  rw [alarm]
  generalize s.loadedGrants.evidenceCheck.out = o at evidence lockdown ⊢
  generalize s.finishLoad.out = u at lockdown ⊢
  rw [evidence] at lockdown
  exact lockdown

section
variable (s : State)

/-- R164: without the mark neither the log nor the alarm mirror changes. -/
theorem State.finishLoad_clear (h : s.store.load.held.logMark ≠ some true) :
    s.finishLoad.log = { s.log with markCopy := false } ∧ s.finishLoad.out.alarmMirror = s.out.alarmMirror := by
  obtain ⟨out, log, -, store⟩ := s.loadedGrants_out
  have clear := State.evidenceCheck_clear (s := s.loadedGrants) (by rw [store]; exact h)
  rw [State.finishLoad_log, State.finishLoad_alarm, clear, log, out]
  exact ⟨rfl, rfl⟩

/-- R158: with the mark the alarm indication was reported. -/
theorem State.finishLoad_marked (h : s.store.load.held.logMark = some true) :
    s.finishLoad.out.alarmMirror = s.finishLoad.log.alarm := by
  obtain ⟨-, -, -, store⟩ := s.loadedGrants_out
  rw [State.finishLoad_log, State.finishLoad_alarm, State.evidenceCheck_out (by rw [store]; exact h),
    OutputUnit.reportAlarm_eq]

theorem State.finishLoad_dark (started : s.out.started = false) (dark : s.out.LampsDark) :
    s.finishLoad.out.LampsDark := by
  obtain ⟨out, -⟩ := s.loadedGrants_out
  rw [← out] at started dark
  rw [State.finishLoad_out]
  refine OutputUnit.reportLockdown_dark ?_ (State.evidenceCheck_dark started dark) _
  rw [State.evidenceCheck_out_eq]
  exact started

end

theorem join_getD {α : Type} (x : Option (Option α)) : x.join = x.getD none := by cases x <;> rfl

theorem loadedFloor_eq (m : Items) (n : Fin 8) (d : CellDef) : loadedFloor m n d =
    min ((m.floors[n]).getD 0) (match d.width with | .w16 => 65535 | .w32 => 4294967295) := by
  unfold loadedFloor
  cases d.width <;> rfl

end

/-- Settles O58: the load of the tables, the grants, the evidence check, the lockdown state and the scan, in turn. -/
theorem storeLoadEnds : Obligations.StoreLoadEnds := by
  unfold Obligations.StoreLoadEnds
  intro wide s
  have run : exec (.storeLoadEnd wide) s =
      .next (if s.start.phase = .loading then s.finishLoad.serve wide else s) := rfl
  refine ⟨fun done => by rw [run, if_neg done], fun loading => ⟨s.finishLoad, by rw [run, if_pos loading], ?_⟩⟩
  intro blank disabled loaded m strapped n
  have table := s.finishLoad_table
  have defn := s.finishLoad_defn
  have cell := s.finishLoad_cell
  refine ⟨s.finishLoad_whole, fun unprovisioned => ?_, fun provisioned => ?_, fun clear => (s.finishLoad_clear clear).1,
    fun marked empty first => ?_, s.finishLoad_mirrors, fun clear => (s.finishLoad_clear clear).2, s.finishLoad_marked,
    fun law => ?_, s.finishLoad_dark⟩
  · have off (k : Fin 8) : s.loaded.loadedDefns[k] = none := by
      rw [State.loadedDefns_unprovisioned (s := s.loaded) unprovisioned, empty_get]
    rw [table, State.loadedTable_unprovisioned (s := s.loaded) unprovisioned]
    refine ⟨rfl, rfl, empty_get, fun k => ?_⟩
    rw [cell, off, Cell.scanBegun_none rfl]
    rfl
  · have entries := State.loadedTable_provisioned (s := s.loaded) provisioned
    have kept := State.loadedDefns_provisioned (s := s.loaded) provisioned
    refine ⟨by rw [table, entries]; rfl, by rw [table, entries]; rfl, fun k => ?_, fun k off => ?_, fun k d on => ?_,
      fun k d => ?_⟩
    · rw [table, entries]
      exact (loadEntries_get _ k).trans (join_getD _)
    · rw [defn] at off
      rw [cell, off, Cell.scanBegun_none rfl]
      rfl
    · rw [defn] at on
      rw [cell, on, Cell.scanBegun_some rfl, loadedFloor_eq]
      rfl
    · simp only [defn, table, kept]
      rw [loadCheck_get, loadEntries_get, Option.join_eq_some_iff]
      rfl
  · obtain ⟨-, log, time, store⟩ := s.loadedGrants_out
    rw [State.finishLoad_log, State.evidenceCheck_log (by rw [store]; exact marked) (by rw [log]; exact empty)
      (by rw [log]; exact first), time, store, log]
    rfl
  · by_cases mark : s.store.load.held.logMark = some true
    · exact s.finishLoad_marked mark
    · obtain ⟨log, alarm⟩ := s.finishLoad_clear mark
      obtain ⟨-, -, -, -, agrees⟩ := law
      rw [log, alarm]
      exact agrees

end Sys2Proof.Machine
end

section
namespace Sys2Proof.Machine

section
variable {l : Link} {node : Byte} {r : FrameResult} {f : FrameBits} {fr : Framing} {m : MessageBuffer}

/-! ## The message receiver (R135 to R138) -/

theorem Link.arrival_busy (closed : l.receiver ≠ .listening) (shut : l.receiver ≠ .receiving) :
    l.arrival node r f = l := by
  unfold Link.arrival
  cases h : l.receiver with
  | listening => exact absurd h closed
  | receiving => exact absurd h shut
  | _ => rfl

theorem Link.arrival_passed (h : l.receiver = .listening) (data : f.mark = false) : l.arrival node r f = l := by
  unfold Link.arrival
  rw [h]
  simp [data]

theorem Link.arrival_address (h : l.receiver = .listening ∨ l.receiver = .receiving) (mark : f.mark = true) :
    l.arrival node r f = l.addressFrame node r f.data := by
  unfold Link.arrival
  rcases h with h | h <;> rw [h] <;> simp [mark]

theorem Link.arrival_bad (h : l.receiver = .receiving) (data : f.mark = false) (bad : r ≠ .good ∨ l.buffer = none) :
    l.arrival node r f = l.discard := by
  unfold Link.arrival
  rw [h]
  cases e : l.buffer with
  | none => simp [data]
  | some m =>
    rw [e] at bad
    simp only [data, reduceCtorEq, or_false] at bad ⊢
    exact if_neg bad

theorem Link.arrival_data (h : l.receiver = .receiving) (data : f.mark = false) (good : r = .good)
    (buffer : l.buffer = some m) : l.arrival node r f = l.dataFrame f.data m := by
  unfold Link.arrival
  rw [h]
  simp [data, good, buffer]

theorem Link.addressFrame_discard {b : Byte} (h : r ≠ .good ∨ (b ≠ node ∧ b ≠ 255)) :
    l.addressFrame node r b = l.discard := by
  have own : ¬ (r = .good ∧ b = node) := fun ⟨good, e⟩ => h.elim (· good) (·.1 e)
  have all : ¬ (r = .good ∧ b = 255) := fun ⟨good, e⟩ => h.elim (· good) (·.2 e)
  unfold Link.addressFrame
  rw [if_neg own, if_neg all]

theorem MessageBuffer.takeByte_taken (b : Byte) (len : Nat) : (m.takeByte b len).taken = m.taken + 1 := by
  unfold MessageBuffer.takeByte
  cases m.command with
  | none => rfl
  | some _ => simp only []; split <;> rfl

theorem Link.dataFrame_length {b : Byte} (first : m.length = none) (low : 2 ≤ b.toNat) (high : b.toNat ≤ 62) :
    l.dataFrame b m = { l with buffer := some { m with length := some b.toNat, gap := 0 } } := by
  unfold Link.dataFrame
  split
  · exact if_pos ⟨low, high⟩
  · rename_i len later
    exact nomatch first.symm.trans later

theorem Link.dataFrame_lengthError {b : Byte} (first : m.length = none) (outside : b.toNat < 2 ∨ 62 < b.toNat) :
    l.dataFrame b m =
      { l with receiver := .executing, buffer := some { m with gap := 0 }, execution := some (.lengthError b) } := by
  unfold Link.dataFrame
  split
  · exact if_neg (by omega)
  · rename_i len later
    exact nomatch first.symm.trans later

/-- R136: a byte after the length, in one equation. -/
theorem Link.dataFrame_later {b : Byte} {len : Nat} (later : m.length = some len) : l.dataFrame b m =
    if len ≤ m.taken + 1 then
      { l with receiver := .executing, buffer := some (m.takeByte b len), execution := some .handOver }
    else { l with buffer := some (m.takeByte b len) } := by
  unfold Link.dataFrame
  split
  · rename_i first
    exact nomatch first.symm.trans later
  · rename_i len' found
    cases found.symm.trans later
    exact if_congr (by rw [MessageBuffer.takeByte_taken]) rfl rfl

/-! ## What the message receiver leaves to the line -/

theorem Link.addressFrame_with (x : LineReceiver) (b : Bool) :
    Link.addressFrame node r f.data { l with line := x, offDue := b } =
      { l.addressFrame node r f.data with line := x, offDue := b } := by
  unfold Link.addressFrame Link.discard
  split_ifs <;> rfl

theorem Link.dataFrame_with (x : LineReceiver) (b : Bool) : Link.dataFrame f.data m { l with line := x, offDue := b } =
    { l.dataFrame f.data m with line := x, offDue := b } := by
  unfold Link.dataFrame
  cases m.length with
  | none => simp only []; split_ifs <;> rfl
  | some len => simp only []; split_ifs <;> rfl

/-- The message receiver looks at neither the line nor the mark of a divisor made 0. -/
theorem Link.arrival_with (x : LineReceiver) (b : Bool) : Link.arrival node r f { l with line := x, offDue := b } =
    { l.arrival node r f with line := x, offDue := b } := by
  have here {l' : Link} (before : l.arrival node r f = l')
      (after : Link.arrival node r f { l with line := x, offDue := b } = { l' with line := x, offDue := b }) :
      Link.arrival node r f { l with line := x, offDue := b } = { l.arrival node r f with line := x, offDue := b } := by
    rw [before, after]
  by_cases open_ : l.receiver = .listening ∨ l.receiver = .receiving
  · cases mark : f.mark with
    | true =>
      have after : Link.arrival node r f { l with line := x, offDue := b } = _ := Link.arrival_address open_ mark
      exact here (Link.arrival_address open_ mark) (after.trans (Link.addressFrame_with x b))
    | false =>
      rcases open_ with listening | receiving
      · exact here (Link.arrival_passed listening mark) (Link.arrival_passed listening mark)
      · by_cases bad : r ≠ .good ∨ l.buffer = none
        · exact here (Link.arrival_bad receiving mark bad) (Link.arrival_bad receiving mark bad)
        · obtain ⟨good, kept⟩ := not_or.mp bad
          obtain ⟨m, buffer⟩ := Option.ne_none_iff_exists'.mp kept
          have good := not_not.mp good
          have after : Link.arrival node r f { l with line := x, offDue := b } = _ :=
            Link.arrival_data receiving mark good buffer
          exact here (Link.arrival_data receiving mark good buffer) (after.trans (Link.dataFrame_with x b))
  · obtain ⟨closed, shut⟩ := not_or.mp open_
    exact here (Link.arrival_busy closed shut) (Link.arrival_busy closed shut)

/-! ## The end of a frame (R132, R133) -/

/-- R132: without a frame being received nothing arrives. -/
theorem Link.frameEnd_none (h : l.receiver = .off ∨ l.line.busy = false) : l.frameEnd node f = l := by
  unfold Link.frameEnd
  split
  · rfl
  · rename_i fr line notOff
    rcases h with off | idle
    · exact (notOff off).elim
    · rw [line] at idle
      exact nomatch idle
  · rfl

/-- R132, R133: the frame is judged by the framing of its start and handed over, and its end is a frame boundary. -/
theorem Link.frameEnd_inFrame (on : l.receiver ≠ .off) (h : l.line = .inFrame fr) : l.frameEnd node f =
    (Link.arrival node (frameResult fr f) f { l with line := lineAfter (frameResult fr f) }).boundary := by
  unfold Link.frameEnd
  split
  · rename_i off
    exact absurd off on
  · rename_i fr' line _
    cases h.symm.trans line
    rfl
  · rename_i none
    exact absurd h (none fr)

/-- R132: the link after a frame where no tick has made the divisor 0. -/
theorem Link.frameEnd_eq (on : l.receiver ≠ .off) (h : l.line = .inFrame fr) (due : l.offDue = false) :
    l.frameEnd node f =
      { l.arrival node (frameResult fr f) f with line := lineAfter (frameResult fr f), offDue := false } := by
  have whole := Link.arrival_with (l := l) (node := node) (r := frameResult fr f) (f := f)
    (lineAfter (frameResult fr f)) false
  have same : ({ l with line := lineAfter (frameResult fr f) } : Link) =
      { l with line := lineAfter (frameResult fr f), offDue := false } := by rw [← due]
  rw [Link.frameEnd_inFrame on h, same, whole]
  exact Link.boundary_of_not_due rfl

/-- R133: and where one has: OFF at the end of the frame. -/
theorem Link.frameEnd_due (on : l.receiver ≠ .off) (h : l.line = .inFrame fr) (due : l.offDue = true) :
    l.frameEnd node f = Link.goOff (Link.frameEnd node f { l with offDue := false }) := by
  have whole (b : Bool) := Link.arrival_with (l := l) (node := node) (r := frameResult fr f) (f := f)
    (lineAfter (frameResult fr f)) b
  have same : ({ l with line := lineAfter (frameResult fr f) } : Link) =
      { l with line := lineAfter (frameResult fr f), offDue := true } := by rw [← due]
  rw [Link.frameEnd_inFrame on h, same, whole, Link.boundary_of_due rfl,
    Link.frameEnd_inFrame (l := { l with offDue := false }) on h, whole, Link.boundary_of_not_due rfl]
  rfl

/-! ## The result of a frame (R131, R132) -/

/-- The high bits of a byte are the ones among its first bits. -/
theorem countHigh_eq (b : Byte) : ∀ k : Nat, countHigh b k = ((List.range k).map b.getLsbD).count true
  | 0 => rfl
  | k + 1 => by
    rw [countHigh, countHigh_eq b k, List.range_succ, List.map_append, List.count_append]
    cases h : b.getLsbD k <;> simp [h, Nat.add_comm]

theorem highBits_eq (f : FrameBits) :
    highBits f = ([f.mark, f.parity] ++ (List.range 8).map f.data.getLsbD).count true := by
  rw [highBits, countHigh_eq, List.count_append]
  cases f.mark <;> cases f.parity <;> simp +arith

theorem stopBitsHigh_iff (n : StopBits) (f : FrameBits) :
    stopBitsHigh n f = true ↔ f.stop1 = true ∧ (n = .two → f.stop2 = true) := by
  cases n <;> simp [stopBitsHigh]

theorem parityAgrees_eq_false (m : ParityMode) (f : FrameBits) : parityAgrees m f = false ↔
    (m = .even ∧ highBits f % 2 = 1) ∨ (m = .odd ∧ highBits f % 2 = 0) := by
  cases m <;> simp [parityAgrees]

theorem frameResult_framingError : frameResult fr f = .framingError ↔
    f.stop1 = false ∨ (fr.stopBits = .two ∧ f.stop2 = false) := by
  have low : frameResult fr f = .framingError ↔ ¬ stopBitsHigh fr.stopBits f = true := by
    unfold frameResult
    split_ifs <;> simp_all
  rw [low, stopBitsHigh_iff, not_and_or, Classical.not_imp]
  simp

theorem frameResult_parityError : frameResult fr f = .parityError ↔
    f.stop1 = true ∧ (fr.stopBits = .two → f.stop2 = true) ∧
      ((fr.parityMode = .even ∧ highBits f % 2 = 1) ∨ (fr.parityMode = .odd ∧ highBits f % 2 = 0)) := by
  rw [← parityAgrees_eq_false, ← and_assoc, ← stopBitsHigh_iff]
  unfold frameResult
  split_ifs <;> simp_all

end

/-- Settles O47: each receiver state with what it does of a frame, whose line and end are the same in all. -/
theorem frameArrivals : Obligations.FrameArrivals := by
  unfold Obligations.FrameArrivals
  have run (f : FrameBits) (s : State) : exec (.frameArrival f) s =
      .next { s with link := s.link.frameEnd s.table.settings.nodeAddress f } := rfl
  refine ⟨fun f s none => ?_, fun f l s due on busy arrived => ?_, fun f fr s inFrame due => ?_,
    fun fr f => ⟨frameResult_framingError, frameResult_parityError⟩, highBits_eq⟩
  · rw [run, Link.frameEnd_none none]
  · obtain ⟨fr, inFrame⟩ : ∃ fr, s.link.line = .inFrame fr := by
      cases h : s.link.line with
      | inFrame fr => exact ⟨fr, rfl⟩
      | _ => rw [h] at busy; exact nomatch busy
    have arrived : Link.frameEnd s.table.settings.nodeAddress f { s.link with offDue := false } = l :=
      congrArg State.link (Host.Outcome.next.inj arrived)
    rw [run, Link.frameEnd_due on inFrame due, arrived]
    rfl
  · intro r line arrives opens shut
    have arrives_of {l : Link} (on : s.link.receiver ≠ .off) (e : s.link.arrival s.table.settings.nodeAddress r f = l)
        (keeps : l.offDue = false) : arrives l := by
      have ended := Link.frameEnd_eq (node := s.table.settings.nodeAddress) (f := f) on inFrame due
      have link : s.link.frameEnd s.table.settings.nodeAddress f = { l with line := line } := by
        rw [ended, e, ← keeps]
        rfl
      exact (run f s).trans (congrArg (fun x => Host.Outcome.next { s with link := x }) link)
    refine ⟨fun busy => ?_, fun listening data => ?_, fun open_ mark => ?_, fun receiving data => ?_⟩
    · have away (x : Receiver) (e : x ≠ .executing) (e' : x ≠ .replying) : s.link.receiver ≠ x :=
        fun same => busy.elim (fun h => e (same.symm.trans h)) fun h => e' (same.symm.trans h)
      exact arrives_of (away .off nofun nofun)
        (Link.arrival_busy (away .listening nofun nofun) (away .receiving nofun nofun)) due
    · exact arrives_of (by simp [listening]) (Link.arrival_passed listening data) due
    · have on : s.link.receiver ≠ .off := by rcases open_ with e | e <;> simp [e]
      have address := Link.arrival_address (node := s.table.settings.nodeAddress) (r := r) open_ mark
      refine ⟨fun good own => ?_, fun good other all => ?_, fun neither => ?_⟩
      · exact arrives_of on (address.trans (if_pos ⟨good, own⟩)) due
      · exact arrives_of on (address.trans ((if_neg fun h => other h.2).trans (if_pos ⟨good, all⟩))) due
      · exact arrives_of on (address.trans (Link.addressFrame_discard neither)) due
    · have on : s.link.receiver ≠ .off := by simp [receiving]
      refine ⟨fun bad => arrives_of on (Link.arrival_bad receiving data (.inl bad)) due, fun m buffer good => ?_⟩
      have taken := Link.arrival_data (node := s.table.settings.nodeAddress) receiving data good buffer
      refine ⟨fun first low high => ?_, fun first outside => ?_, fun len later => ?_⟩
      · exact arrives_of on (taken.trans (Link.dataFrame_length first low high)) due
      · exact arrives_of on (taken.trans (Link.dataFrame_lengthError first outside)) due
      · have next := taken.trans (Link.dataFrame_later later)
        refine ⟨fun more => ?_, fun last => ?_⟩
        · exact arrives_of on (next.trans (if_neg (by omega))) due
        · exact arrives_of on (next.trans (if_pos last)) due

end Sys2Proof.Machine
end

section
namespace Sys2Proof

/-! ## The layouts of section 6.5 in the part's own forms -/

theorem toLe_eq_number (k n : Nat) : toLe k n = Machine.Layout.number k n := by
  induction k generalizing n with
  | zero => rfl
  | succ k ih =>
    have digit (i : Nat) : n / 256 / 256 ^ i = n / 256 ^ (i + 1) := by rw [Nat.div_div_eq_div_mul, Nat.pow_succ']
    simp [toLe, ih, Machine.Layout.number, List.range_succ_eq_map, digit]

theorem toLe_one (n : Nat) : toLe 1 n = [BitVec.ofNat 8 n] := rfl

namespace Machine

theorem zeros_eq (k : Nat) : zeros k = toLe k 0 := by
  induction k with
  | zero => rfl
  | succ k ih => exact congrArg (List.cons 0) ih

namespace Layout

theorem bytes_nil : Layout.bytes [] = [] := rfl

theorem bytes_cons (k n : Nat) (rest : List (Nat × Nat)) :
    Layout.bytes ((k, n) :: rest) = toLe k n ++ Layout.bytes rest := by
  rw [toLe_eq_number]
  rfl

theorem bytes_append (a b : List (Nat × Nat)) : Layout.bytes (a ++ b) = Layout.bytes a ++ Layout.bytes b :=
  List.flatMap_append

/-! ### The codes -/

theorem flagByte_eq (b : Bool) : flagByte b = BitVec.ofNat 8 (Layout.flag b) := by cases b <;> rfl

theorem level_eq (l : Level) : l.byteCode = Layout.levelCode l := by cases l <;> rfl

theorem class_eq (c : WindowClass) : c.byteCode = Layout.classCode c := by cases c <;> rfl

theorem width_eq (w : WindowWidth) : w.byteCode = Layout.widthCode w := by cases w <;> rfl

theorem ready_eq (r : ReadyMode) : r.byteCode = Layout.readyCode r := by cases r <;> rfl

theorem deny_eq (d : DenyResponse) : d.byteCode = Layout.denyCode d := by cases d <;> rfl

theorem parity_eq (m : ParityMode) : m.byteCode = Layout.parityCode m := by cases m <;> rfl

theorem stop_eq (n : StopBits) : n.byteCode = Layout.stopCode n := by cases n <;> rfl

theorem polarity_eq (p : LampPolarity) : p.byteCode = Layout.polarityCode p := by cases p <;> rfl

theorem kind_eq (k : RecordKind) : k.byteCode = BitVec.ofNat 8 (Layout.kindCode k).1 := by cases k <;> rfl

theorem severity_eq (k : RecordKind) : k.severity.byteCode = (Layout.kindCode k).2 := by cases k <;> rfl

theorem key_eq : ∀ k : RecordKey, k.byteCode = BitVec.ofNat 8 (Layout.keyCode (some k))
  | .window (.numbered _) => rfl
  | .window .dflt => rfl
  | .cell _ => rfl
  | .slot _ => rfl
  | .device _ => rfl

theorem reason_eq (r : Report) : reasonByte r = BitVec.ofNat 8 (Layout.reasonCode r.kind r.reason) := by
  unfold reasonByte Layout.reasonCode
  cases r.reason with
  | none => by_cases h : r.kind = .counterSet <;> simp [h]
  | some x =>
    cases x with
    | level l => exact congrArg (BitVec.ofNat 8) (level_eq l)
    | _ => rfl

/-! ### The blocks -/

theorem window_eq (w : Option Window) : windowBlock w = Layout.bytes (Layout.window w) := by
  cases w with
  | none => simp [windowBlock, Layout.window, zeros_eq, bytes_cons, bytes_nil]
  | some w =>
    simp [windowBlock, windowBytes, Layout.window, Layout.terms, toLe_one, bytes_cons, bytes_nil, flagByte_eq,
      class_eq, width_eq, ready_eq, deny_eq, Layout.flag]

theorem dflt_eq (t : WindowTerms) : defaultBlock t = Layout.bytes (Layout.dflt t) := by
  have front : toLe 8 0 = 0 :: (toLe 3 0 ++ toLe 4 0) := rfl
  simp [defaultBlock, windowBytes, Layout.dflt, Layout.terms, toLe_one, bytes_cons, bytes_nil, flagByte_eq,
    class_eq, width_eq, ready_eq, deny_eq, Layout.flag, front]

theorem cell_eq (d : Option CellDef) : cellBlock d = Layout.bytes (Layout.cell d) := by
  cases d with
  | none => simp [cellBlock, Layout.cell, zeros_eq, bytes_cons, bytes_nil]
  | some d =>
    obtain ⟨width, address, mode⟩ := d
    cases width <;> cases mode <;>
      simp [cellBlock, Layout.cell, zeros_eq, toLe_one, bytes_cons, bytes_nil, flagByte_eq, Layout.flag]

theorem settings_eq (v : Settings) : settingsBlock v = Layout.bytes (Layout.settings v) := by
  simp [settingsBlock, Layout.settings, toLe_one, bytes_cons, bytes_nil, flagByte_eq, parity_eq, stop_eq, polarity_eq]

theorem slot_eq (x : Slot) : x.entry = Layout.bytes (Layout.slot x) := by
  cases x <;>
    simp [Slot.entry, Layout.slot, zeros_eq, toLe_one, bytes_cons, bytes_nil, flagByte_eq, level_eq, allowanceBytes]

theorem record_eq (r : LogRecord) : r.bytes = Layout.bytes (Layout.record r) := by
  unfold LogRecord.bytes Layout.record
  cases r.report.key with
  | none => simp [toLe_one, bytes_cons, bytes_nil, kind_eq, severity_eq, reason_eq, Layout.keyCode]
  | some k => simp [toLe_one, bytes_cons, bytes_nil, kind_eq, severity_eq, reason_eq, key_eq]

theorem records_eq (l : List LogRecord) : l.flatMap LogRecord.bytes = Layout.bytes (l.flatMap Layout.record) := by
  unfold Layout.bytes
  rw [List.flatMap_assoc]
  exact congrArg l.flatMap (funext record_eq)

/-- The operation code of a LIVE cell. -/
def opCode : Option Operation → Nat
  | none => 0 | some .scanRead => 1 | some (.newRead _) => 2 | some .correction => 3 | some .restore => 4
  | some (.evaluation _ _ _) => 5

/-- R103: the operation code of a READING cell. -/
def readCode : Option Operation → Nat
  | some .scanRead => 1 | some (.newRead _) => 2 | _ => 0

/-- The fields of the pending half. -/
def half : Option PendingHalf → List (Nat × Nat)
  | none => [(4, 0)]
  | some p => [(1, match p.half with | .low => 1 | .high => 2), (2, p.value.toNat), (1, p.age)]

section
variable {d : CellDef} {v : LiveState} {floor : Option Nat} {op : Option Operation} {stale : Bool}

theorem cellState_live : Layout.cellState ⟨some d, some v, floor, op, stale⟩ =
    [(1, 2), (1, opCode op), (4, v.shadow), (4, v.credit), (4, v.floor)] ++ half v.half ++
      [(1, Layout.flag v.repair), (1, Layout.flag v.due)] := rfl

theorem stateBytes_live : Cell.stateBytes ⟨some d, some v, floor, op, stale⟩ =
    2 :: opByte op :: toLe 4 v.shadow ++ toLe 4 v.credit ++ toLe 4 v.floor ++ pendingBytes v.half ++
      [flagByte v.repair, flagByte v.due] := rfl

theorem opByte_eq : ∀ op : Option Operation, opByte op = BitVec.ofNat 8 (opCode op)
  | none => rfl
  | some .scanRead => rfl
  | some (.newRead _) => rfl
  | some .correction => rfl
  | some .restore => rfl
  | some (.evaluation _ _ _) => rfl

theorem readByte_eq : ∀ op : Option Operation, readByte op = BitVec.ofNat 8 (readCode op)
  | none => rfl
  | some .scanRead => rfl
  | some (.newRead _) => rfl
  | some .correction => rfl
  | some .restore => rfl
  | some (.evaluation _ _ _) => rfl

theorem half_eq (h : Option PendingHalf) : pendingBytes h = Layout.bytes (half h) := by
  cases h with
  | none => simp [pendingBytes, half, zeros_eq, bytes_cons, bytes_nil]
  | some p =>
    obtain ⟨side, value, age⟩ := p
    cases side <;> simp [pendingBytes, half, Half.byteCode, toLe_one, bytes_cons, bytes_nil]

theorem cellState_reading : Layout.cellState ⟨some d, none, floor, op, stale⟩ =
    [(1, 1), (1, readCode op), (18, 0)] := rfl

theorem stateBytes_reading : Cell.stateBytes ⟨some d, none, floor, op, stale⟩ = 1 :: readByte op :: zeros 18 := rfl

end

theorem cellState_eq (c : Cell) : c.stateBytes = Layout.bytes (Layout.cellState c) := by
  obtain ⟨defn, live, floor, op, stale⟩ := c
  rcases defn with _ | d
  · simp [Cell.stateBytes, Cell.stateByte, Layout.cellState, zeros_eq, bytes_cons, bytes_nil, toLe]
  · rcases live with _ | v
    · rw [cellState_reading, stateBytes_reading]
      simp [toLe_one, bytes_cons, bytes_nil, readByte_eq, zeros_eq]
    · rw [cellState_live, stateBytes_live]
      simp [bytes_append, toLe_one, bytes_cons, bytes_nil, opByte_eq, half_eq, flagByte_eq]

theorem state_eq (x : Slot) :
    x.stateCode = BitVec.ofNat 8 (match x with | .free => 0 | .challenged _ _ _ => 1 | .opened _ _ _ => 2) := by
  cases x <;> rfl

end Layout

/-! ## READ TABLE (R39, R146) -/

theorem bytesAt_two {p : List Byte} (h : p.length = 2) :
    bytesAt p 1 2 = [BitVec.ofNat 8 (fieldAt p 1 1), BitVec.ofNat 8 (fieldAt p 2 1)] := by
  obtain ⟨a, b, rfl⟩ := List.length_eq_two.mp h
  simp [bytesAt, fieldAt, leNat]

section
variable {s : State} {st : Staged} {α : Type} {size : Nat} {block : α → List Byte} {layout : α → List (Nat × Nat)}

theorem presentBlock_none : presentBlock size block none = Layout.bytes [(1, 0), (size, 0)] := by
  simp [presentBlock, toLe_one, Layout.bytes_cons, Layout.bytes_nil, zeros_eq]

theorem presentBlock_some (eq : ∀ x, block x = Layout.bytes (layout x)) (x : α) :
    presentBlock size block (some x) = Layout.bytes ((1, 1) :: layout x) := by
  simp [presentBlock, toLe_one, Layout.bytes_cons, eq]

/-- An entry code of a window, by its number. -/
theorem entry_window (n : Fin 8) : finOf 8 n.val = some n := finOf_eq_some.mpr rfl

theorem entry_other {e : Nat} (h : 8 ≤ e) : finOf 8 e = none := finOf_eq_none.mpr h

theorem liveEntry_window (n : Fin 8) : s.liveEntry n.val = 1 :: windowBlock s.table.windows[n] := by
  unfold State.liveEntry
  rw [entry_window]

theorem liveEntry_dflt : s.liveEntry 8 = 1 :: defaultBlock s.table.dflt := rfl

theorem liveEntry_cell (n : Fin 8) : s.liveEntry (9 + n.val) = 1 :: cellBlock (s.cell n).defn := by
  unfold State.liveEntry
  rw [entry_other (by omega), Nat.add_sub_cancel_left, entry_window]
  exact if_neg (by omega)

theorem liveEntry_settings : s.liveEntry 17 = 1 :: settingsBlock s.table.settings := rfl

theorem stagedEntry_window (n : Fin 8) : st.entry n.val = presentBlock 17 windowBlock st.windows[n] := by
  unfold Staged.entry
  rw [entry_window]

theorem stagedEntry_dflt : st.entry 8 = presentBlock 17 defaultBlock st.dflt := rfl

theorem stagedEntry_cell (n : Fin 8) : st.entry (9 + n.val) = presentBlock 11 cellBlock st.cells[n] := by
  unfold Staged.entry
  rw [entry_other (by omega), Nat.add_sub_cancel_left, entry_window]
  exact if_neg (by omega)

theorem stagedEntry_settings : st.entry 17 = presentBlock 14 settingsBlock st.settings := rfl

theorem readTable_examines (p : List Byte) :
    Examines [(1, isFlag (fieldAt p 1 1)), (2, decide (fieldAt p 2 1 ≤ 17))]
      [(1, fieldAt p 1 1 ≤ 1), (2, fieldAt p 2 1 ≤ 17)] :=
  .cons (isFlag_iff _) (.cons decide_eq_true_iff .nil)

end

/-! ## What each command answers -/

section
variable {s : State} {p : List Byte}

theorem reports_of {c : Instr} {code : Byte} {size : Nat} {body : Body} {a : Answer} (m : s.Message code p)
    (len : p.length = size) (run : exec c s = .next (s.runCommand code size body)) (reply : body p s = s.answer a) :
    exec c s = .next (s.completeCommand a) := by
  rw [run, State.runCommand_of_message body m len, reply]
  rfl

theorem flagByte_provisioned :
    flagByte s.provisioned = BitVec.ofNat 8 (if s.store.held.provisionedMark = some true then 1 else 0) := by
  by_cases mark : s.store.held.provisionedMark = some true <;> simp [State.provisioned, mark, flagByte]

theorem bodyReadTable_reply (selector : fieldAt p 1 1 ≤ 1) (entry : fieldAt p 2 1 ≤ 17) (len : p.length = 2) :
    bodyReadTable p s = s.answer
      { status := .ok
        payload := [BitVec.ofNat 8 (fieldAt p 1 1), BitVec.ofNat 8 (fieldAt p 2 1)] ++
          (if fieldAt p 1 1 = 0 then s.liveEntry (fieldAt p 2 1) else s.table.staged.entry (fieldAt p 2 1)) } := by
  have ranges : firstBad [(1, isFlag (fieldAt p 1 1)), (2, decide (fieldAt p 2 1 ≤ 17))] = none :=
    (readTable_examines p).firstBad_eq_none.mpr (by simp [selector, entry])
  unfold bodyReadTable
  rw [ranges, bytesAt_two len]

theorem bodyReadTable_bad {offset : Nat}
    (bad : firstBad [(1, isFlag (fieldAt p 1 1)), (2, decide (fieldAt p 2 1 ≤ 17))] = some offset) :
    bodyReadTable p s = s.answer (.invalidAt offset) := by
  unfold bodyReadTable
  rw [bad]

theorem readTable_live {e : Nat} {fields : List (Nat × Nat)} (m : s.Message 0x30 p) (len : p.length = 2)
    (selector : fieldAt p 1 1 = 0) (entry : fieldAt p 2 1 = e) (range : e ≤ 17)
    (eq : s.liveEntry e = 1 :: Layout.bytes fields) : exec .readTable s =
      .next (s.completeCommand { status := .ok, payload := Layout.bytes ([(1, 0), (1, e), (1, 1)] ++ fields) }) := by
  refine reports_of m len rfl ((bodyReadTable_reply (by omega) (by omega) len).trans ?_)
  rw [selector, entry, if_pos rfl, eq]
  simp [Layout.bytes_cons, toLe_one]

theorem readTable_staged {e : Nat} {fields : List (Nat × Nat)} (m : s.Message 0x30 p) (len : p.length = 2)
    (selector : fieldAt p 1 1 = 1) (entry : fieldAt p 2 1 = e) (range : e ≤ 17)
    (eq : s.table.staged.entry e = Layout.bytes fields) : exec .readTable s =
      .next (s.completeCommand { status := .ok, payload := Layout.bytes ([(1, 1), (1, e)] ++ fields) }) := by
  refine reports_of m len rfl ((bodyReadTable_reply (by omega) (by omega) len).trans ?_)
  rw [selector, entry, if_neg (by decide), eq]
  simp [Layout.bytes_cons, toLe_one]

end

/-- Settles O51: the payload of each command by the layout of its blocks. -/
theorem reportingCommands : Obligations.ReportingCommands := by
  unfold Obligations.ReportingCommands
  intro p s reports stateCode present
  refine ⟨fun m len => ?_, fun m len => ?_, fun m len => ?_, fun m len => ⟨fun high => ?_, fun low => ?_⟩,
    fun m len => ⟨fun high => ?_, fun n at_ => ?_⟩, fun m len => ?_⟩
  · refine reports_of m len rfl (congrArg (fun b => s.answer ⟨.ok, b⟩) ?_)
    simp [Layout.bytes_cons, Layout.bytes_nil, toLe_one, Items.serialBytes, zeros_eq, ← toLe_eq_number, flagByte_provisioned]
  · have code (i : Fin 4) : (s.grants.slots[i]).stateCode = BitVec.ofNat 8 (stateCode i) := Layout.state_eq _
    have apply_ : flagByte (s.table.apply != .idle) = BitVec.ofNat 8 (if s.table.apply = .idle then 0 else 1) := by
      by_cases idle : s.table.apply = .idle <;> simp [idle, flagByte]
    refine reports_of m len rfl (congrArg (fun b => s.answer ⟨.ok, b⟩) ?_)
    simp [Layout.bytes_cons, Layout.bytes_nil, toLe_one, GrantTable.stateBytes, slotOrder, apply_,
      Layout.flagByte_eq]
    exact ⟨code 0, code 1, code 2, code 3⟩
  · refine reports_of m len rfl (congrArg (fun b => s.answer ⟨.ok, b⟩) ?_)
    simp [Layout.bytes_append, slotOrder, Layout.slot_eq]
  · exact reports_of m len rfl (if_neg (by omega))
  · intro found
    refine reports_of m len rfl ((if_pos low).trans (congrArg (fun b => s.answer ⟨.ok, b⟩) ?_))
    simp [Layout.bytes_cons, toLe_one, Layout.records_eq, found]
  · have bad : bodyReadCell p s = s.answer (.invalidAt 1) := by
      unfold bodyReadCell
      rw [finOf_eq_none.mpr high]
    exact reports_of m len rfl bad
  · refine reports_of m len rfl ?_
    unfold bodyReadCell
    rw [finOf_eq_some.mpr at_]
    simp [Layout.bytes_cons, Layout.bytes_append, toLe_one, Layout.cell_eq, Layout.cellState_eq]
  · intro st
    have absent (size : Nat) {α : Type} {block : α → List Byte} {layout : α → List (Nat × Nat)}
        (eq : ∀ x, block x = Layout.bytes (layout x)) (v : Option α) :
        presentBlock size block v = Layout.bytes (present size (v.map layout)) := by
      cases v with
      | none => exact presentBlock_none
      | some x => exact presentBlock_some eq x
    have check := readTable_examines p
    refine ⟨fun bad => ?_, fun good bad => ?_, fun n entry => ⟨fun live => ?_, fun staged => ?_⟩,
      fun entry => ⟨fun live => ?_, fun staged => ?_⟩, fun n entry => ⟨fun live => ?_, fun staged => ?_⟩,
      fun entry => ⟨fun live => ?_, fun staged => ?_⟩⟩
    · exact reports_of m len rfl
        (bodyReadTable_bad (check.firstBad_eq_some (before := []) (by simp) (by omega)))
    · exact reports_of m len rfl
        (bodyReadTable_bad (check.firstBad_eq_some (before := [_]) (by simpa using good) (by omega)))
    · exact readTable_live m len live entry (by omega)
        ((liveEntry_window n).trans (congrArg (List.cons 1) (Layout.window_eq _)))
    · exact readTable_staged m len staged entry (by omega)
        ((stagedEntry_window n).trans (absent 17 Layout.window_eq _))
    · exact readTable_live m len live entry (by omega)
        (liveEntry_dflt.trans (congrArg (List.cons 1) (Layout.dflt_eq _)))
    · exact readTable_staged m len staged entry (by omega) (stagedEntry_dflt.trans (absent 17 Layout.dflt_eq _))
    · exact readTable_live m len live entry (by omega)
        ((liveEntry_cell n).trans (congrArg (List.cons 1) (Layout.cell_eq _)))
    · exact readTable_staged m len staged entry (by omega)
        ((stagedEntry_cell n).trans (absent 11 Layout.cell_eq _))
    · exact readTable_live m len live entry (by omega)
        (liveEntry_settings.trans (congrArg (List.cons 1) (Layout.settings_eq _)))
    · exact readTable_staged m len staged entry (by omega) (stagedEntry_settings.trans (absent 14 Layout.settings_eq _))

end Machine
end Sys2Proof
end

section
namespace Sys2Proof.Machine

section
variable {s : State} {i j : Fin 4} {g : Grant} {tally : Nat} {at_ : Quad} {r : Right} {w : WindowId}

/-! ## Who holds a right (R51) -/

/-- A slot holds a right for a window exactly when it is OPEN with the window in scope and the right among its rights. -/
theorem Slot.holds_iff {x : Slot} : x.holds r w = true ↔ ∃ (g : Grant) (tally : Nat) (openedAt : Quad),
    x = .opened g tally openedAt ∧ g.inScope w = true ∧ g.hasRight r = true := by
  cases x <;> simp [Slot.holds]

/-- R51: the holder is the lowest-numbered slot that holds the right. -/
theorem GrantTable.holder_eq_some {t : GrantTable} : t.holder r w = some i ↔
    (t.slots[i]).holds r w = true ∧ ∀ j : Fin 4, j < i → (t.slots[j]).holds r w = false :=
  find_slotOrder_eq_some

theorem GrantTable.holder_eq_none {t : GrantTable} : t.holder r w = none ↔ ∀ i : Fin 4, (t.slots[i]).holds r w = false :=
  find_slotOrder_eq_none

/-- Settles O17: the lookup runs through the slots in rising order, and the bits are those of R149. -/
theorem holderIsTheLowestOpenSlot : Obligations.HolderIsTheLowestOpenSlot := by
  refine ⟨fun g r w => ⟨fun i => ?_, ?_⟩, fun gr => ⟨fun _ => rfl, rfl, rfl, rfl, rfl, rfl, rfl, rfl⟩⟩
  · simp only [GrantTable.holder_eq_some, ← Slot.holds_iff, Bool.not_eq_true]
  · simp only [GrantTable.holder_eq_none, ← Slot.holds_iff, Bool.not_eq_true]

/-! ## Freeing, closing and charging a slot (R53, R55, R107, R122) -/

theorem State.takeRecord_setSlot (x : Slot) (r : Report) (i : Fin 4) (s : State) :
    (s.setSlot i x).takeRecord r = (s.takeRecord r).setSlot i x := by
  simpa [State.setSlot] using
    State.takeRecord_with r s.port s.decision s.guard s.mem { s.grants with slots := s.grants.slots.set i x } s

/-- R122: the record of the close, and then the freeing of the slot. -/
theorem State.closeSlot_of_opened (h : s.grants.slots[i] = .opened g tally at_) (reason : Reason) :
    s.closeSlot i reason = (s.takeRecord (closedReport i reason g tally)).freeSlot i := by
  rw [State.closeSlot, h]
  simp only [State.takeRecord_setSlot]
  rfl

theorem State.closeSlot_of_not_opened (h : ∀ g tally openedAt, s.grants.slots[i] ≠ .opened g tally openedAt)
    (reason : Reason) : s.closeSlot i reason = s := by
  unfold State.closeSlot
  split
  · rename_i g tally at_ e
    exact absurd e (h g tally at_)
  · rfl

/-- R129: the grant after a charge, an allowance lowered. -/
def Grant.charged (g : Grant) : Grant := { g with allowance := g.allowance.map (· - 1) }

theorem State.charge_of_opened (h : s.grants.slots[i] = .opened g tally at_) :
    s.charge i =
      if g.charged.allowance = some 0 then
        (s.setSlot i (.opened g.charged (min (tally + 1) 65535) at_)).closeSlot i .exhausted
      else s.setSlot i (.opened g.charged (min (tally + 1) 65535) at_) := by
  rw [State.charge, h]
  rfl

theorem State.charge_of_not_opened (h : ∀ g tally openedAt, s.grants.slots[i] ≠ .opened g tally openedAt) :
    s.charge i = s := by
  unfold State.charge
  split
  · rename_i g tally at_ e
    exact absurd e (h g tally at_)
  · rfl

@[simp] theorem State.slot_setSlot_self (x : Slot) (i : Fin 4) (s : State) : (s.setSlot i x).grants.slots[i] = x := by
  simp

/-- A freed slot is named by no charge grant (R53). -/
theorem DecisionRecord.forget_chargeGrant (i : Fin 4) (d : DecisionRecord) : (d.forget i).chargeGrant ≠ some i := by
  unfold DecisionRecord.forget
  split
  · simp
  · assumption

theorem DecisionRecord.forget_held (i : Fin 4) (d : DecisionRecord) : (d.forget i).held = d.held := by
  unfold DecisionRecord.forget
  split <;> rfl

/-- The freeing of a slot: the slot, the charge grant that names it, and the report. -/
theorem State.freeSlot_eq (i : Fin 4) (s : State) : s.freeSlot i = State.reportSlot i { s with
    grants := { s.grants with slots := s.grants.slots.set i .free }
    decision := { s.decision with record := s.decision.record.map (DecisionRecord.forget i) } } := rfl

/-- R107: the freed slot is reported FREE. -/
theorem State.freeSlot_slotMirror (i : Fin 4) (s : State) :
    (s.freeSlot i).out.slotMirror = s.out.slotMirror.set i .free := by
  have free : ((s.setSlot i .free).grants.slots[i]).mirror = .free := by rw [State.slot_setSlot_self]; rfl
  exact congrArg (s.out.slotMirror.set i ·) free

/-- A record leaves the output unit but for the tamper lamp's inputs. -/
@[simp] theorem State.takeRecord_slotMirror (r : Report) (s : State) :
    (s.takeRecord r).out.slotMirror = s.out.slotMirror := by
  rw [State.takeRecord_out, OutputUnit.reportAlarm]
  split <;> rfl

/-- A record is made of the log, the store and the output unit. -/
theorem State.takeRecord_eq (r : Report) (s : State) : s.takeRecord r =
    { s with log := (s.takeRecord r).log, out := (s.takeRecord r).out, store := (s.takeRecord r).store } := by
  obtain ⟨h1, h2, h3, h4, h5, h6, h7, h8, h9, h10, h11, h12, h13⟩ := State.takeRecord_frame r s
  generalize State.takeRecord r s = t at *
  cases s
  cases t
  simp_all

/-- Settles O38: the charge in each state of its slot and allowance, the close as a record and a freeing, and the freeing
itself. -/
theorem chargesAndCloses : Obligations.ChargesAndCloses := by
  refine ⟨fun i s => ⟨State.charge_of_not_opened, fun g tally at_ h => ⟨fun ha => ?_, fun a ha h1 => ?_, fun ha => ?_⟩⟩,
    fun i reason g tally at_ s h => ?_, fun i s => ?_, fun i x s => rfl, fun s => ⟨rfl, fun i => rfl⟩⟩
  · have same : g.charged = g := by rw [Grant.charged, ha, Option.map_none, ← ha]
    rw [State.charge_of_opened h, same, if_neg (by simp [ha])]
  · have lowered : g.charged = { g with allowance := some (a - 1) } := by simp [Grant.charged, ha]
    rw [State.charge_of_opened h, lowered, if_neg]
    simp only [Option.some.injEq]
    omega
  · have spent : g.charged = { g with allowance := some 0 } := by simp [Grant.charged, ha]
    have closed : s.charge i = State.closeSlot i .exhausted
        (s.setSlot i (.opened { g with allowance := some 0 } (min (tally + 1) 65535) at_)) := by
      rw [State.charge_of_opened h, spent, if_pos rfl]
    have slot := State.slot_setSlot_self (.opened { g with allowance := some 0 } (min (tally + 1) 65535) at_) i s
    refine ⟨?_, ?_, closed⟩
    · rw [closed, State.closeSlot_of_opened slot]
      simp
    · rw [closed, State.closeSlot_of_opened slot, State.freeSlot_log, State.takeRecord_setSlot]
      rfl
  · simp only [State.closeSlot_of_opened h reason]
    have frame := State.takeRecord_frame (closedReport i reason g tally) s
    obtain ⟨-, -, -, -, decision, -, -, -, grants, -, -, -, -⟩ := frame
    have record := State.takeRecord_eq (closedReport i reason g tally) s
    refine ⟨?_, ?_, ?_, State.freeSlot_log .., State.freeSlot_store .., ?_, ?_, ?_, ?_⟩
    · rw [State.freeSlot_eq, grants, decision]
      rfl
    · rw [State.freeSlot_grants, grants]
    · rw [State.freeSlot_decision, decision]
      rfl
    · rw [State.freeSlot_slotMirror, State.takeRecord_slotMirror]
    · rintro d hd
      rw [State.freeSlot_decision, decision] at hd
      obtain ⟨x, -, rfl⟩ := Option.map_eq_some_iff.1 hd
      exact x.forget_chargeGrant i
    · rw [State.freeSlot_decision, decision, Option.map_map]
      exact congrArg (Option.map · _) (funext (DecisionRecord.forget_held i))
    · rw [record]
      rfl
  · exact ⟨State.freeSlot_eq i s, rfl, rfl, State.freeSlot_slotMirror i s, rfl⟩

end
end Sys2Proof.Machine
end

section
namespace Sys2Proof.Machine

section
variable {s t u : State} {i j : Fin 4} {g : Grant} {reason : Reason}

/-! ## What a record reads (R154, R162) -/

/-- What the taking of a record reads, and what it writes for the next record to read. -/
structure State.SameLog (s t : State) : Prop where
  log : t.log = s.log
  store : t.store = s.store
  time : t.time = s.time

theorem State.SameLog.refl (s : State) : s.SameLog s := ⟨rfl, rfl, rfl⟩

theorem State.SameLog.trans (h : s.SameLog t) (k : t.SameLog u) : s.SameLog u :=
  ⟨k.log.trans h.log, k.store.trans h.store, k.time.trans h.time⟩

/-- The same record leaves the same log and the same store. -/
theorem State.SameLog.takeRecord (h : s.SameLog t) (r : Report) : (s.takeRecord r).SameLog (t.takeRecord r) where
  log := by rw [State.takeRecord_log, State.takeRecord_log, h.log, h.time]
  store := by rw [State.takeRecord_store, State.takeRecord_store, h.log, h.store]
  time := by simp [h.time]

theorem State.takeRecords_append (p q : List Report) (s : State) :
    s.takeRecords (p ++ q) = (s.takeRecords p).takeRecords q := List.foldl_append

/-! ## The end of a slot (R122, R125) -/

theorem State.endSlot_grants (i : Fin 4) (reason : Reason) (s : State) :
    (s.endSlot i reason).grants = { s.grants with slots := s.grants.slots.set i .free } := by
  unfold State.endSlot
  split
  · rename_i h
    have same : s.grants.slots.set i .free = s.grants.slots := by
      rw [← h]
      exact Vector.set_getElem_self i.isLt
    rw [same]
  · exact State.freeSlot_grants i s
  · rename_i h
    rw [State.closeSlot_of_opened h]
    simp

/-- R122: the record that the end of a slot gives, for a slot whose grant meets a test. -/
def Slot.closeReport (reason : Reason) (ends : Grant → Bool) (i : Fin 4) : Slot → Option Report
  | .opened g tally _ => if ends g then some (closedReport i reason g tally) else none
  | _ => none

theorem GrantTable.closeReports_eq (reason : Reason) (ends : Grant → Bool) (t : GrantTable) :
    t.closeReports reason ends = slotOrder.filterMap fun i => (t.slots[i]).closeReport reason ends i := by
  refine List.filterMap_congr fun i _ => ?_
  cases t.slots[i] <;> rfl

/-- The log and the store after the end of a slot are those after its record, if it gives one. -/
theorem State.sameLog_endSlot (i : Fin 4) (reason : Reason) (s : State) :
    (s.takeRecords ((s.grants.slots[i]).closeReport reason (fun _ => true) i).toList).SameLog (s.endSlot i reason) := by
  unfold State.endSlot
  split
  · rename_i h
    rw [h]
    exact .refl s
  · rename_i h
    rw [h]
    exact ⟨State.freeSlot_log .., State.freeSlot_store .., State.freeSlot_time ..⟩
  · rename_i h
    rw [State.closeSlot_of_opened h, h]
    exact ⟨State.freeSlot_log .., State.freeSlot_store .., State.freeSlot_time ..⟩

/-! ## The walk over the slots at lockdown entry (R68, R125) -/

/-- A slot of level 1 or 2. -/
theorem Slot.lowLevel_iff {x : Slot} : x.lowLevel = true ↔ ∃ g : Grant, x.grant? = some g ∧ g.level ≠ .three := by
  unfold Slot.lowLevel
  cases x.grant? <;> simp

theorem State.slot_lockdownSlot (i j : Fin 4) (s : State) : (s.lockdownSlot i).grants.slots[j] =
    if j = i ∧ (s.grants.slots[i]).lowLevel = true then .free else s.grants.slots[j] := by
  unfold State.lockdownSlot
  split
  · rename_i h
    have ended : (s.endSlot i .lockdown).grants.slots[j] = (s.setSlot i .free).grants.slots[j] := by
      rw [State.endSlot_grants, State.setSlot_grants]
    simp only [ended, State.slot_setSlot, h, and_true]
  · rename_i h
    exact (if_neg fun e => h e.2).symm

theorem State.lockdownSlot_grants (i : Fin 4) (s : State) :
    (s.lockdownSlot i).grants = { s.grants with slots := (s.lockdownSlot i).grants.slots } := by
  unfold State.lockdownSlot
  split
  · rw [State.endSlot_grants]
  · rfl

/-- The record that lockdown entry gives of a slot. -/
abbrev Slot.lockdownRecord (i : Fin 4) (x : Slot) : Option Report :=
  x.closeReport .lockdown (fun g => decide (g.level ≠ .three)) i

theorem State.sameLog_lockdownSlot (i : Fin 4) (s : State) :
    (s.takeRecords ((s.grants.slots[i]).lockdownRecord i).toList).SameLog (s.lockdownSlot i) := by
  have ended := State.sameLog_endSlot i .lockdown s
  unfold State.lockdownSlot
  cases h : s.grants.slots[i] with
  | free => exact .refl s
  | challenged g c age =>
    rw [h] at ended
    split
    · exact ended
    · exact .refl s
  | opened g tally at_ =>
    rw [h] at ended
    by_cases low : g.level = .three
    · simpa [Slot.lowLevel, Slot.grant?, Slot.closeReport, State.takeRecords, low] using State.SameLog.refl s
    · simpa [Slot.lowLevel, Slot.grant?, Slot.closeReport, low] using ended

/-- What the walk over some slots leaves: those of level 1 or 2 are free, and their records are taken in order. -/
theorem State.lockdownWalk (l : List (Fin 4)) (distinct : l.Nodup) (h : t.SameLog s) :
    let w := l.foldl (fun s i => s.lockdownSlot i) s
    (∀ j : Fin 4, w.grants.slots[j] =
        if j ∈ l ∧ (s.grants.slots[j]).lowLevel = true then .free else s.grants.slots[j]) ∧
      w.grants = { s.grants with slots := w.grants.slots } ∧
      (t.takeRecords (l.filterMap fun i => (s.grants.slots[i]).lockdownRecord i)).SameLog w := by
  induction l generalizing s t with
  | nil => exact ⟨fun j => by simp, rfl, h⟩
  | cons i rest ih =>
    obtain ⟨notin, distinct⟩ := List.nodup_cons.1 distinct
    have other : ∀ j ∈ rest, (s.lockdownSlot i).grants.slots[j] = s.grants.slots[j] := fun j hj => by
      rw [State.slot_lockdownSlot, if_neg]
      rintro ⟨rfl, -⟩
      exact notin hj
    have head : (t.takeRecords ((s.grants.slots[i]).lockdownRecord i).toList).SameLog (s.lockdownSlot i) := by
      refine State.SameLog.trans ?_ (State.sameLog_lockdownSlot i s)
      cases (s.grants.slots[i]).lockdownRecord i with
      | none => exact h
      | some r => exact h.takeRecord r
    obtain ⟨slots, grants, log⟩ := ih distinct head
    refine ⟨fun j => ?_, ?_, ?_⟩
    · rw [List.foldl_cons, slots j, State.slot_lockdownSlot]
      by_cases e : j = i
      · subst e
        simp [notin]
      · simp [e]
    · rw [List.foldl_cons, grants, State.lockdownSlot_grants]
    · have records : rest.filterMap (fun i => (s.grants.slots[i]).lockdownRecord i) =
          rest.filterMap fun j => ((s.lockdownSlot i).grants.slots[j]).lockdownRecord j :=
        List.filterMap_congr fun j hj => by rw [other j hj]
      have split : (i :: rest).filterMap (fun i => (s.grants.slots[i]).lockdownRecord i) =
          ((s.grants.slots[i]).lockdownRecord i).toList ++
            rest.filterMap fun i => (s.grants.slots[i]).lockdownRecord i := by
        rw [List.filterMap_cons]
        cases (s.grants.slots[i]).lockdownRecord i <;> rfl
      rw [List.foldl_cons, split, State.takeRecords_append, records]
      exact log

/-- R125: the walk of lockdown entry over all the slots. -/
theorem State.lockdownSlots (h : t.SameLog s) :
    (∀ j : Fin 4, (forSlots State.lockdownSlot s).grants.slots[j] =
        if (s.grants.slots[j]).lowLevel = true then .free else s.grants.slots[j]) ∧
      (forSlots State.lockdownSlot s).grants =
        { s.grants with slots := (forSlots State.lockdownSlot s).grants.slots } ∧
      (t.takeRecords (s.grants.closeReports .lockdown fun g => decide (g.level ≠ .three))).SameLog
        (forSlots State.lockdownSlot s) := by
  obtain ⟨slots, grants, log⟩ := State.lockdownWalk slotOrder (by decide) h
  refine ⟨fun j => ?_, grants, ?_⟩
  · exact (slots j).trans (by simp only [mem_slotOrder, true_and])
  · rw [GrantTable.closeReports_eq]
    exact log

end
end Sys2Proof.Machine
end

section
namespace Sys2Proof.Machine

section
variable {s t u : State} {i : Fin 4} {reason : Reason}

/-! ## The pulse channels under reports and records (R180) -/

/-- The two pulse channels, and whether a cause starts a pulse or is held (R180, R183). -/
def State.pulses (s : State) : Channel × Channel × Bool := (s.out.alert, s.out.resetRequest, s.out.started)

@[simp] theorem State.pulses_reportSlot (i : Fin 4) (s : State) : (s.reportSlot i).pulses = s.pulses := rfl

@[simp] theorem State.pulses_reportScore (s : State) : s.reportScore.pulses = s.pulses := by
  rw [State.pulses, State.reportScore_out, OutputUnit.reportScore]
  split <;> rfl

@[simp] theorem State.pulses_reportLockdown (s : State) : s.reportLockdown.pulses = s.pulses := by
  rw [State.pulses, State.reportLockdown_out, OutputUnit.reportLockdown_eq]
  rfl

@[simp] theorem State.pulses_takeRecord (r : Report) (s : State) : (s.takeRecord r).pulses = s.pulses := by
  rw [State.pulses, State.takeRecord_out, OutputUnit.reportAlarm_eq]
  rfl

@[simp] theorem State.pulses_closeSlot (i : Fin 4) (reason : Reason) (s : State) :
    (s.closeSlot i reason).pulses = s.pulses := by
  unfold State.closeSlot
  split
  · rw [State.pulses_reportSlot]
    exact State.pulses_takeRecord _ (s.setSlot i .free)
  · rfl

@[simp] theorem State.pulses_lockdownSlot (i : Fin 4) (s : State) : (s.lockdownSlot i).pulses = s.pulses := by
  unfold State.lockdownSlot State.endSlot
  split
  · split
    · rfl
    · rfl
    · exact State.pulses_closeSlot ..
  · rfl

/-! ## The held lockdown mark (R68, R190) -/

theorem Store.queueItem_held (w : ItemWrite) (st : Store) : (st.queueItem w).held = st.held.write w :=
  (Store.startNext_items _).2

/-- A record queues the log's mark at most. -/
@[simp] theorem State.takeRecord_lockdownMark (r : Report) (s : State) :
    (s.takeRecord r).store.held.lockdownMark = s.store.held.lockdownMark := by
  rw [State.takeRecord_store]
  split
  · rw [Store.queueItem_held]
    rfl
  · rfl

@[simp] theorem State.lockdownSlot_lockdownMark (i : Fin 4) (s : State) :
    (s.lockdownSlot i).store.held.lockdownMark = s.store.held.lockdownMark := by
  unfold State.lockdownSlot State.endSlot
  split
  · split
    · rfl
    · rw [State.freeSlot_store]
    · rename_i h
      rw [State.closeSlot_of_opened h, State.freeSlot_store, State.takeRecord_lockdownMark]
  · rfl

/-! ## Entering lockdown (R67, R68) -/

/-- The part as lockdown entry has queued its mark, before it frees a slot. -/
def State.lockdownMarked (s : State) : State :=
  State.queueItem (.lockdownMark true)
    (State.reportLockdown { s with decision := { s.decision with lockdown := true } })

theorem State.enterLockdown_eq (cause : Reason) (s : State) : s.enterLockdown cause =
    (((forSlots State.lockdownSlot s.lockdownMarked).takeRecord
      (lockdownReport cause s.decision.score s.grants.lowCount)).alertCause).resetRequestCause := rfl

@[simp] theorem State.lockdownMarked_grants (s : State) : s.lockdownMarked.grants = s.grants := rfl

@[simp] theorem State.pulses_lockdownMarked (s : State) : s.lockdownMarked.pulses = s.pulses :=
  State.pulses_reportLockdown { s with decision := { s.decision with lockdown := true } }

theorem State.enterLockdown_pulses (cause : Reason) (s : State) :
    (s.enterLockdown cause).out.alert = s.out.alert.signal s.out.started ∧
      (s.enterLockdown cause).out.resetRequest = s.out.resetRequest.signal s.out.started := by
  have walked : ((forSlots State.lockdownSlot s.lockdownMarked).takeRecord
      (lockdownReport cause s.decision.score s.grants.lowCount)).pulses = s.pulses := by
    rw [State.pulses_takeRecord, forSlots_keeps State.pulses _ State.pulses_lockdownSlot, State.pulses_lockdownMarked]
  rw [State.enterLockdown_eq]
  generalize State.takeRecord _ _ = t at walked
  simp only [State.pulses, Prod.mk.injEq] at walked
  obtain ⟨alert, resetRequest, started⟩ := walked
  rw [← alert, ← resetRequest, ← started]
  exact ⟨rfl, rfl⟩

theorem State.enterLockdown_mark (cause : Reason) (s : State) :
    (s.enterLockdown cause).store.held.lockdownMark = some true := by
  have marked : s.lockdownMarked.store.held.lockdownMark = some true := by
    rw [State.lockdownMarked, State.queueItem_store, Store.queueItem_held]
    rfl
  rw [State.enterLockdown_eq, State.resetRequestCause_store, State.alertCause_store, State.takeRecord_lockdownMark,
    forSlots_keeps (fun s => s.store.held.lockdownMark) _ State.lockdownSlot_lockdownMark, marked]

/-- R125: every slot of level 1 or 2 is freed, and no other. -/
theorem State.enterLockdown_slots (cause : Reason) (s : State) :
    (∀ j : Fin 4, (s.enterLockdown cause).grants.slots[j] =
        if (s.grants.slots[j]).lowLevel = true then .free else s.grants.slots[j]) ∧
      (s.enterLockdown cause).grants = { s.grants with slots := (s.enterLockdown cause).grants.slots } := by
  obtain ⟨slots, grants, -⟩ := State.lockdownSlots (.refl s.lockdownMarked)
  simp only [State.lockdownMarked_grants] at slots grants
  have same : (s.enterLockdown cause).grants = (forSlots State.lockdownSlot s.lockdownMarked).grants := by
    rw [State.enterLockdown_eq]
    simp
  rw [same]
  exact ⟨slots, grants⟩

/-- R68: the records of lockdown entry, and the mark before the items that they queue. -/
theorem State.sameLog_enterLockdown (cause : Reason) (h : s.SameLog u) : State.SameLog
    (State.takeRecords (s.grants.closeReports .lockdown (fun g => decide (g.level ≠ .three)) ++
        [lockdownReport cause s.decision.score s.grants.lowCount])
      { u with store := s.store.queueItem (.lockdownMark true) })
    (s.enterLockdown cause) := by
  have marked : State.SameLog { u with store := s.store.queueItem (.lockdownMark true) } s.lockdownMarked :=
    ⟨h.log.symm, rfl, h.time.symm⟩
  obtain ⟨-, -, log⟩ := State.lockdownSlots marked
  rw [State.lockdownMarked_grants] at log
  rw [State.takeRecords_append, State.enterLockdown_eq]
  have signalled (v : State) : v.SameLog v.alertCause.resetRequestCause := ⟨rfl, rfl, rfl⟩
  exact (log.takeRecord _).trans (signalled _)

/-! ## An increment (R64, R65, R67) -/

/-- R64: the score raised and reported, before any check. -/
def State.raised (n : Nat) (s : State) : State :=
  State.reportScore { s with decision := { s.decision with score := min (s.decision.score + n) 255 } }

theorem State.scoreIncrement_eq (n : Nat) (cause : Reason) (s : State) :
    s.scoreIncrement n cause = ((s.raised n).alertCheck s.decision.score).lockdownCheck cause := rfl

/-- R65: the alert channel after the check of an increment to a score. -/
def State.alerted (score : Nat) (s : State) : Channel :=
  if s.decision.score < s.table.settings.alertThreshold ∧ s.table.settings.alertThreshold ≤ score then
    s.out.alert.signal s.out.started
  else s.out.alert

theorem State.alertCheck_out (old : Nat) (s : State) : (s.alertCheck old).out = { s.out with
    alert :=
      if old < s.table.settings.alertThreshold ∧ s.table.settings.alertThreshold ≤ s.decision.score then
        s.out.alert.signal s.out.started
      else s.out.alert } := by
  unfold State.alertCheck
  split <;> rfl

theorem State.raised_pulses (n : Nat) (s : State) : (s.raised n).out.alert = s.out.alert ∧
    (s.raised n).out.resetRequest = s.out.resetRequest ∧ (s.raised n).out.started = s.out.started := by
  have same : (s.raised n).pulses = s.pulses := State.pulses_reportScore _
  simpa [State.pulses] using same

/-- R65: what an increment makes of the output unit before the lockdown check. -/
theorem State.raised_alertCheck_out (n : Nat) (s : State) : ((s.raised n).alertCheck s.decision.score).out =
    { (s.raised n).out with alert := s.alerted (min (s.decision.score + n) 255) } := by
  obtain ⟨alert, -, started⟩ := s.raised_pulses n
  rw [State.alertCheck_out, alert, started]
  rfl

/-- Everything an increment can write. -/
theorem State.scoreIncrement_rest (n : Nat) (cause : Reason) (s : State) :
    let t := s.scoreIncrement n cause
    t = { s with grants := t.grants, decision := t.decision, log := t.log, out := t.out, store := t.store } := by
  obtain ⟨h1, h2, h3, h4, h5, h6, h7, h8, h9, h10, h11, -, -⟩ := State.scoreIncrement_frame n cause s
  generalize State.scoreIncrement n cause s = t at *
  cases s
  cases t
  simp_all

/-- Settles O45: the alert check on the raised score, and then the lockdown check, which enters lockdown or leaves the
part as it is. -/
theorem scoreIncrement : Obligations.ScoreIncrement := by
  intro n cause s t score st enters alerted
  obtain ⟨-, -, -, -, -, -, -, -, -, -, -, hscore, hdecay⟩ := State.scoreIncrement_frame n cause s
  obtain ⟨alert, resetRequest, started⟩ := s.raised_pulses n
  have out := s.raised_alertCheck_out n
  obtain ⟨-, -, -, -, decision, table, -, -, grants, -, -, log, time, -, store⟩ :=
    (s.raised n).alertCheck_frame s.decision.score
  have split : t = State.lockdownCheck cause ((s.raised n).alertCheck s.decision.score) := rfl
  generalize (s.raised n).alertCheck s.decision.score = v at *
  have check : (v.decision.lockdown = false ∧ v.table.settings.lockdownThreshold ≠ 0 ∧
      v.table.settings.lockdownThreshold ≤ v.decision.score) ↔ enters := by
    rw [decision, table]
    exact Iff.rfl
  refine ⟨hscore, hdecay, State.scoreIncrement_rest n cause s, fun h => ?_, fun h => ?_⟩
  · have same : t = v := split.trans (if_neg fun e => h (check.1 e))
    rw [same]
    refine ⟨decision, grants, log, store, ?_, ?_, out⟩
    · rw [out]
      exact resetRequest
    · rw [out]
      rfl
  · have entered : t = v.enterLockdown cause := split.trans (if_pos (check.2 h))
    obtain ⟨hslots, hgrants⟩ := v.enterLockdown_slots cause
    obtain ⟨halert, hreset⟩ := v.enterLockdown_pulses cause
    have started : v.out.started = s.out.started := by rw [out, started]
    have grants : v.grants = s.grants := grants
    have kept : v.SameLog s := ⟨log.symm, store.symm, time.symm⟩
    have taken := State.sameLog_enterLockdown cause kept
    rw [← entered] at hslots hgrants halert hreset taken
    simp only [grants] at hslots hgrants
    intro low
    have level (i : Fin 4) : (s.grants.slots[i]).lowLevel = true ↔ low i := Slot.lowLevel_iff
    refine ⟨?_, ?_, ?_, ?_, hgrants, fun i => ⟨fun hi => ?_, fun hi => ?_⟩,
      slotOrder.filter fun i => (s.grants.slots[i]).lowLevel, ?_, fun i => ?_, ?_⟩
    · rw [entered]
      simp
    · rw [entered]
      exact v.enterLockdown_mark cause
    · rw [halert, started, out]
      rfl
    · rw [hreset, started, out]
      exact congrArg (Channel.signal s.out.started) resetRequest
    · rw [hslots i, if_pos ((level i).2 hi)]
    · rw [hslots i, if_neg fun e => hi ((level i).1 e)]
    · exact List.Nodup.filter _ (by decide)
    · simp only [List.mem_filter, mem_slotOrder, true_and, level]
    · rw [grants, decision, store] at taken
      exact ⟨taken.log, taken.store⟩

end
end Sys2Proof.Machine
end

section
namespace Sys2Proof.Machine

/-! ## Seconds at the decision unit (R66) -/

/-- Settles O46: the second ends the decay interval or it does not. -/
theorem decaySteps : Obligations.DecaySteps := by
  intro s s1 decayed
  have due : s.decayDue = true ↔ s.table.settings.decayInterval ≤ s.decision.decayCount + 1 := decide_eq_true_iff
  refine ⟨fun h => ⟨?_, ?_⟩, fun h => ⟨?_, ?_⟩⟩
  · exact congrArg Host.Outcome.next (if_neg fun e => absurd (due.1 e) (by omega))
  · exact congrArg Host.Outcome.next (if_neg fun e => absurd (due.1 e) (by omega))
  · exact congrArg Host.Outcome.next (if_pos (due.2 h))
  · exact congrArg Host.Outcome.next (if_pos (due.2 h))

/-! ## The acting grant (R127) -/

section
variable {s : State} {p : List Byte} {i : Fin 4} {g : Grant}

/-- R127: the commands that need an acting grant answer DENIED without one. -/
theorem bodies_denied (h : s.actingGrant (.read p) = none) :
    bodyReleaseLog p s = s.answer (.plain .denied) ∧ bodyResetEcu p s = s.answer (.plain .denied) ∧
      bodyUnlock p s = s.answer (.plain .denied) := by
  simp [bodyReleaseLog, bodyResetEcu, bodyUnlock, h]

/-! ## The end of lockdown (R70) -/

/-- The part as R70 leaves it before the record. -/
def State.unlocked (s : State) : State :=
  let s1 := State.reportLockdown { s with decision := { s.decision with lockdown := false } }
  State.queueItem (.lockdownMark false) (State.reportScore { s1 with decision := { s1.decision with score := 0 } })

theorem State.endLockdown_eq (i : Fin 4) (g : Grant) (s : State) :
    s.endLockdown i g = s.unlocked.takeRecord (unlockReport i g s.decision.score) := rfl

@[simp] theorem State.pulses_unlocked (s : State) : s.unlocked.pulses = s.pulses := by
  rw [State.unlocked]
  refine (State.pulses_reportScore _).trans ?_
  exact State.pulses_reportLockdown { s with decision := { s.decision with lockdown := false } }

/-- R70: what UNLOCK leaves of a part in lockdown. -/
theorem State.endLockdown_frame (i : Fin 4) (g : Grant) (s : State) :
    (s.endLockdown i g).decision = { s.decision with lockdown := false, score := 0 } ∧
      (s.endLockdown i g).store.held.lockdownMark = some false ∧ (s.endLockdown i g).pulses = s.pulses ∧
      State.SameLog (State.takeRecord (unlockReport i g s.decision.score)
        { s with store := s.store.queueItem (.lockdownMark false) }) (s.endLockdown i g) := by
  rw [State.endLockdown_eq]
  have kept : State.SameLog { s with store := s.store.queueItem (.lockdownMark false) } s.unlocked := ⟨rfl, rfl, rfl⟩
  refine ⟨?_, ?_, ?_, kept.takeRecord _⟩
  · simp [State.unlocked]
  · rw [State.takeRecord_lockdownMark, State.unlocked, State.queueItem_store, Store.queueItem_held]
    rfl
  · rw [State.pulses_takeRecord, State.pulses_unlocked]

/-- Everything that the end of lockdown can write. -/
theorem State.endLockdown_rest (i : Fin 4) (g : Grant) (s : State) : s.endLockdown i g =
    { s with
      decision := (s.endLockdown i g).decision, log := (s.endLockdown i g).log, out := (s.endLockdown i g).out
      store := (s.endLockdown i g).store } := by
  rw [State.endLockdown_eq, State.takeRecord_eq]
  rfl

/-- Settles O44: the check of the acting grant, and each command without one, below its level, and at it. -/
theorem actingGrantsUnlockAndReset : Obligations.ActingGrantsUnlockAndReset := by
  refine ⟨fun p s => ⟨fun i g => State.actingGrant_eq_some, fun hn row hrow hm hl => ?_⟩,
    fun p i g s hl ha => ⟨fun hm => ⟨fun hg => ?_, fun hg hd => ?_, fun hg hd => ?_⟩, fun hm => ⟨fun hg => ?_, fun hg => ?_⟩⟩⟩
  · obtain ⟨release, reset, unlock⟩ := bodies_denied hn
    simp only [List.mem_cons, List.not_mem_nil, or_false] at hrow
    rcases hrow with rfl | rfl | rfl
    · exact congrArg Host.Outcome.next ((State.runCommand_of_message bodyReleaseLog hm hl).trans (by rw [release]; rfl))
    · exact congrArg Host.Outcome.next ((State.runCommand_of_message bodyResetEcu hm hl).trans (by rw [reset]; rfl))
    · exact congrArg Host.Outcome.next ((State.runCommand_of_message bodyUnlock hm hl).trans (by rw [unlock]; rfl))
  · refine congrArg Host.Outcome.next ((State.runCommand_of_message bodyUnlock hm hl).trans ?_)
    simp only [bodyUnlock, ha, if_pos hg]
    rfl
  · refine congrArg Host.Outcome.next ((State.runCommand_of_message bodyUnlock hm hl).trans ?_)
    simp only [bodyUnlock, ha, hg, hd, ne_eq, not_true, if_false, Bool.false_eq_true]
    rfl
  · obtain ⟨decision, mark, pulses, log⟩ := s.endLockdown_frame i g
    refine ⟨(s.endLockdown i g).completeCommand (.plain .ok), ?_, decision, ?_, log.store, mark, log.log, ?_, ?_⟩
    · refine congrArg Host.Outcome.next ((State.runCommand_of_message bodyUnlock hm hl).trans ?_)
      simp only [bodyUnlock, ha, hg, hd, ne_eq, not_true, if_false, if_true]
      rfl
    · rw [State.endLockdown_rest]
      rfl
    · rw [State.endLockdown_rest]
      rfl
    · simp only [State.pulses, Prod.mk.injEq] at pulses
      exact ⟨pulses.1, pulses.2.1⟩
  · refine congrArg Host.Outcome.next ((State.runCommand_of_message bodyResetEcu hm hl).trans ?_)
    simp only [bodyResetEcu, ha, if_pos hg]
    rfl
  · refine congrArg Host.Outcome.next ((State.runCommand_of_message bodyResetEcu hm hl).trans ?_)
    simp only [bodyResetEcu, ha, if_neg hg]
    rfl

end
end Sys2Proof.Machine
end

section
namespace Sys2Proof.Machine

section
variable {s t u : State} {i : Fin 4} {n : Fin 8}

/-! ## The decision record, apart from the charge grant and the fill check (R47, R53, R59) -/

/-- What the decision of a cycle fixes until the cycle ends. -/
def DecisionRecord.core (d : DecisionRecord) : DecisionRecord := { d with chargeGrant := none, fill := none }

def State.core? (s : State) : Option DecisionRecord := s.decision.record.map DecisionRecord.core

theorem State.core?_of_decision (h : t.decision = s.decision) : t.core? = s.core? := by rw [State.core?, h, State.core?]

theorem State.core?_window (h : t.core? = s.core?) :
    t.decision.record.map DecisionRecord.window = s.decision.record.map DecisionRecord.window := by
  have window (r : Option DecisionRecord) :
      r.map DecisionRecord.window = (r.map DecisionRecord.core).map DecisionRecord.window := by
    rw [Option.map_map]
    rfl
  rw [window, window s.decision.record]
  exact congrArg _ h

@[simp] theorem State.forgetCharge_core? (i : Fin 4) (s : State) : (s.forgetCharge i).core? = s.core? := by
  have core (d : DecisionRecord) : (d.forget i).core = d.core := by
    unfold DecisionRecord.forget
    split <;> rfl
  simp only [State.core?, State.forgetCharge, Option.map_map]
  exact congrArg (Option.map · _) (funext core)

/-! ## The law of the charge grant (R53) -/

theorem State.chargeGrantLaw_iff (s : State) : s.ChargeGrantLaw ↔
    ∀ (d : DecisionRecord) (i : Fin 4), s.decision.record = some d → d.chargeGrant = some i →
      ∃ r, d.right = some r ∧ (s.grants.slots[i]).holds r d.window.id = true := by
  unfold State.ChargeGrantLaw State.chargeGrantHolds
  cases s.decision.record with
  | none => simp
  | some d =>
    have only {p : DecisionRecord → Fin 4 → Prop} : (∀ e i, some d = some e → e.chargeGrant = some i → p e i) ↔
        ∀ i, d.chargeGrant = some i → p d i :=
      ⟨fun h i => h d i rfl, fun h e i he => by cases he; exact h i⟩
    rw [only]
    rcases hc : d.chargeGrant with _ | i
    · simp [hc]
    · rcases hr : d.right with _ | r <;> simp [hc, hr]

/-- The law is kept where no charge grant is made and the slot that one names still holds what it held. -/
theorem State.ChargeGrantLaw.step (h : s.ChargeGrantLaw)
    (kept : ∀ (d : DecisionRecord) (i : Fin 4), t.decision.record = some d → d.chargeGrant = some i →
      ∃ e, s.decision.record = some e ∧ e.chargeGrant = some i ∧ e.core = d.core ∧
        ∀ r w, (s.grants.slots[i]).holds r w = true → (t.grants.slots[i]).holds r w = true) : t.ChargeGrantLaw := by
  rw [State.chargeGrantLaw_iff] at h ⊢
  intro d i hd hc
  obtain ⟨e, he, hce, core, holds⟩ := kept d i hd hc
  obtain ⟨r, hr, hh⟩ := h e i he hce
  have window : e.window = d.window := congrArg (fun x => x.window) core
  have right : e.right = d.right := congrArg (fun x => x.right) core
  exact ⟨r, right ▸ hr, window ▸ holds r _ hh⟩

theorem State.ChargeGrantLaw.of_eq (h : s.ChargeGrantLaw) (record : t.decision.record = s.decision.record)
    (slots : t.grants.slots = s.grants.slots) : t.ChargeGrantLaw :=
  h.step fun d i hd hc => ⟨d, record ▸ hd, hc, rfl, fun r w hh => by rw [slots]; exact hh⟩

/-- R47: no charge grant without a decision record. -/
theorem State.chargeGrantLaw_of_none (h : s.decision.record = none) : s.ChargeGrantLaw := by
  rw [State.chargeGrantLaw_iff, h]
  exact fun d i hd => nomatch hd

/-! ## What a command that is none of the ports' can do to the grants and the decision unit -/

/-- The laws of the score, the proof account, lockdown and the charge grant are passed on. -/
structure State.PassesAccess (s t : State) : Prop where
  score : s.ScoreLaw → t.ScoreLaw
  account : s.ProofAccountLaw → t.ProofAccountLaw
  lockdown : s.LockdownLaw → t.LockdownLaw
  charge : s.ChargeGrantLaw → t.ChargeGrantLaw

/-- Those laws are passed on, and the ports and the core of the decision record are as they were. -/
structure State.AccessStep (s t : State) : Prop extends s.PassesAccess t where
  start : t.start = s.start
  port : t.port = s.port
  mem : t.mem = s.mem
  core : t.core? = s.core?

theorem State.PassesAccess.refl (s : State) : s.PassesAccess s := ⟨id, id, id, id⟩

theorem State.PassesAccess.trans (h : s.PassesAccess t) (k : t.PassesAccess u) : s.PassesAccess u :=
  ⟨k.score ∘ h.score, k.account ∘ h.account, k.lockdown ∘ h.lockdown, k.charge ∘ h.charge⟩

theorem State.AccessStep.refl (s : State) : s.AccessStep s := ⟨.refl s, rfl, rfl, rfl, rfl⟩

theorem State.AccessStep.trans (h : s.AccessStep t) (k : t.AccessStep u) : s.AccessStep u :=
  ⟨h.toPassesAccess.trans k.toPassesAccess, k.start.trans h.start, k.port.trans h.port, k.mem.trans h.mem,
    k.core.trans h.core⟩

/-- An operation that leaves the decision unit and the grants. -/
theorem State.PassesAccess.of_blocks (decision : t.decision = s.decision) (grants : t.grants = s.grants) :
    s.PassesAccess t where
  score h := by rw [State.ScoreLaw, decision]; exact h
  account h := by rw [State.ProofAccountLaw, grants]; exact h
  lockdown h := by rw [State.LockdownLaw, decision, grants]; exact h
  charge h := h.of_eq (by rw [decision]) (by rw [grants])

theorem State.AccessStep.of_blocks (start : t.start = s.start) (port : t.port = s.port) (mem : t.mem = s.mem)
    (decision : t.decision = s.decision) (grants : t.grants = s.grants) : s.AccessStep t :=
  ⟨.of_blocks decision grants, start, port, mem, State.core?_of_decision decision⟩

theorem State.AccessStep.ite {c : Prop} [Decidable c] (h : s.AccessStep t) : s.AccessStep (if c then t else s) := by
  split
  · exact h
  · exact .refl s

theorem State.accessStep_forSlots {f : Fin 4 → State → State} (h : ∀ i (s : State), s.AccessStep (f i s)) (s : State) :
    s.AccessStep (forSlots f s) :=
  forSlots_induct (s.AccessStep ·) f (fun i t k => k.trans (h i t)) s (.refl s)

theorem State.accessStep_takeRecord (r : Report) (s : State) : s.AccessStep (s.takeRecord r) :=
  .of_blocks (by simp) (by simp) (by simp) (by simp) (by simp)

theorem State.accessStep_alertCause (s : State) : s.AccessStep s.alertCause := .of_blocks rfl rfl rfl rfl rfl

theorem State.accessStep_resetRequestCause (s : State) : s.AccessStep s.resetRequestCause :=
  .of_blocks rfl rfl rfl rfl rfl

theorem State.accessStep_queueItem (w : ItemWrite) (s : State) : s.AccessStep (s.queueItem w) :=
  .of_blocks rfl rfl rfl rfl rfl

theorem State.accessStep_reportSlot (i : Fin 4) (s : State) : s.AccessStep (s.reportSlot i) :=
  .of_blocks rfl rfl rfl rfl rfl

/-! ## One slot (R53, R55, R68) -/

/-- A slot takes another state: in lockdown none of level 1 or 2 that it was not, and it holds what it held. -/
theorem State.accessStep_setSlot {x : Slot} (level : s.decision.lockdown = true →
      (s.grants.slots[i]).lowLevel = false → x.lowLevel = false)
    (holds : ∀ r w, (s.grants.slots[i]).holds r w = true → x.holds r w = true) : s.AccessStep (s.setSlot i x) where
  score := id
  account := id
  lockdown h locked j := by
    rw [State.slot_setSlot]
    split
    · exact level locked (h locked i)
    · exact h locked j
  charge h := h.step fun d j hd hc => ⟨d, hd, hc, rfl, fun r w hh => by
    rw [State.slot_setSlot]
    split
    · rename_i e
      exact holds r w (e ▸ hh)
    · exact hh⟩
  start := rfl
  port := rfl
  mem := rfl
  core := rfl

/-- R53: a slot that becomes FREE is no charge grant. -/
theorem State.accessStep_freeSlot (i : Fin 4) (s : State) : s.AccessStep (s.freeSlot i) where
  score := id
  account := id
  lockdown h locked j := by
    have slot : (s.freeSlot i).grants.slots[j] = _ := State.slot_setSlot i j .free s
    rw [slot]
    split
    · rfl
    · exact h locked j
  charge h := h.step fun d j hd hc => by
    obtain ⟨e, he, rfl⟩ := Option.map_eq_some_iff.1 ((congrArg DecisionUnit.record (State.freeSlot_decision i s)).symm.trans hd)
    have other : j ≠ i := fun eq => e.forget_chargeGrant i (eq ▸ hc)
    have same : e.forget i = e := by
      unfold DecisionRecord.forget at hc ⊢
      split at hc
      · exact nomatch hc
      · rw [if_neg ‹_›]
    rw [same] at hc ⊢
    refine ⟨e, he, hc, rfl, fun r w hh => ?_⟩
    have slot : (s.freeSlot i).grants.slots[j] = _ := State.slot_setSlot i j .free s
    rw [slot, if_neg other]
    exact hh
  start := rfl
  port := rfl
  mem := rfl
  core := State.forgetCharge_core? i (s.setSlot i .free)

theorem State.accessStep_closeSlot (i : Fin 4) (reason : Reason) (s : State) : s.AccessStep (s.closeSlot i reason) := by
  by_cases h : ∃ g tally openedAt, s.grants.slots[i] = .opened g tally openedAt
  · obtain ⟨g, tally, at_, h⟩ := h
    rw [State.closeSlot_of_opened h]
    exact (accessStep_takeRecord ..).trans (accessStep_freeSlot ..)
  · rw [State.closeSlot_of_not_opened fun g tally at_ e => h ⟨g, tally, at_, e⟩]
    exact .refl s

theorem State.accessStep_endSlot (i : Fin 4) (reason : Reason) (s : State) : s.AccessStep (s.endSlot i reason) := by
  unfold State.endSlot
  split
  · exact .refl s
  · exact accessStep_freeSlot ..
  · exact accessStep_closeSlot ..

/-- R55: a charge leaves the level, the rights and the scope of the grant. -/
theorem State.accessStep_charge (i : Fin 4) (s : State) : s.AccessStep (s.charge i) := by
  by_cases h : ∃ g tally openedAt, s.grants.slots[i] = .opened g tally openedAt
  · obtain ⟨g, tally, at_, h⟩ := h
    have charged : s.AccessStep (s.setSlot i (.opened g.charged (min (tally + 1) 65535) at_)) :=
      accessStep_setSlot (fun _ e => by rw [h] at e; exact e) fun r w e => by rw [h] at e; exact e
    rw [State.charge_of_opened h]
    split
    · exact charged.trans (accessStep_closeSlot ..)
    · exact charged
  · rw [State.charge_of_not_opened fun g tally at_ e => h ⟨g, tally, at_, e⟩]
    exact .refl s

theorem State.accessStep_chargeOpt (c : Option (Fin 4)) (s : State) : s.AccessStep (s.chargeOpt c) := by
  cases c with
  | none => exact .refl s
  | some i => exact accessStep_charge i s

/-! ## The score and lockdown (R64 to R70) -/

theorem State.accessStep_lockdownSlot (i : Fin 4) (s : State) : s.AccessStep (s.lockdownSlot i) :=
  State.AccessStep.ite (accessStep_endSlot i .lockdown s)

/-- R68: lockdown entry frees every slot that the law forbids. -/
theorem State.accessStep_enterLockdown (cause : Reason) (s : State) : s.AccessStep (s.enterLockdown cause) := by
  obtain ⟨slots, grants⟩ := s.enterLockdown_slots cause
  have walked : s.lockdownMarked.AccessStep (s.enterLockdown cause) :=
    (((accessStep_forSlots accessStep_lockdownSlot _).trans (accessStep_takeRecord ..)).trans
      (accessStep_alertCause _)).trans (accessStep_resetRequestCause _)
  refine ⟨⟨fun h => ?_, fun h => ?_, fun _ _ j => ?_, fun h => walked.charge (h.of_eq rfl rfl)⟩,
    walked.start, walked.port, walked.mem, walked.core⟩
  · simpa using h
  · rw [State.ProofAccountLaw, grants]
    exact h
  · rw [slots j]
    split
    · rfl
    · rename_i high
      simpa using high

theorem State.accessStep_scoreIncrement (k : Nat) (cause : Reason) (s : State) :
    s.AccessStep (s.scoreIncrement k cause) := by
  have raised : s.AccessStep (s.raised k) :=
    ⟨⟨fun _ => Nat.min_le_right .., id, id, fun h => h.of_eq rfl rfl⟩, rfl, rfl, rfl, rfl⟩
  have checked (old : Nat) (u : State) : u.AccessStep (u.alertCheck old) :=
    State.AccessStep.ite (accessStep_alertCause u)
  rw [State.scoreIncrement_eq]
  exact (raised.trans (checked ..)).trans (State.AccessStep.ite (accessStep_enterLockdown ..))

/-- The record, the increment and the alert cause of a refusal or a regression. -/
theorem State.accessStep_violation (r : Report) (k : Nat) (cause : Reason) (s : State) :
    s.AccessStep (((s.takeRecord r).scoreIncrement k cause).alertCause) :=
  ((accessStep_takeRecord r s).trans (accessStep_scoreIncrement ..)).trans (accessStep_alertCause _)

/-- The decision unit takes another score, at most 255, and another decay count. -/
theorem State.accessStep_setScore {x : DecisionUnit} (record : x.record = s.decision.record)
    (score : s.ScoreLaw → x.score ≤ 255) (lockdown : x.lockdown = true → s.decision.lockdown = true) :
    s.AccessStep { s with decision := x } where
  score := score
  account := id
  lockdown h locked := h (lockdown locked)
  charge h := h.of_eq record rfl
  start := rfl
  port := rfl
  mem := rfl
  core := congrArg (Option.map DecisionRecord.core) record

theorem State.accessStep_decayScore (s : State) : s.AccessStep s.decayScore := by
  have fallen : s.AccessStep
      { s with decision := { s.decision with decayCount := 0, score := s.decision.score - 1 } } :=
    accessStep_setScore rfl (fun h => by dsimp only [State.ScoreLaw] at h ⊢; omega) id
  exact fallen.trans (.of_blocks rfl rfl rfl rfl rfl)

theorem State.accessStep_endLockdown (i : Fin 4) (g : Grant) (s : State) : s.AccessStep (s.endLockdown i g) := by
  have ended : s.AccessStep { s with decision := { s.decision with lockdown := false, score := 0 } } :=
    accessStep_setScore rfl (fun _ => Nat.zero_le _) fun e => (nomatch e)
  have told : State.AccessStep { s with decision := { s.decision with lockdown := false, score := 0 } } s.unlocked :=
    .of_blocks rfl rfl rfl rfl rfl
  rw [State.endLockdown_eq]
  exact (ended.trans told).trans (accessStep_takeRecord ..)

end
end Sys2Proof.Machine
end

section
namespace Sys2Proof.Machine

section
variable {s t u : State} {i : Fin 4} {g : Grant}

/-! ## The grant table's commands and events (R109 to R124) -/

/-- An operation that leaves the decision unit and the slots, with the proof account within its law. -/
theorem State.AccessStep.of_account (start : t.start = s.start) (port : t.port = s.port) (mem : t.mem = s.mem)
    (decision : t.decision = s.decision) (slots : t.grants.slots = s.grants.slots)
    (account : s.ProofAccountLaw → t.ProofAccountLaw) : s.AccessStep t where
  score h := by rw [State.ScoreLaw, decision]; exact h
  account := account
  lockdown h := by simpa only [State.LockdownLaw, decision, slots] using h
  charge h := h.of_eq (by rw [decision]) slots
  start := start
  port := port
  mem := mem
  core := State.core?_of_decision decision

theorem State.accessStep_setLink (l : Link) (s : State) : s.AccessStep { s with link := l } := .of_blocks rfl rfl rfl rfl rfl

theorem State.accessStep_withTime (x : Timebase) (s : State) : s.AccessStep (s.withTime x) := .of_blocks rfl rfl rfl rfl rfl

/-- R110: a FREE slot holds no right; in lockdown the grant it takes is of level 3. -/
theorem State.accessStep_acceptRequest (free : s.grants.slots[i] = .free)
    (level : s.decision.lockdown = true → g.level = .three) : s.AccessStep (s.acceptRequest i g) := by
  have counted : s.AccessStep (State.queueItem (.challengeCounter s.grants.nextChallenge.counter)
      { s with grants := { s.grants with counter := s.grants.nextChallenge.counter } }) :=
    State.AccessStep.of_account rfl rfl rfl rfl rfl id
  refine (counted.trans (accessStep_setSlot (fun locked _ => ?_) fun r w e => ?_)).trans (accessStep_reportSlot ..)
  · simp [Slot.lowLevel, Slot.grant?, level locked]
  · have none : (s.grants.slots[i]).holds r w = true := e
    rw [free] at none
    exact nomatch none

/-- R117: the grant of a CHALLENGED slot opens as it was requested. -/
theorem State.accessStep_openSlot {c : Challenge} {age : Nat} (h : s.grants.slots[i] = .challenged g c age) :
    s.AccessStep (s.openSlot i g) := by
  have opened : s.AccessStep (s.setSlot i (.opened g 0 s.time.seconds)) :=
    accessStep_setSlot (fun _ e => by rw [h] at e; exact e) fun r w e => by rw [h] at e; exact nomatch e
  have cleared (v : State) : v.AccessStep v.clearFailed :=
    State.AccessStep.ite (State.AccessStep.of_account rfl rfl rfl rfl rfl fun h => ⟨Nat.zero_le _, h.2⟩)
  exact ((opened.trans (cleared _)).trans (accessStep_takeRecord ..)).trans (accessStep_reportSlot ..)

theorem backoffFor_le (n : Nat) : backoffFor n ≤ 1024 := by
  unfold backoffFor
  split
  · exact Nat.zero_le _
  · exact Nat.min_le_right ..

/-- R118: the failed proofs are counted up to 255, and the backoff they give is at most 1024 s. -/
theorem State.accessStep_refuseProof (i : Fin 4) (g : Grant) (s : State) : s.AccessStep (s.refuseProof i g) := by
  have counted (v : State) : v.AccessStep v.countFailure :=
    State.AccessStep.of_account rfl rfl rfl rfl rfl fun _ => ⟨Nat.min_le_right .., backoffFor_le _⟩
  exact (((accessStep_freeSlot i s).trans (counted _)).trans (accessStep_takeRecord ..)).trans
    (accessStep_scoreIncrement ..)

theorem State.accessStep_takeResult (p : ProofInFlight) (s : State) : s.AccessStep (s.takeResult p) := by
  have stopped : s.AccessStep { s with engine := none } := .of_blocks rfl rfl rfl rfl rfl
  have settled (v : State) : v.AccessStep (v.settleProof p).1 := by
    unfold State.settleProof
    split
    · rename_i h
      split
      · split
        · exact accessStep_openSlot h
        · exact accessStep_refuseProof ..
      · exact .refl v
    · exact .refl v
  have result := stopped.trans (settled _)
  unfold State.takeResult
  simp only []
  split
  · exact result.trans (accessStep_setLink ..)
  · exact result

/-- R113, R121: a second at one slot. -/
theorem State.accessStep_secondSlot (i : Fin 4) (s : State) : s.AccessStep (s.secondSlot i) := by
  unfold State.secondSlot
  split
  · exact .refl s
  · rename_i h
    split
    · exact accessStep_freeSlot ..
    · exact accessStep_setSlot (fun _ e => by rw [h] at e; exact e) fun r w e => by rw [h] at e; exact e
  · rename_i h
    split
    · exact accessStep_closeSlot ..
    · exact accessStep_setSlot (fun _ e => by rw [h] at e; exact e) fun r w e => by rw [h] at e; exact e

theorem State.accessStep_grantSecond (s : State) : s.AccessStep s.grantSecond := by
  have stepped (v : State) : v.AccessStep v.backoffStep :=
    State.AccessStep.of_account rfl rfl rfl rfl rfl fun h => ⟨h.1, (Nat.sub_le ..).trans h.2⟩
  exact ((accessStep_withTime _ s).trans (accessStep_forSlots accessStep_secondSlot _)).trans (stepped _)

theorem State.accessStep_ignitionOffSlot (i : Fin 4) (s : State) : s.AccessStep (s.ignitionOffSlot i) := by
  unfold State.ignitionOffSlot
  split
  · exact .refl s
  · split
    · exact .refl s
    · exact accessStep_endSlot ..

/-! ## The commands of the link (section 6.4) -/

/-- What a block does with a message passes the laws on. -/
def Body.StepsAccess (body : Body) : Prop := ∀ (p : List Byte) (s : State), s.AccessStep (body p s).1

/-- A block that answers without an effect. -/
theorem Body.stepsAccess_of_eq {body : Body} (h : ∀ p s, (body p s).1 = s) : body.StepsAccess := fun p s => by
  rw [h]
  exact .refl s

/-- R109: a request that passes has a FREE slot, and is of level 3 in lockdown. -/
theorem State.requestCheck_ok {p : List Byte} (h : s.requestCheck p = .ok i) : s.grants.slots[i] = .free ∧
    (s.decision.lockdown = true → (readRequest p).trim.level = .three) := by
  unfold State.requestCheck at h
  split at h
  · exact nomatch h
  · split at h
    · exact nomatch h
    · split at h
      · exact nomatch h
      · rename_i level
        split at h
        · exact nomatch h
        · split at h
          · exact nomatch h
          · rename_i j hj
            obtain ⟨⟩ := h
            refine ⟨by simpa using List.find?_some hj, fun locked => ?_⟩
            have high : (readRequest p).level = .three := by simpa [locked] using level
            exact high

theorem Body.stepsAccess_requestGrant : Body.StepsAccess bodyRequestGrant := fun p s => by
  unfold bodyRequestGrant
  split
  · exact .refl s
  · rename_i h
    obtain ⟨free, level⟩ := State.requestCheck_ok h
    exact State.accessStep_acceptRequest free level

theorem Body.stepsAccess_proveGrant : Body.StepsAccess bodyProveGrant := fun p s => by
  unfold bodyProveGrant
  split
  · exact .refl s
  · split
    · exact .of_blocks rfl rfl rfl rfl rfl
    · exact .refl s

theorem Body.stepsAccess_closeGrant : Body.StepsAccess bodyCloseGrant := fun p s => by
  unfold bodyCloseGrant
  split
  · exact .refl s
  · split
    · exact .refl s
    · split
      · exact State.accessStep_endSlot ..
      · exact .refl s

theorem Body.stepsAccess_releaseLog : Body.StepsAccess bodyReleaseLog := fun p s => by
  have released (l : Log) : s.AccessStep { s with log := l } := .of_blocks rfl rfl rfl rfl rfl
  have marked (e : Bool) (v : State) : v.AccessStep (v.markAfterRelease e) :=
    State.AccessStep.ite (.of_blocks rfl rfl rfl rfl rfl)
  unfold bodyReleaseLog
  split
  · exact .refl s
  · split
    · exact .refl s
    · split
      · exact ((released _).trans (State.accessStep_takeRecord ..)).trans (marked ..)
      · exact .refl s

theorem State.accessStep_stage (p : List Byte) (checks : List (Nat × Bool)) (write : Staged → Staged) (s : State) :
    s.AccessStep (s.stage p checks write).1 := by
  unfold State.stage
  split
  · exact .refl s
  · split
    · exact .refl s
    · split
      · exact .refl s
      · exact .of_blocks rfl rfl rfl rfl rfl

theorem Body.stepsAccess_applyStaged : Body.StepsAccess State.applyStaged := fun p s => by
  unfold State.applyStaged
  split
  · exact .refl s
  · split
    · exact .refl s
    · split
      · exact .refl s
      · split
        · exact .refl s
        · exact .of_blocks rfl rfl rfl rfl rfl

theorem Body.stepsAccess_resetEcu : Body.StepsAccess bodyResetEcu := fun p s => by
  unfold bodyResetEcu
  split
  · exact .refl s
  · split
    · exact .refl s
    · exact State.accessStep_resetRequestCause s

theorem Body.stepsAccess_unlock : Body.StepsAccess bodyUnlock := fun p s => by
  unfold bodyUnlock
  split
  · exact .refl s
  · split
    · exact .refl s
    · split
      · exact State.accessStep_endLockdown ..
      · exact .refl s

theorem Body.StepsAccess.ifUnprovisioned {body : Body} (h : body.StepsAccess) :
    Body.StepsAccess (Machine.ifUnprovisioned body) := fun p s => by
  unfold Machine.ifUnprovisioned
  split
  · exact .refl s
  · exact h p s

theorem Body.stepsAccess_provisionKey : Body.StepsAccess bodyProvisionKey :=
  .ifUnprovisioned fun p s => by
    split
    · exact .refl s
    · exact State.accessStep_queueItem ..

theorem Body.stepsAccess_provisionIdentity : Body.StepsAccess bodyProvisionIdentity :=
  .ifUnprovisioned fun p s => by
    split
    · exact .refl s
    · exact .of_blocks rfl rfl rfl rfl rfl

theorem Body.stepsAccess_finishProvisioning : Body.StepsAccess bodyFinishProvisioning :=
  .ifUnprovisioned fun p s => by
    split
    · exact .refl s
    · exact State.accessStep_queueItem ..

theorem Body.stepsAccess_readLog : Body.StepsAccess bodyReadLog :=
  Body.stepsAccess_of_eq fun p s => by
    unfold bodyReadLog
    split <;> rfl

theorem Body.stepsAccess_readCell : Body.StepsAccess bodyReadCell :=
  Body.stepsAccess_of_eq fun p s => by
    unfold bodyReadCell
    split <;> rfl

theorem Body.stepsAccess_readTable : Body.StepsAccess bodyReadTable :=
  Body.stepsAccess_of_eq fun p s => by
    unfold bodyReadTable
    split <;> rfl

end
end Sys2Proof.Machine
end

section
namespace Sys2Proof.Machine

section
variable {s t u : State}

/-! ## What a step can be: one of the ports' moves before the arbiter's grant, a power-on reset, or none of these -/

/-- A step that is none of the ports': it passes the laws of access on, and fills no slot before start-up has ended. -/
structure State.Quiet (s t : State) : Prop extends s.AccessStep t where
  startUp : s.StartUpLaw → t.StartUpLaw

/-- A step of the two ports or of the counter guard, before the arbiter's grant at its end. -/
inductive State.PortMove (s : State) : State → Prop
  | none : PortMove s s
  | cycle (l : CycleLines) : PortMove s (s.presentCycle l)
  | accessEnd (data : Word) : PortMove s (s.endAccess data)
  | accessTimeout : PortMove s s.timeOutAccess
  | tick : PortMove s s.tickGuard
  | tableTick : PortMove s (s.withTime s.time.takeTableTick)
  | applyTick (pending : s.table.apply = .pending) : PortMove s (s.withTime s.time.takeTableTick).applyNow.divisorTick
  | ignitionOff : PortMove s s.ignitionOffGuard
  | busReset : PortMove s s.assertReset
  | busResetEnd : PortMove s (State.leaveResetHeld { s with port := { s.port with busReset := false } })
  | loadEnd (loading : s.start.phase = .loading) : PortMove s s.finishLoad
  | scanEnd (scanning : s.start.phase = .scanning) : PortMove s s.openPart

/-- What a step makes of a state. -/
inductive State.Next (s : State) : State → Prop
  | quiet {t : State} (h : s.Quiet t) : Next s t
  | served {u : State} (wide : Bool) (h : s.PortMove u) : Next s (u.serve wide)
  | powerOn {t : State} (strap : Bool) (h : execPowerOnReset strap s = .next t) : Next s t

theorem State.Quiet.refl (s : State) : s.Quiet s := ⟨.refl s, id⟩

theorem State.Quiet.trans (h : s.Quiet t) (k : t.Quiet u) : s.Quiet u :=
  ⟨h.toAccessStep.trans k.toAccessStep, k.startUp ∘ h.startUp⟩

theorem State.AccessStep.quiet (h : s.AccessStep t) (k : s.SameTraffic t) : s.Quiet t := ⟨h, k.startUp⟩

theorem State.Quiet.ite {c : Prop} [Decidable c] (h : s.Quiet t) : s.Quiet (if c then t else s) := by
  split
  · exact h
  · exact .refl s

/-- An operation that leaves these blocks. -/
theorem State.Quiet.of_blocks (start : t.start = s.start) (port : t.port = s.port) (mem : t.mem = s.mem)
    (decision : t.decision = s.decision) (grants : t.grants = s.grants) (link : t.link = s.link) : s.Quiet t where
  toAccessStep := .of_blocks start port mem decision grants
  startUp h p := by
    rw [start] at p
    rw [grants, link]
    exact h p

/-- A change of the link that leaves it OFF and idle where it was. -/
theorem State.quiet_link {l : Link}
    (h : s.link.receiver = .off → s.link.execution = none → l.receiver = .off ∧ l.execution = none) :
    s.Quiet { s with link := l } :=
  (State.accessStep_setLink l s).quiet (State.sameTraffic_link h)

theorem State.quiet_link_of_off {l : Link} (h : s.link.receiver = .off → l = s.link) : s.Quiet { s with link := l } :=
  (State.accessStep_setLink l s).quiet (State.sameTraffic_link_of_off h)

theorem State.quiet_completeCommand (a : Answer) (s : State) : s.Quiet (s.completeCommand a) :=
  (State.accessStep_setLink _ s).quiet (State.sameTraffic_completeCommand a s)

/-- R134: a message is executed only once the part runs, and start-up asks nothing then. -/
theorem State.quiet_runCommand (code : Byte) (size : Nat) {body : Body} (hb : body.StepsAccess) (s : State) :
    s.Quiet (s.runCommand code size body) := by
  rcases s.runCommand_cases code size body with e | ⟨a, e⟩ | ⟨p, ⟨m, hm, -⟩, -, e⟩ <;> rw [e]
  · exact .refl s
  · exact State.quiet_completeCommand a s
  · have done : s.AccessStep (State.finish (body p s)) := by
      unfold State.finish
      split
      · exact hb p s
      · exact (hb p s).trans (State.accessStep_setLink ..)
    have executing : s.link.execution = some .handOver := by
      unfold State.message at hm
      split at hm
      · assumption
      · exact nomatch hm
    refine ⟨done, fun h p => ?_⟩
    rw [done.start] at p
    exact nomatch executing.symm.trans (h p).2.2

theorem State.Quiet.next (h : s.Quiet t) : ∀ v, (Host.Outcome.next t : Host.Outcome State Fault Refusal) = .next v → s.Next v := by
  rintro v ⟨⟩
  exact .quiet h

theorem State.PortMove.next (h : s.PortMove u) (wide : Bool) :
    ∀ v, (Host.Outcome.next (u.serve wide) : Host.Outcome State Fault Refusal) = .next v → s.Next v := by
  rintro v ⟨⟩
  exact .served wide h

theorem State.quiet_grantSecond (s : State) : s.Quiet s.grantSecond :=
  s.accessStep_grantSecond.quiet s.sameTraffic_grantSecond

/-- R66: a second that ends the decay interval. -/
theorem State.quiet_decaySecond (s : State) : s.Quiet (State.decayScore (s.withTime s.time.takeDecisionSecond)) :=
  ((State.accessStep_withTime _ s).trans (State.accessStep_decayScore _)).quiet
    ((State.sameTraffic_withTime _ s).trans (State.sameTraffic_decayScore _))

theorem State.next_decayCount : ∀ t, execDecayCount s = .next t → s.Next t := by
  rintro t ⟨⟩
  split
  · exact .quiet s.quiet_decaySecond
  · have counted : s.AccessStep { s.withTime s.time.takeDecisionSecond with
        decision := { s.decision with decayCount := s.decision.decayCount + 1 } } :=
      (State.accessStep_withTime _ s).trans (State.accessStep_setScore rfl id id)
    exact .quiet ⟨counted, id⟩

theorem State.next_lampStep (n : Fin 32) : ∀ t, execLampStep n s = .next t → s.Next t := by
  rintro t ⟨⟩
  split
  · exact .quiet (.of_blocks rfl rfl rfl rfl rfl rfl)
  · exact .quiet (.refl s)

theorem State.next_ignitionOffGrantTable : ∀ t, execIgnitionOffGrantTable s = .next t → s.Next t := by
  have taken (f : IgnitionFilter) : s.Quiet { s with ignition := f } := .of_blocks rfl rfl rfl rfl rfl rfl
  rintro t ⟨⟩
  split
  · exact .quiet (.refl s)
  · exact .quiet ((taken _).trans ((State.accessStep_forSlots State.accessStep_ignitionOffSlot _).quiet
      (State.sameTraffic_forSlots State.sameTraffic_ignitionOffSlot _)))

theorem State.next_ignitionMirror (on : Bool) : ∀ t, execIgnitionMirror on s = .next t → s.Next t := by
  rintro t ⟨⟩
  split
  · exact .quiet (.of_blocks rfl rfl rfl rfl rfl rfl)
  · exact .quiet (.refl s)

theorem State.next_lengthError : ∀ t, execLengthError s = .next t → s.Next t := by
  rintro t ⟨⟩
  split
  · exact .quiet (State.quiet_completeCommand ..)
  · exact .quiet (.refl s)

theorem State.next_unknown : ∀ t, execUnknown s = .next t → s.Next t := by
  rintro t ⟨⟩
  split
  · exact .quiet (.refl s)
  · split
    · exact .quiet (.refl s)
    · split <;> exact .quiet (State.quiet_completeCommand ..)

theorem State.next_proofResult : ∀ t, execProofResult s = .next t → s.Next t := by
  rintro t ⟨⟩
  split
  · exact .quiet (.refl s)
  · exact .quiet ((State.accessStep_takeResult ..).quiet (State.sameTraffic_takeResult ..))

theorem State.next_applyTick (wide : Bool) : ∀ t, execApplyTick wide s = .next t → s.Next t := by
  rintro t ⟨⟩
  split
  · rename_i pending
    exact .served wide (.applyTick pending)
  · exact .served wide .tableTick

theorem State.next_holdExpiry (n : Fin 8) (wide : Bool) : ∀ t, execHoldExpiry n wide s = .next t → s.Next t := by
  rintro t ⟨⟩
  split
  · exact .served wide .tick
  · exact .served wide .none

theorem State.next_scanEnd (wide : Bool) : ∀ t, execScanEnd wide s = .next t → s.Next t := by
  rintro t ⟨⟩
  split
  · rename_i done
    exact .served wide (.scanEnd done.1)
  · exact .quiet (.refl s)

theorem State.next_storeLoadEnd (wide : Bool) : ∀ t, execStoreLoadEnd wide s = .next t → s.Next t := by
  rintro t ⟨⟩
  split
  · rename_i loading
    exact .served wide (.loadEnd loading)
  · exact .quiet (.refl s)

/-- Every command is one of these, row by row of the command table. -/
theorem State.next_exec (i : Instr) (s : State) : ∀ t, exec i s = .next t → s.Next t := by
  have blocks {t : State} (start : t.start = s.start) (port : t.port = s.port) (mem : t.mem = s.mem)
      (decision : t.decision = s.decision) (grants : t.grants = s.grants) (link : t.link = s.link) :=
    (State.Quiet.of_blocks start port mem decision grants link).next
  have link {l : Link} (h : s.link.receiver = .off → l = s.link) := (State.quiet_link_of_off h).next
  have message (code : Byte) (size : Nat) {body : Body} (h : body.StepsAccess) := (s.quiet_runCommand code size h).next
  have staged (code : Byte) (size : Nat) (checks : List Byte → List (Nat × Bool))
      (write : List Byte → Staged → Staged) :=
    message code size (body := fun p s => s.stage p (checks p) (write p)) fun _ _ => State.accessStep_stage ..
  cases i with
  | processorCycle lines wide => exact (State.PortMove.cycle lines).next wide
  | accessEnd data wide => exact (State.PortMove.accessEnd data).next wide
  | accessTimeout wide => exact State.PortMove.accessTimeout.next wide
  | counterTick wide => exact State.PortMove.tick.next wide
  | holdExpiry cell wide => exact State.next_holdExpiry cell wide
  | applyTick wide => exact State.next_applyTick wide
  | grantTableSecond => exact s.quiet_grantSecond.next
  | challengeExpiry slot => exact s.quiet_grantSecond.ite.next
  | lifetimeExpired slot => exact s.quiet_grantSecond.ite.next
  | backoffEnd => exact s.quiet_grantSecond.ite.next
  | decayCount => exact State.next_decayCount
  | scoreDecay => exact s.quiet_decaySecond.ite.next
  | lampStep step => exact State.next_lampStep step
  | ignitionSample line => exact blocks rfl rfl rfl rfl rfl rfl
  | ignitionOffGrantTable => exact State.next_ignitionOffGrantTable
  | ignitionOffCounterGuard wide => exact State.PortMove.ignitionOff.next wide
  | ignitionMirror on => exact State.next_ignitionMirror on
  | alertPulseEnd => exact blocks rfl rfl rfl rfl rfl rfl
  | alertGapEnd => exact blocks rfl rfl rfl rfl rfl rfl
  | resetRequestPulseEnd => exact blocks rfl rfl rfl rfl rfl rfl
  | resetRequestGapEnd => exact blocks rfl rfl rfl rfl rfl rfl
  | logRecord report =>
    exact ((State.accessStep_takeRecord report s).quiet (State.sameTraffic_takeRecord report s)).next
  | storeWriteComplete =>
    have stored (v : State) : v.Quiet v.applyStored := State.Quiet.ite (.of_blocks rfl rfl rfl rfl rfl rfl)
    have completed : s.Quiet { s with store := s.store.complete } := .of_blocks rfl rfl rfl rfl rfl rfl
    exact (completed.trans (stored _)).next
  | powerOnReset strap => exact fun t h => .powerOn strap h
  | scanEnd wide => exact State.next_scanEnd wide
  | busResetAssert wide => exact State.PortMove.busReset.next wide
  | busResetDeassert wide => exact State.PortMove.busResetEnd.next wide
  | gapTimeout => exact link Link.gapTimeout_off
  | linkOff => exact (State.quiet_link Link.off_off).next
  | replySent => exact link Link.replyEnd_off
  | lengthError => exact State.next_lengthError
  | unknown => exact State.next_unknown
  | identify => exact message _ _ (Body.stepsAccess_of_eq fun _ _ => rfl)
  | status => exact message _ _ (Body.stepsAccess_of_eq fun _ _ => rfl)
  | requestGrant => exact message _ _ Body.stepsAccess_requestGrant
  | proveGrant => exact message _ _ Body.stepsAccess_proveGrant
  | proofResult => exact State.next_proofResult
  | closeGrant => exact message _ _ Body.stepsAccess_closeGrant
  | listGrants => exact message _ _ (Body.stepsAccess_of_eq fun _ _ => rfl)
  | readLog => exact message _ _ Body.stepsAccess_readLog
  | releaseLog => exact message _ _ Body.stepsAccess_releaseLog
  | readCell => exact message _ _ Body.stepsAccess_readCell
  | readTable => exact message _ _ Body.stepsAccess_readTable
  | stageWindow => exact staged _ _ stageWindowChecks stageWindowWrite
  | stageCell => exact staged _ _ stageCellChecks stageCellWrite
  | stageSettings => exact staged _ _ (checkSettings · 6) fun p st => { st with settings := some (readSettings p 6) }
  | applyStaged => exact message _ _ Body.stepsAccess_applyStaged
  | discardStaged => exact staged _ _ (fun _ => []) fun _ _ => .empty
  | resetEcu => exact message _ _ Body.stepsAccess_resetEcu
  | unlock => exact message _ _ Body.stepsAccess_unlock
  | provisionKey => exact message _ _ Body.stepsAccess_provisionKey
  | provisionIdentity => exact message _ _ Body.stepsAccess_provisionIdentity
  | finishProvisioning => exact message _ _ Body.stepsAccess_finishProvisioning
  | frameArrival frame => exact link (Link.frameEnd_off _ frame)
  | startBitConfirmed fall => exact link (Link.startBit_off fall _)
  | storeLoadEnd wide => exact State.next_storeLoadEnd wide

/-- A guard-clock period of an empty queue is none of the ports'. -/
theorem State.quiet_period (s : State) : s.Quiet s.period := by
  have counted : s.AccessStep s.period := .of_account rfl rfl rfl rfl rfl id
  exact counted.quiet s.sameTraffic_period

/-- Every step is a guard-clock period, or one of these from the state without the command taken. -/
theorem State.step_cases (h : step s = .next t) :
    s.Quiet t ∨ ∃ rest, State.Next { s with pending := rest } t := by
  unfold step at h
  split at h
  · obtain ⟨⟩ := h
    exact .inl s.quiet_period
  · rename_i c rest _
    exact .inr ⟨rest, State.next_exec c _ t h⟩

end
end Sys2Proof.Machine
end

section
namespace Sys2Proof.Machine

/-! ## Properties that the counter guard and the ports keep

A property of the ports, the decision unit, the grants, start-up and the link that survives the few changes the counter
guard makes of these by itself survives everything it does (`State.Inert`); where it also survives the changes of the
processor port, it survives every cycle (`State.Steady`), and where it does not read the memory port either, the moves
of both ports (`State.Loose`). -/

/-- A property that does not read the cells, the log, the store, the tables, the time and the outputs, and that an
internal request, a charge and an increment keep. -/
structure State.Inert (P : State → Prop) : Prop where
  blocks : ∀ {s t : State}, P s → t.start = s.start → t.port = s.port → t.decision = s.decision → t.mem = s.mem →
    t.grants = s.grants → t.link = s.link → t.guard.waitingWrite = s.guard.waitingWrite → P t
  enqueueInternal : ∀ {s : State} {r : Request}, r.requester.isInternal = true → P s → P (s.enqueueInternal r)
  charge : ∀ {s : State} (i : Fin 4), P s → P (s.charge i)
  scoreIncrement : ∀ {s : State} (k : Nat) (cause : Reason), P s → P (s.scoreIncrement k cause)

/-- An inert property that the processor port's requests, completions and decisions keep too. -/
structure State.Steady (P : State → Prop) : Prop extends State.Inert P where
  enqueueProcessor : ∀ {s : State} {r : Request}, r.requester.isInternal = false → P s → P (s.enqueueProcessor r)
  setWaiting : ∀ {s : State} (w : Option (Fin 8)), P s → P { s with guard := { s.guard with waitingWrite := w } }
  completed : ∀ {s : State} (data : Option Word), P s → P (s.completed data)
  decided : ∀ {s : State} (c : Cycle), P s → P (s.decided c)
  judged : ∀ {s : State} {d : DecisionRecord}, s.decision.record = some d → P s →
    P { s with decision := { s.decision with record := some { d with fill := some .judged } } }
  setPort : ∀ {s : State} (p : ProcPort), P s → P { s with port := p }

/-- A steady property that does not read the memory port. -/
structure State.Loose (P : State → Prop) : Prop extends State.Steady P where
  setMem : ∀ {s : State} (m : MemPort), P s → P { s with mem := m }

section
variable {P : State → Prop} {s : State} {n : Fin 8} {d : CellDef}

namespace State.Inert

/-! ## The counter guard by itself -/

theorem takeRecord (h : Inert P) (r : Report) (hs : P s) : P (s.takeRecord r) :=
  h.blocks hs (by simp) (by simp) (by simp) (by simp) (by simp) (by simp) (by simp)

theorem alertCause (h : Inert P) (hs : P s) : P s.alertCause := h.blocks hs rfl rfl rfl rfl rfl rfl rfl

theorem queueItem (h : Inert P) (w : ItemWrite) (hs : P s) : P (s.queueItem w) := h.blocks hs rfl rfl rfl rfl rfl rfl rfl

theorem setCell (h : Inert P) (n : Fin 8) (c : Cell) (hs : P s) : P (s.setCell n c) :=
  h.blocks hs rfl rfl rfl rfl rfl rfl rfl

theorem modifyLive (h : Inert P) (n : Fin 8) (f : LiveState → LiveState) (hs : P s) : P (s.modifyLive n f) :=
  h.setCell n _ hs

theorem setOp (h : Inert P) (n : Fin 8) (op : Option Operation) (hs : P s) : P (s.setOp n op) := h.setCell n _ hs

theorem withTime (h : Inert P) (x : Timebase) (hs : P s) : P (s.withTime x) := h.blocks hs rfl rfl rfl rfl rfl rfl rfl

theorem forCells (_ : Inert P) {f : Fin 8 → State → State} (hf : ∀ n (s : State), P s → P (f n s)) (hs : P s) :
    P (Machine.forCells f s) := forCells_induct P f hf s hs

theorem startInternal (h : Inert P) (n : Fin 8) (d : CellDef) (dir : Direction) (v : Nat) (op : Operation) (hs : P s) :
    P (s.startInternal n d dir v op) := h.enqueueInternal rfl (h.setOp n _ hs)

theorem startNewRead (h : Inert P) (n : Fin 8) (hs : P s) : P (s.startNewRead n) := by
  unfold State.startNewRead
  split
  · exact hs
  · split
    · exact h.setOp n _ hs
    · exact h.startInternal n _ _ _ _ hs

theorem releaseRead (h : Inert P) (w : ReadWait) (n : Fin 8) (hs : P s) : P (s.releaseRead w n) := by
  rcases State.releaseRead_cases w n s with ⟨d, -, -, e⟩ | e <;> rw [e]
  · exact h.startInternal n _ _ _ _ hs
  · exact hs

theorem releaseReads (h : Inert P) (hs : P s) : P s.releaseReads := h.forCells (fun n _ => h.releaseRead _ n) hs

theorem releaseAbandoned (h : Inert P) (hs : P s) : P s.releaseAbandoned := h.forCells (fun n _ => h.releaseRead _ n) hs

theorem keepRead (h : Inert P) (n : Fin 8) (hs : P s) : P (s.keepRead n) := by
  unfold State.keepRead
  split
  · exact h.setOp n _ hs
  · exact hs

theorem chargeOpt (h : Inert P) (c : Option (Fin 4)) (hs : P s) : P (s.chargeOpt c) := by
  cases c with
  | none => exact hs
  | some i => exact h.charge i hs

theorem violation (h : Inert P) (r : Report) (k : Nat) (cause : Reason) (hs : P s) :
    P (((s.takeRecord r).scoreIncrement k cause).alertCause) :=
  h.alertCause (h.scoreIncrement k cause (h.takeRecord r hs))

theorem denial (h : Inert P) (c : Cycle) (d : DecisionRecord) (hs : P s) : P (s.denial c d) := by
  rw [State.denial_eq]
  split
  · exact h.violation _ _ _ hs
  · exact h.scoreIncrement _ _ (h.takeRecord _ hs)

theorem reportTimeout (h : Inert P) (t : Transfer) (hs : P s) : P (s.reportTimeout t) := by
  unfold State.reportTimeout
  split
  · exact hs
  · exact h.alertCause (h.takeRecord _ hs)

/-! ## Evaluations (R76 to R80) -/

/-- A write of an evaluation keeps the property, where one of origin PROCESSOR does. -/
theorem startWrite (h : Inert P) {o : Origin} {v : Nat} {isSet : Bool}
    (hw : o = .processor → P s → P (s.startWrite n d .processor v isSet)) (hs : P s) :
    P (s.startWrite n d o v isSet) := by
  cases o with
  | processor => exact hw rfl hs
  | hold => exact h.startInternal n _ _ _ _ hs
  | ignition => exact h.startInternal n _ _ _ _ hs

theorem judgeByMode (h : Inert P) {o : Origin} {p : Nat} {v : LiveState}
    (hw : o = .processor → ∀ (s : State) (x : Nat) (isSet : Bool), P s → P (s.startWrite n d .processor x isSet))
    (hs : P s) : P (s.judgeByMode n d o p v) := by
  have write {s : State} (hs : P s) (x : Nat) : P (s.startWrite n d o x false) :=
    h.startWrite (fun e => hw e s x false) hs
  unfold State.judgeByMode
  split
  · exact hs
  · split
    · exact h.violation _ _ _ hs
    · split
      · exact write hs _
      · unfold State.rateRise
        split
        · exact write (h.modifyLive n _ hs) _
        · have clamped := h.alertCause (h.takeRecord (cellReport .counterClamped n none d.address p
            (some (v.shadow + v.credit / 65536)))
            (h.modifyLive n (fun x => { x with credit := x.credit - v.credit / 65536 * 65536 }) hs))
          unfold State.clampRise
          simp only []
          split
          · exact write clamped _
          · exact clamped

theorem evaluate (h : Inert P) {o : Origin} {p : Nat}
    (hw : o = .processor → ∀ (s : State) (d : CellDef) (x : Nat) (isSet : Bool), P s →
      P (s.startWrite n d .processor x isSet))
    (hs : P s) : P (s.evaluate n o p) := by
  unfold State.evaluate
  split
  · have bare := h.modifyLive n (fun x => { x with half := none }) hs
    simp only []
    split
    · exact h.startWrite (fun e => hw e _ _ _ _) (h.takeRecord _ (h.chargeOpt _ bare))
    · exact h.judgeByMode (fun e s => hw e s _) bare
  · exact hs

theorem evaluatePending (h : Inert P) {o : Origin} (ho : o ≠ .processor) (n : Fin 8) (hs : P s) :
    P (s.evaluatePending n o) := by
  unfold State.evaluatePending
  split
  · exact hs
  · split
    · exact hs
    · exact h.evaluate (fun e => absurd e ho) hs

/-! ## Floors, ticks and the ends of operations (R74, R75, R80, R88 to R95) -/

theorem settleFloor (h : Inert P) (n : Fin 8) (hs : P s) : P (s.settleFloor n) := by
  unfold State.settleFloor
  split
  · exact hs
  · simp only []
    split
    · exact h.modifyLive n _ hs
    · exact h.queueItem _ (h.modifyLive n _ hs)

theorem settle (h : Inert P) (n : Fin 8) (hs : P s) : P (s.settle n) := by
  have evaluated : P (s.evaluatePending n .ignition) := h.evaluatePending (by simp) n hs
  unfold State.settle
  split
  · exact hs
  · split
    · simp only []
      split
      · exact evaluated
      · exact h.settleFloor n evaluated
    · exact hs

theorem scanReadEnd (h : Inert P) (n : Fin 8) (d : CellDef) (r : TransferResult) (hs : P s) :
    P (s.scanReadEnd n d r) := by
  have live (v : LiveState) : P (s.becomeLive n v) := h.setCell n _ hs
  unfold State.scanReadEnd
  simp only []
  split
  · exact live _
  · split
    · exact live _
    · exact h.startInternal n _ _ _ _ (h.violation _ _ _ (live _))

theorem newReadEnd (h : Inert P) (n : Fin 8) (d : CellDef) (r : TransferResult) (hs : P s) : P (s.newReadEnd n d r) := by
  unfold State.newReadEnd
  split
  · exact h.setOp n _ hs
  · exact h.queueItem _ (h.setCell n _ hs)

theorem evaluationEnd (h : Inert P) (n : Fin 8) (v : Nat) (isSet : Bool) (r : TransferResult) (hs : P s) :
    P (s.evaluationEnd n v isSet r) := by
  have ended : P (s.setOp n none) := h.setOp n _ hs
  unfold State.evaluationEnd
  simp only []
  split
  · exact ended
  · split
    · exact h.modifyLive n _ ended
    · split
      · exact h.queueItem _ (h.modifyLive n _ ended)
      · exact h.modifyLive n _ ended

theorem restoreEnd (h : Inert P) (n : Fin 8) (r : TransferResult) (hs : P s) : P (s.restoreEnd n r) := by
  unfold State.restoreEnd
  simp only []
  split
  · exact h.modifyLive n _ (h.setOp n _ hs)
  · exact h.setOp n _ hs

theorem correctionEnd (h : Inert P) (n : Fin 8) (r : TransferResult) (hs : P s) : P (s.correctionEnd n r) := by
  unfold State.correctionEnd
  simp only []
  split
  · exact h.modifyLive n _ (h.setOp n _ hs)
  · exact h.setOp n _ hs

theorem tickCell (h : Inert P) (n : Fin 8) (hs : P s) : P (s.tickCell n) := by
  have accrued : P (s.accrueCell n) := by
    unfold State.accrueCell
    split
    · exact hs
    · split
      · exact h.modifyLive n _ hs
      · exact hs
  have repaired {t : State} (ht : P t) : P (t.repairCell n) := by
    unfold State.repairCell
    split
    · split
      · exact h.startInternal n _ _ _ _ ht
      · exact ht
    · exact ht
  have retried {t : State} (ht : P t) : P (t.retryCell n) := by
    unfold State.retryCell
    split
    · exact h.startNewRead n ht
    · exact ht
  have aged : P ((s.accrueCell n).ageCell n) := h.modifyLive n _ accrued
  unfold State.tickCell
  simp only []
  split
  · exact h.evaluatePending (by simp) n aged
  · exact retried (repaired aged)

theorem tickGuard (h : Inert P) (hs : P s) : P s.tickGuard := h.forCells (fun n _ => h.tickCell n) (h.withTime _ hs)

theorem ignitionOffGuard (h : Inert P) (hs : P s) : P s.ignitionOffGuard := by
  unfold State.ignitionOffGuard
  split
  · exact hs
  · exact h.forCells (fun n _ => h.settle n)
      (h.forCells (fun n _ => h.modifyLive n _) (h.blocks hs rfl rfl rfl rfl rfl rfl rfl))

theorem tearHalf (h : Inert P) (n : Fin 8) (d : CellDef) (reason : Reason) (hs : P s) : P (s.tearHalf n d reason) := by
  unfold State.tearHalf
  split
  · exact hs
  · split
    · exact hs
    · exact h.takeRecord _ (h.modifyLive n _ hs)

theorem tearForReset (h : Inert P) (n : Fin 8) (hs : P s) : P (s.tearForReset n) := by
  unfold State.tearForReset
  split
  · exact hs
  · exact h.tearHalf n _ _ hs

theorem addCell (h : Inert P) (n : Fin 8) (hs : P s) : P (s.addCell n) := by
  unfold State.addCell
  simp only []
  split
  · exact h.startNewRead n (h.setCell n _ hs)
  · exact h.setCell n _ hs

/-! ## Ends of operations, and the tick of an apply, but for what they do with a waiting write (R43, R44, R82, R97 to R101) -/

theorem opEnd (h : Inert P) (waiting : ∀ s : State, P s → P (s.takeWaiting n)) (r : TransferResult) (hs : P s) : P (s.opEnd n r) := by
  have after {t : State} (ht : P t) : P (t.afterOp n) := h.settle n (waiting _ ht)
  unfold State.opEnd
  split
  · have taken := waiting _ (h.setCell n { s.cell n with op := none, stale := false } hs)
    unfold State.staleEnd
    simp only []
    split
    · exact h.startNewRead n taken
    · exact taken
  · split
    · exact after (h.scanReadEnd n _ r hs)
    · exact after (h.newReadEnd n _ r hs)
    · exact after (h.correctionEnd n r hs)
    · exact after (h.restoreEnd n r hs)
    · exact after (h.evaluationEnd n _ _ r hs)
    · exact hs

theorem tellNotMade (h : Inert P) (waiting : ∀ (n : Fin 8) (s : State), P s → P (s.takeWaiting n)) (r : Request) (hs : P s) : P (s.tellNotMade r) := by
  unfold State.tellNotMade
  split
  · exact h.opEnd (waiting _) _ hs
  · exact hs

theorem changeCell (h : Inert P) (absorbed : ∀ s : State, P s → P (s.absorbWaiting n)) (old new : Option CellDef)
    (hs : P s) : P (s.changeCell n old new) := by
  unfold State.changeCell
  split
  · exact h.addCell n hs
  · exact h.queueItem _ (h.setCell n _ (absorbed _ (h.tearHalf n _ _ hs)))
  · exact h.addCell n (absorbed _ (h.tearHalf n _ _ hs))
  · exact h.modifyLive n _ hs
  · exact hs

theorem applyNow (h : Inert P) (absorbed : ∀ (n : Fin 8) (s : State), P s → P (s.absorbWaiting n)) (hs : P s) : P s.applyNow := by
  have replaced (st : Staged) (n : Fin 8) (t : State) (ht : P t) : P (t.replaceDefn st n) := by
    unfold State.replaceDefn
    split
    · exact ht
    · exact h.setCell n _ ht
  have notified (st : Staged) (old : Vector (Option CellDef) 8) (n : Fin 8) (t : State) (ht : P t) :
      P (t.notifyCell st old n) := by
    unfold State.notifyCell
    split
    · exact ht
    · exact h.changeCell (absorbed n) _ _ ht
  have applied := h.forCells (replaced s.table.staged)
    (h.blocks (t := { s with table := s.table.applied }) hs rfl rfl rfl rfl rfl rfl rfl)
  have queued {t : State} (x : Store) (ht : P t) : P { t with store := x } := h.blocks ht rfl rfl rfl rfl rfl rfl rfl
  have recorded := h.takeRecord (configAppliedReport s.table.applyingSlot s.table.staged.writes.length)
    (queued (s.table.staged.writes.foldl (fun q w => q.queueItem w) (Machine.forCells
      (State.replaceDefn s.table.staged) { s with table := s.table.applied }).store) applied)
  exact h.forCells (notified _ _) (h.blocks recorded rfl rfl rfl rfl rfl rfl rfl)

end State.Inert

namespace State.Steady

/-! ## The processor port (R1 to R10, R47 to R60, R81 to R85) -/

theorem completeCycle (h : Steady P) (data : Option Word) (hs : P s) : P (s.completeCycle data) :=
  h.releaseReads (h.completed data hs)

theorem completeIfActive (h : Steady P) (data : Option Word) (hs : P s) : P (s.completeIfActive data) := by
  unfold State.completeIfActive
  split
  · exact h.completeCycle data hs
  · exact hs

theorem evaluate (h : Steady P) (n : Fin 8) (o : Origin) (p : Nat) (hs : P s) : P (s.evaluate n o p) :=
  h.toInert.evaluate (fun _ _ _ _ _ hs => h.enqueueProcessor rfl (h.setOp n _ hs)) hs

theorem takeWrite (h : Steady P) (n : Fin 8) (hs : P s) : P (s.takeWrite n) := by
  have finish {t : State} (ht : P t) : P (t.finishWrite n) := by
    unfold State.finishWrite
    split
    · exact ht
    · exact h.completeCycle _ ht
  have evaluated (p : Nat) : P ((s.evaluate n .processor p).finishWrite n) := finish (h.evaluate n _ p hs)
  have pending (x : Half) (v : Word) : P (s.setPending n x v) := h.completeCycle _ (h.modifyLive n _ hs)
  unfold State.takeWrite
  split
  · exact hs
  · split
    · split
      · exact evaluated _
      · unfold State.takeHalf
        split
        · exact pending ..
        · split
          · exact pending ..
          · exact evaluated _
    · exact h.completeCycle _ hs

theorem counterWrite (h : Steady P) (n : Fin 8) (c : Cycle) (hs : P s) : P (s.counterWrite n c) := by
  unfold State.counterWrite
  split
  · exact h.completeCycle _ (h.violation _ _ _ hs)
  · split
    · exact h.setWaiting _ hs
    · exact h.takeWrite n hs

theorem counterRead (h : Steady P) (n : Fin 8) (c : Cycle) (w : MatchedWindow) (hs : P s) : P (s.counterRead n c w) := by
  unfold State.counterRead
  split
  · exact h.completeCycle _ hs
  · exact h.enqueueProcessor rfl hs

theorem denyCycle (h : Steady P) (c : Cycle) (d : DecisionRecord) (hs : P s) : P (s.denyCycle c d) :=
  h.denial c d (h.completeCycle _ hs)

theorem carryOut (h : Steady P) (c : Cycle) (d : DecisionRecord) (hs : P s) : P (s.carryOut c d) := by
  unfold State.carryOut
  split
  · refine h.enqueueProcessor rfl ?_
    unfold State.chargePass
    split
    · exact h.chargeOpt _ hs
    · exact hs
  · exact h.denyCycle c d hs
  · exact h.denyCycle c d hs
  · exact h.enqueueProcessor rfl hs
  · split
    · exact hs
    · split
      · exact h.counterWrite _ c hs
      · exact h.counterRead _ c _ hs

theorem takeCycle (h : Steady P) (l : CycleLines) (hs : P s) : P (s.takeCycle l) := by
  have failed (reason : Reason) : P (s.parityFailure reason l) :=
    h.completeCycle _ (h.alertCause (h.takeRecord _ hs))
  unfold State.takeCycle
  split
  · exact failed _
  · split
    · exact failed _
    · exact h.completeCycle _ hs
    · exact h.carryOut _ _ (h.decided (s := s) _ hs)

theorem takePresented (h : Steady P) (hs : P s) : P s.takePresented := by
  unfold State.takePresented
  split
  · exact hs
  · exact h.takeCycle _ (h.setPort _ hs)

theorem presentCycle (h : Steady P) (l : CycleLines) (hs : P s) : P (s.presentCycle l) := by
  unfold State.presentCycle
  split
  · exact h.takeCycle l hs
  · exact h.setPort _ hs
  · exact h.setPort _ hs
  · exact hs

theorem leaveResetHeld (h : Steady P) (hs : P s) : P s.leaveResetHeld := by
  unfold State.leaveResetHeld
  split
  · exact h.takePresented (h.setPort _ hs)
  · exact hs

theorem openPort (h : Steady P) (hs : P s) : P s.openPort := by
  unfold State.openPort
  split
  · exact h.setPort _ hs
  · exact h.takePresented (h.setPort _ hs)

theorem judgeFill (h : Steady P) (timedOut : Bool) (word : Word) (hs : P s) : P (s.judgeFill timedOut word) := by
  unfold State.judgeFill
  split
  · rename_i c d hc hd
    have judged := h.judged hd hs
    simp only []
    split
    · exact h.completeCycle _ judged
    · split
      · exact h.enqueueProcessor rfl judged
      · split
        · exact h.chargeOpt _ (h.enqueueProcessor rfl judged)
        · exact h.denyCycle _ _ judged
  · exact hs

/-! ## The ends of operations and transfers (R15, R20, R82, R101) -/

theorem takeWaiting (h : Steady P) (n : Fin 8) (hs : P s) : P (s.takeWaiting n) := by
  unfold State.takeWaiting
  split
  · exact h.takeWrite n (h.setWaiting _ hs)
  · exact hs

theorem opEnd (h : Steady P) (n : Fin 8) (r : TransferResult) (hs : P s) : P (s.opEnd n r) :=
  h.toInert.opEnd (fun _ => h.takeWaiting n) r hs

theorem deliver (h : Steady P) (t : Transfer) (hs : P s) : P (s.deliver t) := by
  have unlessDropped {u : State} (hu : P u) : P (if t.dropped then s.releaseAbandoned else u) := by
    split
    · exact h.releaseAbandoned hs
    · exact hu
  unfold State.deliver
  split
  · exact h.opEnd _ _ hs
  · exact h.leaveResetHeld (h.completeIfActive _ (h.opEnd _ _ hs))
  · exact h.leaveResetHeld (h.completeIfActive _ hs)
  · exact unlessDropped (h.completeCycle _ hs)
  · exact unlessDropped (h.completeCycle _ hs)
  · exact unlessDropped (h.judgeFill _ _ hs)

theorem tellNotMade (h : Steady P) (r : Request) (hs : P s) : P (s.tellNotMade r) :=
  h.toInert.tellNotMade (fun n _ => h.takeWaiting n) r hs

/-! ## The tick of an apply (R43, R44, R97 to R101) -/

theorem applyNow (h : Steady P) (hs : P s) : P s.applyNow := by
  refine h.toInert.applyNow (fun n s hs => ?_) hs
  unfold State.absorbWaiting
  split
  · exact h.completeCycle _ (h.setWaiting _ hs)
  · exact hs

/-! ## Bus reset (R22, R23, R92, R93) -/

theorem assertReset (h : Steady P) (reset : ∀ s : State, P s → P { s with mem := s.mem.busReset }) (hs : P s) : P s.assertReset := by
  have cut {t : State} (ht : P t) : P { t with
      port := { t.port with state := .resetHeld, cycle := none, completion := none }
      decision := { t.decision with record := none }
      guard := { t.guard with waitingWrite := none }
      mem := t.mem.busReset } :=
    reset _ (h.setWaiting none
      (h.setPort { t.port with state := .resetHeld, cycle := none, completion := none } (h.completed none ht)))
  refine h.forCells (fun n _ => h.tearForReset n) ?_
  have raised := h.setPort { s.port with busReset := true } hs
  unfold State.portReset
  split
  · unfold State.abandon
    simp only []
    split
    · exact h.forCells (fun n _ => h.keepRead n) (cut raised)
    · exact h.releaseReads (cut raised)
  · exact h.setPort _ raised
  · exact raised

/-- Every move of the ports keeps the property, but for those of the memory port, of bus reset and of start-up, which
are to be shown apart. -/
theorem portMove (h : Steady P) (hs : P s) (access : ∀ data, P (s.endAccess data)) (timeout : P s.timeOutAccess)
    (reset : P s.assertReset) (link : ∀ t : State, P t → P t.divisorTick)
    (load : s.start.phase = .loading → P s.finishLoad) (scan : s.start.phase = .scanning → P s.openPart) {u : State}
    (k : s.PortMove u) : P u := by
  cases k with
  | none => exact hs
  | cycle l => exact h.presentCycle l hs
  | accessEnd data => exact access data
  | accessTimeout => exact timeout
  | tick => exact h.tickGuard hs
  | tableTick => exact h.withTime _ hs
  | applyTick => exact link _ (h.applyNow (h.withTime _ hs))
  | ignitionOff => exact h.ignitionOffGuard hs
  | busReset => exact reset
  | busResetEnd => exact h.leaveResetHeld (h.setPort _ hs)
  | loadEnd loading => exact load loading
  | scanEnd scanning => exact scan scanning

end State.Steady

/-! ## The end of an access (R13, R15) -/

/-- A transfer after one more access. -/
structure Transfer.Continues (t x : Transfer) : Prop where
  request : x.request = t.request
  dropped : x.dropped = t.dropped
  window : x.window = t.window

theorem Transfer.continues_advance (t : Transfer) (limit : Nat) : t.Continues (t.advance limit) := by
  unfold Transfer.advance
  split <;> exact ⟨rfl, rfl, rfl⟩

theorem Transfer.continues_gather (t : Transfer) (a : Access) (data : Word) : t.Continues (t.gather a data) := by
  rw [Transfer.gather_eq]
  exact ⟨rfl, rfl, rfl⟩

theorem Transfer.Continues.trans {t x y : Transfer} (h : t.Continues x) (k : x.Continues y) : t.Continues y :=
  ⟨k.request.trans h.request, k.dropped.trans h.dropped, k.window.trans h.window⟩

theorem State.endAccess_cases (data : Word) (s : State) : s.endAccess data = s ∨
    ∃ t x, s.mem.transfer = some t ∧ t.Continues x ∧ s.endAccess data = s.afterAccess x := by
  unfold State.endAccess
  split
  · exact .inl rfl
  · rename_i t ht
    split
    · exact .inl rfl
    · rename_i a _
      split
      · exact .inr ⟨t, _, ht, (t.continues_gather a data).trans (Transfer.continues_advance ..), rfl⟩
      · exact .inl rfl

theorem State.timeOutAccess_cases (s : State) : s.timeOutAccess = s ∨
    ∃ t x, s.mem.transfer = some t ∧ t.Continues x ∧ s.timeOutAccess = s.afterAccess x := by
  unfold State.timeOutAccess
  split
  · exact .inl rfl
  · rename_i t ht
    split
    · exact .inl rfl
    · rename_i a _
      split
      · have timedOut : t.Continues (t.timeOut a) := ⟨rfl, rfl, rfl⟩
        exact .inr ⟨t, _, ht, timedOut.trans (Transfer.continues_advance ..), rfl⟩
      · exact .inl rfl

namespace State.Loose

/-! ## The memory port and the arbiter (R12, R13, R20 to R24) -/

theorem afterAccess (h : Loose P) (t : Transfer) (hs : P s) : P (s.afterAccess t) := by
  unfold State.afterAccess
  split
  · exact h.deliver t (h.reportTimeout t (h.setMem _ hs))
  · exact h.setMem _ hs

theorem endAccess (h : Loose P) (data : Word) (hs : P s) : P (s.endAccess data) := by
  rcases s.endAccess_cases data with e | ⟨t, x, -, -, e⟩ <;> rw [e]
  · exact hs
  · exact h.afterAccess x hs

theorem timeOutAccess (h : Loose P) (hs : P s) : P s.timeOutAccess := by
  rcases s.timeOutAccess_cases with e | ⟨t, x, -, -, e⟩ <;> rw [e]
  · exact hs
  · exact h.afterAccess x hs

theorem serveWith (h : Loose P) (wide : Bool) : ∀ (fuel : Nat) (s : State), P s → P (State.serveWith wide fuel s)
  | 0, _, hs => hs
  | fuel + 1, s, hs => by
    rw [State.serveWith_succ]
    split
    · exact hs
    · simp only []
      split
      · exact serveWith h wide fuel _ (h.tellNotMade _ (h.setMem _ hs))
      · exact h.setMem _ (h.setMem _ hs)
    · exact h.setMem _ (h.setMem _ hs)
    · exact hs

theorem serve (h : Loose P) (wide : Bool) (hs : P s) : P (s.serve wide) := h.serveWith wide _ s hs

/-- Every move of the ports keeps the property, but for those of start-up, which are to be shown apart. -/
theorem portMove (h : Loose P) (hs : P s) (link : ∀ t : State, P t → P t.divisorTick)
    (load : s.start.phase = .loading → P s.finishLoad) (scan : s.start.phase = .scanning → P s.openPart) {u : State}
    (k : s.PortMove u) : P u :=
  h.toSteady.portMove hs (h.endAccess · hs) (h.timeOutAccess hs) (h.assertReset (fun _ => h.setMem _) hs) link load scan k

end State.Loose
end
end Sys2Proof.Machine
end

section
namespace Sys2Proof.Machine

section
variable {P : State → Prop} {s t : State}

/-! ## A loose property is kept by every step, where start-up, a power-on reset and the link keep it -/

theorem State.Loose.kept (h : State.Loose P) (quiet : ∀ s t : State, s.Quiet t → P s → P t)
    (load : ∀ s : State, s.start.phase = .loading → P s → P s.finishLoad) (scan : ∀ s : State, P s → P s.openPart)
    (powerOn : ∀ (strap : Bool) (s t : State), execPowerOnReset strap s = .next t → P t) : Kept P := by
  intro s t hs hstep
  rcases State.step_cases hstep with idle | ⟨rest, next⟩
  · exact quiet s t idle hs
  · have taken : P { s with pending := rest } := h.blocks hs rfl rfl rfl rfl rfl rfl rfl
    cases next with
    | quiet k => exact quiet _ t k taken
    | served wide k =>
      refine h.serve wide (h.portMove taken (fun t ht => ?_) (load _ · taken) (fun _ => scan _ taken) k)
      unfold State.divisorTick
      split
      · exact quiet _ _ (State.quiet_link_of_off Link.turnOff_off) ht
      · exact ht
    | powerOn strap k => exact powerOn strap _ t k

@[simp] theorem State.openPort_start (s : State) : s.openPort.start = s.start := by
  unfold State.openPort
  split
  · rfl
  · simp

/-! ## Score, proof account, start-up and lockdown (R64, R68, R106, R119, R134) -/

/-- The laws that a step keeps together: R68 needs to know that no slot is filled before start-up has ended. -/
abbrev State.AccessLaws (s : State) : Prop := s.ScoreLaw ∧ s.ProofAccountLaw ∧ s.StartUpLaw ∧ s.LockdownLaw

theorem State.Quiet.accessLaws (h : s.Quiet t) : s.AccessLaws → t.AccessLaws := fun ⟨score, account, startUp, lockdown⟩ =>
  ⟨h.score score, h.account account, h.startUp startUp, h.lockdown lockdown⟩

theorem State.accessLaws_of_blocks (start : t.start = s.start) (decision : t.decision.score = s.decision.score)
    (lockdown : t.decision.lockdown = s.decision.lockdown) (grants : t.grants = s.grants) (link : t.link = s.link)
    (h : s.AccessLaws) : t.AccessLaws := by
  simpa only [State.AccessLaws, State.ScoreLaw, State.ProofAccountLaw, State.StartUpLaw, State.LockdownLaw, start, decision,
    lockdown, grants, link] using h

theorem State.loose_accessLaws : State.Loose State.AccessLaws where
  blocks h start _ decision _ grants link _ := State.accessLaws_of_blocks start (by rw [decision]) (by rw [decision]) grants link h
  enqueueInternal _ := State.accessLaws_of_blocks rfl rfl rfl rfl rfl
  charge i h := ((State.accessStep_charge i _).quiet (State.sameTraffic_charge i _)).accessLaws h
  scoreIncrement k cause h :=
    ((State.accessStep_scoreIncrement k cause _).quiet (State.sameTraffic_scoreIncrement k cause _)).accessLaws h
  setWaiting _ := State.accessLaws_of_blocks rfl rfl rfl rfl rfl
  enqueueProcessor _ := State.accessLaws_of_blocks rfl rfl rfl rfl rfl
  completed _ := State.accessLaws_of_blocks rfl rfl rfl rfl rfl
  decided _ := State.accessLaws_of_blocks rfl rfl rfl rfl rfl
  judged _ := State.accessLaws_of_blocks rfl rfl rfl rfl rfl
  setPort _ := State.accessLaws_of_blocks rfl rfl rfl rfl rfl
  setMem _ := State.accessLaws_of_blocks rfl rfl rfl rfl rfl

/-- R69, R106, R119: as the load ends no slot is taken yet, whatever the lockdown mark is. -/
theorem State.accessLaws_finishLoad (loading : s.start.phase = .loading) (h : s.AccessLaws) : s.finishLoad.AccessLaws := by
  obtain ⟨score, -, startUp, -⟩ := h
  obtain ⟨free, off, idle⟩ := startUp (by rw [loading]; decide)
  rw [State.finishLoad_whole]
  refine ⟨score, ⟨Nat.le_of_lt_succ (BitVec.isLt _), backoffFor_le _⟩, fun _ => ⟨free, off, idle⟩, fun _ i => ?_⟩
  exact congrArg Slot.lowLevel (free i)

/-- Once the part runs, the law of start-up says nothing of it. -/
theorem State.accessLaws_openPart (h : s.AccessLaws) : s.openPart.AccessLaws := by
  obtain ⟨score, account, -, lockdown⟩ := h
  have running : State.AccessLaws { s with start := { s.start with phase := .running } } :=
    ⟨score, account, fun p => absurd rfl p, lockdown⟩
  obtain ⟨score', account', -, lockdown'⟩ := State.loose_accessLaws.openPort running
  refine ⟨score', account', fun p => absurd ?_ p, lockdown'⟩
  exact congrArg StartUp.phase (State.openPort_start { s with start := { s.start with phase := .running } })

theorem State.accessLaws_powerOnReset (strap : Bool) (s : State) : ∀ t, execPowerOnReset strap s = .next t → t.AccessLaws := by
  rintro t ⟨⟩
  have free (i : Fin 4) :
      (State.fresh s.store.stored strap s.port.busReset s.port.presented).grants.slots[i] = .free := by
    fin_cases i <;> rfl
  exact ⟨Nat.zero_le _, ⟨Nat.zero_le _, Nat.zero_le _⟩, fun _ => ⟨free, rfl, rfl⟩, fun locked => nomatch locked⟩

/-- Settles O6: no command but an increment changes the score upwards, and each that makes a slot other than FREE, or
enters lockdown, checks for the other; start-up loads the mark while every slot is still FREE. -/
theorem scoreAndLockdownLawsKept : Obligations.ScoreAndLockdownLawsKept :=
  State.loose_accessLaws.kept (fun _ _ => State.Quiet.accessLaws) (fun _ => State.accessLaws_finishLoad)
    (fun _ => State.accessLaws_openPart) State.accessLaws_powerOnReset

/-! ## The charge grant (R53) -/

/-- The record that a decision makes names as its charge grant the slot that holds the right needed (R51, R53). -/
theorem State.chargeGrantLaw_decided (c : Cycle) (s : State) : (s.decided c).ChargeGrantLaw := by
  rw [State.chargeGrantLaw_iff]
  intro d i hd hc
  cases hd
  obtain ⟨r, hr, hi⟩ := Option.bind_eq_some_iff.1 hc
  exact ⟨r, hr, (GrantTable.holder_eq_some.1 hi).1⟩

theorem State.loose_chargeGrantLaw : State.Loose State.ChargeGrantLaw where
  blocks h _ _ decision _ grants _ _ := h.of_eq (by rw [decision]) (by rw [grants])
  enqueueInternal _ h := h.of_eq rfl rfl
  charge i := (State.accessStep_charge i _).charge
  scoreIncrement k cause := (State.accessStep_scoreIncrement k cause _).charge
  setWaiting _ h := h.of_eq rfl rfl
  enqueueProcessor _ h := h.of_eq rfl rfl
  completed _ _ := State.chargeGrantLaw_of_none rfl
  decided c _ := State.chargeGrantLaw_decided c _
  judged hd h := h.step fun d i he hc => by
    cases he
    exact ⟨_, hd, hc, rfl, fun _ _ => id⟩
  setPort _ h := h.of_eq rfl rfl
  setMem _ h := h.of_eq rfl rfl

/-- Settles O8: a decision names a slot that holds the right, and each change of that slot that does not leave it
holding it frees the slot and takes its name away. -/
theorem chargeGrantLawKept : Obligations.ChargeGrantLawKept := by
  have load (s : State) (h : s.ChargeGrantLaw) : s.finishLoad.ChargeGrantLaw := by
    rw [State.finishLoad_whole]
    exact h.of_eq rfl rfl
  have scan (s : State) (h : s.ChargeGrantLaw) : s.openPart.ChargeGrantLaw :=
    (State.loose_chargeGrantLaw.openPort (h.of_eq (t := { s with start := { s.start with phase := .running } }) rfl rfl)).of_eq
      rfl rfl
  refine State.loose_chargeGrantLaw.kept (fun _ _ k => k.charge) (fun s _ => load s) scan ?_
  rintro strap s t ⟨⟩
  exact State.chargeGrantLaw_of_none rfl

end
end Sys2Proof.Machine
end

section
namespace Sys2Proof.Machine

section
variable {s : State} {a : Addr} {n : Fin 8} {v : Word} {c : Cycle} {d : CellDef}

/-! ## Reads of cell words (R50, R85) -/

/-- A word of a cell is its LOW half exactly where it is not the one behind it. -/
theorem CellDef.halfAt_eq_iff {h : Half} (ha : a = d.address ∨ (d.width = .w32 ∧ a = d.address + 2)) :
    h = d.halfAt a ↔ (h = .low ∧ a = d.address) ∨ (h = .high ∧ a = d.address + 2) := by
  unfold CellDef.halfAt
  rcases ha with rfl | ⟨-, rfl⟩
  · simp
  · simp

theorem State.pendingAt_eq_some (hw : s.WordOf a n) : s.pendingAt n a = some v ↔
    ∃ (d : CellDef) (x : LiveState) (p : PendingHalf), (s.cell n).defn = some d ∧ (s.cell n).live = some x ∧
      x.half = some p ∧ p.value = v ∧ d.width = .w32 ∧
        ((p.half = .low ∧ a = d.address) ∨ (p.half = .high ∧ a = d.address + 2)) := by
  obtain ⟨d, hd, ha⟩ := hw
  unfold State.pendingAt
  rw [hd]
  cases hx : (s.cell n).live with
  | none => simp
  | some x =>
    cases hp : x.half with
    | none => simp [hp]
    | some p =>
      by_cases hwidth : d.width = .w32
      · simp [hp, hwidth, CellDef.halfAt_eq_iff ha, and_comm]
      · simp [hp, hwidth]

/-- R50: a READ of a cell word, and a FETCH of one in an OPEN window, is the counter guard's to answer. -/
theorem cellOutcome_read {cls : WindowClass} {k : Kind} (h : k = .read ∨ (k = .fetch ∧ cls = .opn)) :
    cellOutcome cls k = .counter := by
  rcases h with rfl | ⟨rfl, rfl⟩ <;> rfl

theorem State.carryOut_counterRead {d : DecisionRecord} (ho : d.outcome = .counter) (hd : d.cell = some n)
    (hk : c.kind ≠ .write) (s : State) : s.carryOut c d = s.counterRead n c d.window := by
  simp [State.carryOut, ho, hd, hk]

/-- Settles O22: the decision is COUNTER, and the read is answered by whether the half at its word is pending. -/
theorem counterReads : Obligations.CounterReads := by
  intro l c wide n s hi h hn w pending hk
  have word : s.WordOf (byteAddress c.address) n := (State.cellAt_eq_some.1 hn).1
  have cell : (s.decisionOf c).cell = some n := hn
  have outcome : (s.decisionOf c).outcome = .counter := by
    rw [(State.decisionOf_cell c s (by simp [cell])).2]
    exact cellOutcome_read hk
  have notWrite : c.kind ≠ .write := by rcases hk with e | ⟨e, -⟩ <;> simp [e]
  have read (v : Word) : (s.decided c).pendingAt n (byteAddress c.address) = some v ↔ pending v :=
    State.pendingAt_eq_some word
  rw [exec_cycle_decided hi h, State.carryOut_counterRead outcome cell notWrite, State.counterRead]
  refine ⟨fun v hv => ?_, fun hv => ?_⟩
  · intro data
    have answered : laneWord c.lanes v = data := by
      dsimp only [data]
      cases c.lanes with
      | low => rfl
      | high => rfl
      | both => exact highByte_append_lowByte v
    rw [(read v).2 hv, ← answered]
    rfl
  · rw [Option.eq_none_iff_forall_ne_some.2 fun v e => hv v ((read v).1 e)]
    rfl

end
end Sys2Proof.Machine
end

section
namespace Sys2Proof.Machine

section
variable {s t u : State} {n : Fin 8} {d : CellDef} {v : LiveState} {o : Origin} {p x : Nat} {isSet : Bool} {i : Fin 4}
  {f k : State → State}

/-! ## Operations that neither read nor write the cells and the memory port -/

def State.Aside (f : State → State) : Prop :=
  ∀ (g : CounterGuard) (m : MemPort) (s : State), f { s with guard := g, mem := m } = { f s with guard := g, mem := m }

theorem State.Aside.comp (hk : State.Aside k) (hf : State.Aside f) : State.Aside fun s => k (f s) :=
  fun g m s => (congrArg k (hf g m s)).trans (hk g m (f s))

theorem State.aside_takeRecord (r : Report) : State.Aside (State.takeRecord r) := fun g m s =>
  (State.takeRecord_with r s.port s.decision g m s.grants s).trans (by simp)

theorem State.aside_alertCause : State.Aside State.alertCause := fun _ _ _ => rfl

theorem State.aside_freeSlot (i : Fin 4) : State.Aside (State.freeSlot i) := fun _ _ _ => rfl

theorem State.aside_closeSlot (i : Fin 4) (reason : Reason) : State.Aside (State.closeSlot i reason) := by
  intro g m s
  by_cases h : ∃ g tally openedAt, s.grants.slots[i] = .opened g tally openedAt
  · obtain ⟨grant, tally, at_, h⟩ := h
    rw [State.closeSlot_of_opened (s := s) h, State.closeSlot_of_opened (s := { s with guard := g, mem := m }) h]
    exact (State.aside_freeSlot i).comp (State.aside_takeRecord _) g m s
  · have shut : ∀ g tally openedAt, s.grants.slots[i] ≠ .opened g tally openedAt :=
      fun g tally at_ e => h ⟨g, tally, at_, e⟩
    rw [State.closeSlot_of_not_opened (s := s) shut, State.closeSlot_of_not_opened (s := { s with guard := g, mem := m }) shut]

theorem State.aside_charge (i : Fin 4) : State.Aside (State.charge i) := by
  intro g m s
  by_cases h : ∃ g tally openedAt, s.grants.slots[i] = .opened g tally openedAt
  · obtain ⟨grant, tally, at_, h⟩ := h
    rw [State.charge_of_opened (s := s) h, State.charge_of_opened (s := { s with guard := g, mem := m }) h]
    split
    · exact State.aside_closeSlot i _ g m (s.setSlot i _)
    · rfl
  · have shut : ∀ g tally openedAt, s.grants.slots[i] ≠ .opened g tally openedAt :=
      fun g tally at_ e => h ⟨g, tally, at_, e⟩
    rw [State.charge_of_not_opened (s := s) shut, State.charge_of_not_opened (s := { s with guard := g, mem := m }) shut]

theorem State.aside_chargeOpt (c : Option (Fin 4)) : State.Aside (State.chargeOpt c) := by
  cases c with
  | none => exact fun _ _ _ => rfl
  | some i => exact State.aside_charge i

theorem State.aside_endSlot (i : Fin 4) (reason : Reason) : State.Aside (State.endSlot i reason) := by
  intro g m s
  unfold State.endSlot
  cases h : s.grants.slots[i] with
  | free => rfl
  | challenged => exact State.aside_freeSlot i g m s
  | opened => exact State.aside_closeSlot i reason g m s

theorem State.aside_lockdownSlot (i : Fin 4) : State.Aside (State.lockdownSlot i) := by
  intro g m s
  unfold State.lockdownSlot
  split
  · exact State.aside_endSlot i _ g m s
  · rfl

theorem State.aside_enterLockdown (cause : Reason) : State.Aside (State.enterLockdown cause) := by
  intro g m s
  rw [State.enterLockdown_eq, State.enterLockdown_eq]
  have walked : State.Aside fun s => State.takeRecord (lockdownReport cause s.decision.score s.grants.lowCount)
      (forSlots State.lockdownSlot s.lockdownMarked) := by
    intro g m s
    have slots : State.Aside (forSlots State.lockdownSlot) := by
      have walk (l : List (Fin 4)) : State.Aside fun s => l.foldl (fun s i => s.lockdownSlot i) s := by
        induction l with
        | nil => exact fun _ _ _ => rfl
        | cons i rest ih => exact ih.comp (State.aside_lockdownSlot i)
      exact walk slotOrder
    exact (State.aside_takeRecord _).comp slots g m s.lockdownMarked
  exact congrArg (fun s => s.alertCause.resetRequestCause) (walked g m s)

theorem State.aside_scoreIncrement (n : Nat) (cause : Reason) : State.Aside (State.scoreIncrement n cause) := by
  have alert (old : Nat) : State.Aside (State.alertCheck old) := by
    intro g m s
    unfold State.alertCheck
    split <;> rfl
  have lockdown : State.Aside (State.lockdownCheck cause) := by
    intro g m s
    unfold State.lockdownCheck
    split
    · exact State.aside_enterLockdown cause g m s
    · rfl
  exact fun g m s => lockdown.comp (alert s.decision.score) g m (s.raised n)

/-! ## The effects of an evaluation outside the cells and the memory port -/

/-- The grants, the decision unit, the log, the output unit and the store are the same. -/
abbrev State.SameEffects (s t : State) : Prop :=
  s.grants = t.grants ∧ s.decision = t.decision ∧ s.log = t.log ∧ s.out = t.out ∧ s.store = t.store

theorem State.sameEffects_startWrite (h : s.SameEffects t) : (s.startWrite n d o x isSet).SameEffects t := by
  simpa [State.SameEffects] using h

theorem State.Aside.modifyLive (h : State.Aside f) (n : Fin 8) (l : LiveState → LiveState) (s : State) :
    (f (s.modifyLive n l)).SameEffects (f s) := by
  have same : f (s.modifyLive n l) = { f s with guard := (s.modifyLive n l).guard, mem := s.mem } := h _ _ s
  rw [same]
  exact ⟨rfl, rfl, rfl, rfl, rfl⟩

/-! ## The cells and the memory port through an evaluation (R76 to R80) -/

/-- What the memory port holds once the write of a value has been requested. -/
def State.sentWrite (n : Fin 8) (d : CellDef) (o : Origin) (x : Nat) (s : State) : MemPort :=
  match o with
  | .processor =>
    { s.mem with place := some (cellRequest d .write x (.processor (.cellWrite n))
        (s.decision.record.map DecisionRecord.window)) }
  | .hold | .ignition => { s.mem with queue := s.mem.queue ++ [cellRequest d .write x (.internal n) none] }

theorem State.startWrite_mem (n : Fin 8) (d : CellDef) (o : Origin) (x : Nat) (isSet : Bool) (s : State) :
    (s.startWrite n d o x isSet).mem = s.sentWrite n d o x := by
  cases o <;> rfl

/-- Of the cells `n` alone has changed, to `c`; the memory port and the window of the decision are as before. -/
structure State.CellNow (n : Fin 8) (c : Cell) (s t : State) : Prop where
  self : t.cell n = c
  others : ∀ m : Fin 8, m ≠ n → t.cell m = s.cell m
  mem : t.mem = s.mem
  window : t.decision.record.map DecisionRecord.window = s.decision.record.map DecisionRecord.window

theorem State.cellNow_modifyLive (n : Fin 8) (l : LiveState → LiveState) (s : State) :
    s.CellNow n { s.cell n with live := (s.cell n).live.map l } (s.modifyLive n l) where
  self := State.cell_modifyLive_self n l s
  others m hm := by rw [State.modifyLive, State.cell_setCell, if_neg hm]
  mem := rfl
  window := rfl

variable {c e : Cell}

theorem State.CellNow.modifyLive (h : s.CellNow n c t) (l : LiveState → LiveState) :
    s.CellNow n { c with live := c.live.map l } (t.modifyLive n l) where
  self := by rw [State.cell_modifyLive_self, h.self]
  others m hm := by rw [State.modifyLive, State.cell_setCell, if_neg hm, h.others m hm]
  mem := h.mem
  window := h.window

/-- An operation on the grants, the log and the output unit. -/
theorem State.CellNow.of_access (h : s.CellNow n c t) (k : t.AccessStep u) (guard : u.guard.cells = t.guard.cells) :
    s.CellNow n c u where
  self := (State.cell_congr guard n).trans h.self
  others m hm := (State.cell_congr guard m).trans (h.others m hm)
  mem := k.mem.trans h.mem
  window := (State.core?_window k.core).trans h.window

theorem State.CellNow.takeRecord (h : s.CellNow n c t) (r : Report) : s.CellNow n c (t.takeRecord r) :=
  h.of_access (State.accessStep_takeRecord r t) (by simp)

theorem State.CellNow.chargeOpt (h : s.CellNow n c t) (i : Option (Fin 4)) : s.CellNow n c (t.chargeOpt i) :=
  h.of_access (State.accessStep_chargeOpt i t) (by simp)

theorem State.CellNow.alertCause (h : s.CellNow n c t) : s.CellNow n c t.alertCause :=
  h.of_access (State.accessStep_alertCause t) rfl

theorem State.CellNow.violation (h : s.CellNow n c t) (r : Report) (k : Nat) (cause : Reason) :
    s.CellNow n c (((t.takeRecord r).scoreIncrement k cause).alertCause) :=
  h.of_access (State.accessStep_violation r k cause t) (by simp)

/-- A write has been requested for cell `n`, which is `c` but for its operation. -/
structure State.WriteSent (n : Fin 8) (d : CellDef) (o : Origin) (x : Nat) (isSet : Bool) (c : Cell) (s t : State) :
    Prop where
  self : t.cell n = { c with op := some (.evaluation o x isSet) }
  others : ∀ m : Fin 8, m ≠ n → t.cell m = s.cell m
  mem : t.mem = s.sentWrite n d o x

theorem State.CellNow.startWrite (h : s.CellNow n c t) (d : CellDef) (o : Origin) (x : Nat) (isSet : Bool) :
    s.WriteSent n d o x isSet c (t.startWrite n d o x isSet) where
  self := by rw [State.cell_startWrite, if_pos rfl, h.self]
  others m hm := by rw [State.cell_startWrite, if_neg hm, h.others m hm]
  mem := by
    rw [State.startWrite_mem]
    cases o <;> simp only [State.sentWrite, h.mem, h.window]

end
end Sys2Proof.Machine
end

section
namespace Sys2Proof.Machine

section
variable {s : State} {n : Fin 8} {d : CellDef} {v : LiveState} {o : Origin} {p : Nat}

/-! ## The evaluation, outcome by outcome (R76 to R79) -/

/-- R76: the pending half of the cell is gone. -/
def State.bared (n : Fin 8) (s : State) : State := s.modifyLive n fun x => { x with half := none }

/-- R77: and `k` whole units of its credit are spent. -/
def State.spent (n : Fin 8) (k : Nat) (s : State) : State :=
  (s.bared n).modifyLive n fun x => { x with credit := x.credit - k * 65536 }

theorem State.cellNow_bared (hv : (s.cell n).live = some v) :
    s.CellNow n { s.cell n with live := some { v with half := none } } (s.bared n) := by
  have now := s.cellNow_modifyLive n fun x => { x with half := none }
  rw [hv] at now
  exact now

theorem State.cellNow_spent (hv : (s.cell n).live = some v) (k : Nat) : s.CellNow n
    { s.cell n with live := some { v with half := none, credit := v.credit - k * 65536 } } (s.spent n k) :=
  (State.cellNow_bared hv).modifyLive fun x => { x with credit := x.credit - k * 65536 }

theorem State.Aside.bared {f : State → State} (h : State.Aside f) (n : Fin 8) (s : State) :
    (f (s.bared n)).SameEffects (f s) := h.modifyLive n _ s

theorem State.Aside.spent {f : State → State} (h : State.Aside f) (n : Fin 8) (k : Nat) (s : State) :
    (f (s.spent n k)).SameEffects (f s) := by
  obtain ⟨grants, decision, log, out, store⟩ := h.modifyLive n (fun x => { x with credit := x.credit - k * 65536 }) (s.bared n)
  obtain ⟨grants', decision', log', out', store'⟩ := h.bared n s
  exact ⟨grants.trans grants', decision.trans decision', log.trans log', out.trans out', store.trans store'⟩

section
variable (hd : (s.cell n).defn = some d) (hv : (s.cell n).live = some v)
include hd hv

theorem State.evaluate_set (held : s.setHeld d o = true) (hp : p ≠ v.shadow) : s.evaluate n o p =
    (((s.bared n).chargeOpt (s.setCharge d o)).takeRecord (cellReport .counterSet n
      ((s.setCharge d o).map .charged) d.address p (some v.shadow))).startWrite n d o p true := by
  simp only [State.evaluate, hd, hv, held, hp, ne_eq, not_false_eq_true, and_self, if_true]
  rfl

theorem State.evaluate_same (hp : p = v.shadow) : s.evaluate n o p = s.bared n := by
  simp only [State.evaluate, hd, hv, hp, ne_eq, not_true_eq_false, and_false, if_false, State.judgeByMode, if_true]
  rfl

theorem State.evaluate_judged (held : s.setHeld d o = false) :
    s.evaluate n o p = (s.bared n).judgeByMode n d o p v := by
  simp only [State.evaluate, hd, hv, held, Bool.false_eq_true, false_and, if_false]
  rfl

theorem State.evaluate_refused (held : s.setHeld d o = false) (hp : p < v.shadow) : s.evaluate n o p =
    (((s.bared n).takeRecord (cellReport .counterRefused n (some .decrease) d.address p (some v.shadow))).scoreIncrement 1
      .refusal).alertCause := by
  rw [State.evaluate_judged hd hv held, State.judgeByMode, if_neg (Nat.ne_of_lt hp), if_pos hp, State.refuseDecrease]

theorem State.evaluate_monotonic (held : s.setHeld d o = false) (hp : v.shadow < p) (mode : d.mode = .monotonic) :
    s.evaluate n o p = (s.bared n).startWrite n d o p false := by
  rw [State.evaluate_judged hd hv held, State.judgeByMode, if_neg (Nat.ne_of_gt hp), if_neg (Nat.lt_asymm hp), mode]

theorem State.evaluate_rate {rate cap : Nat} (held : s.setHeld d o = false) (hp : v.shadow < p)
    (mode : d.mode = .rate rate cap) : s.evaluate n o p = (s.bared n).rateRise n d o p v := by
  rw [State.evaluate_judged hd hv held, State.judgeByMode, if_neg (Nat.ne_of_gt hp), if_neg (Nat.lt_asymm hp), mode]

theorem State.evaluate_credited {rate cap : Nat} (held : s.setHeld d o = false) (hp : v.shadow < p)
    (mode : d.mode = .rate rate cap) (within : p - v.shadow ≤ v.credit / 65536) :
    s.evaluate n o p = (s.spent n (p - v.shadow)).startWrite n d o p false := by
  rw [State.evaluate_rate hd hv held hp mode, State.rateRise, if_pos within]
  rfl

theorem State.evaluate_clamped {rate cap : Nat} (held : s.setHeld d o = false) (hp : v.shadow < p)
    (mode : d.mode = .rate rate cap) (beyond : v.credit / 65536 < p - v.shadow) : s.evaluate n o p =
    let clamped := ((s.spent n (v.credit / 65536)).takeRecord (cellReport .counterClamped n none d.address p
      (some (v.shadow + v.credit / 65536)))).alertCause
    if 0 < v.credit / 65536 then clamped.startWrite n d o (v.shadow + v.credit / 65536) false else clamped := by
  rw [State.evaluate_rate hd hv held hp mode, State.rateRise, if_neg (Nat.not_le.2 beyond)]
  rfl

/-- R80: no cell but the one evaluated changes. -/
theorem State.evaluate_others (o : Origin) (p : Nat) : ∀ m : Fin 8, m ≠ n → (s.evaluate n o p).cell m = s.cell m := by
  have bare := State.cellNow_bared hv
  by_cases held : s.setHeld d o = true
  · by_cases hp : p = v.shadow
    · rw [State.evaluate_same hd hv hp]
      exact bare.others
    · rw [State.evaluate_set hd hv held hp]
      exact (((bare.chargeOpt _).takeRecord _).startWrite ..).others
  · rw [Bool.not_eq_true] at held
    rcases Nat.lt_trichotomy p v.shadow with hp | hp | hp
    · rw [State.evaluate_refused hd hv held hp]
      exact (bare.violation ..).others
    · rw [State.evaluate_same hd hv hp]
      exact bare.others
    · rcases mode : d.mode with _ | ⟨rate, cap⟩
      · rw [State.evaluate_monotonic hd hv held hp mode]
        exact (bare.startWrite ..).others
      · rcases Nat.lt_or_ge (v.credit / 65536) (p - v.shadow) with beyond | within
        · have clamped := ((State.cellNow_spent hv (v.credit / 65536)).takeRecord (cellReport .counterClamped n none
            d.address p (some (v.shadow + v.credit / 65536)))).alertCause
          rw [State.evaluate_clamped hd hv held hp mode beyond]
          simp only []
          split
          · exact (clamped.startWrite ..).others
          · exact clamped.others
        · rw [State.evaluate_credited hd hv held hp mode within]
          exact ((State.cellNow_spent hv _).startWrite ..).others

/-- R77: the units written of a rise are the lesser of the rise and the whole units of credit. -/
theorem State.evaluate_units {rate cap : Nat} (held : s.setHeld d o = false) (hp : v.shadow < p)
    (mode : d.mode = .rate rate cap) :
    let units := min (p - v.shadow) (v.credit / 65536)
    (units = 0 → s.CellNow n { s.cell n with live := some { v with half := none } } (s.evaluate n o p)) ∧
      (0 < units → s.WriteSent n d o (v.shadow + units) false
        { s.cell n with live := some { v with half := none, credit := v.credit - units * 65536 } } (s.evaluate n o p)) := by
  intro units
  rcases Nat.lt_or_ge (v.credit / 65536) (p - v.shadow) with beyond | within
  · have all : units = v.credit / 65536 := Nat.min_eq_right (Nat.le_of_lt beyond)
    have clamped := ((State.cellNow_spent hv (v.credit / 65536)).takeRecord (cellReport .counterClamped n none
      d.address p (some (v.shadow + v.credit / 65536)))).alertCause
    rw [State.evaluate_clamped hd hv held hp mode beyond, ← all]
    rw [← all] at clamped
    refine ⟨fun h => ?_, fun h => ?_⟩
    · rw [h] at clamped ⊢
      simpa using clamped
    · rw [if_pos h]
      exact clamped.startWrite ..
  · have all : units = p - v.shadow := Nat.min_eq_left within
    have risen : v.shadow + units = p := by omega
    rw [State.evaluate_credited hd hv held hp mode within, risen, all]
    exact ⟨fun h => by omega, fun _ => (State.cellNow_spent hv _).startWrite ..⟩

end

/-! ## By whose right a counter is set (R56, R57, R76) -/

theorem State.setHeld_processor (d : CellDef) (s : State) :
    s.setHeld d .processor = true ↔ ∃ x : DecisionRecord, s.decision.record = some x ∧ x.held = true := by
  unfold State.setHeld
  cases s.decision.record <;> simp

theorem State.setCharge_processor (d : CellDef) (s : State) (i : Fin 4) : s.setCharge d .processor = some i ↔
    ∃ x : DecisionRecord, s.decision.record = some x ∧ x.chargeGrant = some i := Option.bind_eq_some_iff

theorem State.setHeld_timed (ho : o ∈ [Origin.hold, .ignition]) :
    s.setHeld d o = (s.grants.holder .counterSet (s.matchLive d.address).id).isSome ∧
      s.setCharge d o = s.grants.holder .counterSet (s.matchLive d.address).id := by
  cases o with
  | processor => simp at ho
  | hold => exact ⟨rfl, rfl⟩
  | ignition => exact ⟨rfl, rfl⟩

/-- Settles O29: each outcome of an evaluation is the cell without its pending half, some of the record, increment, alert
cause and charge of that outcome, and a write or none. -/
theorem evaluations : Obligations.Evaluations := by
  refine ⟨?_, ?_, fun d s => ?_⟩
  · intro n o p d v s hd hv hop t bare request sent
    have now := State.cellNow_bared hv
    have mem (x : Nat) : s.sentWrite n d o x = sent x := by cases o <;> rfl
    refine ⟨State.evaluate_others hd hv o p, fun held hp => ?_, fun hp => ?_, fun held hp => ?_,
      fun held hp mode => ?_, fun rate cap held hp mode => ?_⟩
    · have set := ((now.chargeOpt (s.setCharge d o)).takeRecord (cellReport .counterSet n
        ((s.setCharge d o).map .charged) d.address p (some v.shadow))).startWrite d o p true
      rw [← State.evaluate_set hd hv held hp] at set
      exact ⟨set.self, set.mem.trans (mem p)⟩
    · have same : t = s.bared n := State.evaluate_same hd hv hp
      rw [same, State.bared, State.modifyLive, hv]
      rfl
    · have refused := now.violation (cellReport .counterRefused n (some .decrease) d.address p (some v.shadow)) 1 .refusal
      rw [← State.evaluate_refused hd hv held hp] at refused
      exact ⟨refused.self, refused.mem⟩
    · have risen := now.startWrite d o p false
      rw [← State.evaluate_monotonic hd hv held hp mode] at risen
      exact ⟨risen.self, risen.mem.trans (mem p)⟩
    · obtain ⟨none, some⟩ := State.evaluate_units hd hv held hp mode
      exact ⟨fun h => ⟨(none h).self, (none h).mem⟩, fun h => ⟨(some h).mem.trans (mem _), (some h).self⟩⟩
  · intro n o p d v s hd hv t report same
    have id_ : State.Aside id := fun _ _ _ => rfl
    refine ⟨fun held hp => ?_, fun held hp => ?_, fun rate cap held hp mode => ⟨fun beyond => ?_, fun within => ?_⟩,
      fun held hp mode => ?_⟩
    · have refused := (State.aside_alertCause.comp ((State.aside_scoreIncrement 1 .refusal).comp (State.aside_takeRecord
        (cellReport .counterRefused n (some .decrease) d.address p (some v.shadow))))).bared n s
      rw [← State.evaluate_refused hd hv held hp] at refused
      exact refused
    · have set := State.sameEffects_startWrite (n := n) (d := d) (o := o) (x := p) (isSet := true)
        (((State.aside_takeRecord (cellReport .counterSet n ((s.setCharge d o).map .charged) d.address p
          (some v.shadow))).comp (State.aside_chargeOpt (s.setCharge d o))).bared n s)
      rw [← State.evaluate_set hd hv held hp] at set
      exact set
    · have clamped := (State.aside_alertCause.comp (State.aside_takeRecord (cellReport .counterClamped n none d.address p
        (some (v.shadow + v.credit / 65536))))).spent n (v.credit / 65536) s
      have whole : t = _ := State.evaluate_clamped hd hv held hp mode beyond
      simp only [] at whole
      rw [whole]
      split
      · exact State.sameEffects_startWrite clamped
      · exact clamped
    · have risen := State.sameEffects_startWrite (n := n) (d := d) (o := o) (x := p) (isSet := false)
        (id_.spent n (p - v.shadow) s)
      rw [id, ← State.evaluate_credited hd hv held hp mode within] at risen
      exact risen
    · have risen := State.sameEffects_startWrite (n := n) (d := d) (o := o) (x := p) (isSet := false) (id_.bared n s)
      rw [id, ← State.evaluate_monotonic hd hv held hp mode] at risen
      exact risen
  · refine ⟨State.setHeld_processor d s, State.setCharge_processor d s, fun o ho => ?_⟩
    obtain ⟨held, charge⟩ := State.setHeld_timed (s := s) (d := d) ho
    rw [held, charge]
    simp only [← Slot.holds_iff, ← GrantTable.holder_eq_some, Bool.not_eq_true, implies_true, and_true]
    rw [← not_iff_not]
    simp [GrantTable.holder_eq_none]

end
end Sys2Proof.Machine
end

section
namespace Sys2Proof.Machine

section
variable {s t : State} {c : Cycle} {d : DecisionRecord} {r : Request} {m : MemPort} {n : Fin 8} {a b : Addr}

/-! ## Windows of cell words (R41, R50) -/

/-- R26: a window is known by its number. -/
theorem matchWindow_eq_of_id {windows : Vector (Option Window) 8} {dflt : WindowTerms}
    (h : (matchWindow windows dflt a).id = (matchWindow windows dflt b).id) :
    matchWindow windows dflt a = matchWindow windows dflt b := by
  have shape (a : Addr) : matchWindow windows dflt a = matchDefault dflt ∨
      ∃ (n : Fin 8) (w : Window), windows[n] = some w ∧ matchWindow windows dflt a =
        { id := .numbered n, base := w.base, offset := w.offset, terms := w.terms } := by
    unfold matchWindow
    split
    · exact .inl rfl
    · split
      · exact .inl rfl
      · rename_i w hw
        exact .inr ⟨_, w, hw, rfl⟩
  rcases shape a with ha | ⟨n, v, hv, ha⟩ <;> rcases shape b with hb | ⟨k, w, hw, hb⟩ <;> rw [ha, hb] at h ⊢
  · exact nomatch h
  · exact nomatch h
  · cases h
    cases hv.symm.trans hw
    rfl

/-- R50: no cell word is in a window of class CODE, CALIBRATION or PRIVATE. -/
def State.CellWordsOpen (s : State) : Prop :=
  ∀ (a : Addr) (n : Fin 8), s.guard.cellAt a = some n → (s.matchLive a).terms.cls.internalWriteBarred = false

/-- R41: the live table is checked for it. -/
theorem State.TableLaw.cellWordsOpen (h : s.TableLaw) : s.CellWordsOpen := by
  intro a n hn
  obtain ⟨checked, -⟩ := h
  obtain ⟨⟨d, hd, ha⟩, -⟩ := State.cellAt_eq_some.1 hn
  obtain ⟨⟨w, cls, hw, all⟩, -⟩ := checkTable_eq_none.1 checked n d ((s.cell_defns n).trans hd)
  have byte : a ∈ d.byteAddresses := CellDef.mem_byteAddresses.2 ⟨a, CellDef.mem_words.2 ha, .inl rfl⟩
  have same : s.matchLive a = w := (matchWindow_eq_of_id ((all a byte).trans (hw ▸ rfl))).trans hw
  rw [same]
  rcases cls with e | e <;> rw [e] <;> rfl

theorem State.CellWordsOpen.of_sameTables (h : s.CellWordsOpen) (k : s.SameTables t) : t.CellWordsOpen := by
  intro a n hn
  have word (m : Fin 8) : t.WordOf a m ↔ s.WordOf a m := by rw [State.WordOf, State.WordOf, k.defn]
  have found : s.guard.cellAt a = some n := by
    rw [State.cellAt_eq_some] at hn ⊢
    simpa only [word] using hn
  have live : t.matchLive a = s.matchLive a := by rw [State.matchLive, k.table, State.matchLive]
  rw [live]
  exact h a n found

/-! ## The processor's requests at the memory port -/

theorem MemPort.mem_procRequests : r ∈ m.procRequests ↔
    (∃ t, m.transfer = some t ∧ t.dropped = false ∧ t.request = r ∧ r.requester.isInternal = false) ∨ m.place = some r := by
  have whole : r ∈ m.procRequests ↔
      (∃ t, (m.transfer = some t ∧ t.dropped = false) ∧ t.request = r) ∧ r.requester.isInternal = false ∨
        m.place = some r := by simp [MemPort.procRequests]
  rw [whole]
  refine or_congr_left ⟨?_, ?_⟩
  · rintro ⟨⟨t, ⟨ht, hd⟩, hr⟩, hi⟩
    exact ⟨t, ht, hd, hr, hi⟩
  · rintro ⟨t, ht, hd, hr, hi⟩
    exact ⟨⟨t, ⟨ht, hd⟩, hr⟩, hi⟩

end
end Sys2Proof.Machine
end

section
namespace Sys2Proof.Machine

section
variable {s t : State} {c : Cycle} {d : DecisionRecord} {r : Request} {m : MemPort} {n : Fin 8}

/-! ## The law of the protected classes, as the ports keep it (R12, R47 to R52) -/

/-- R48 to R50: what the record of a decision says of its cycle. -/
structure DecisionRecord.Lawful (c : Cycle) (d : DecisionRecord) : Prop where
  pass : d.outcome = .pass → c.kind = .write → d.window.terms.cls.internalWriteBarred = true →
    d.held = true ∧ d.right = d.window.terms.cls.writeRight
  fill : d.outcome = .fillCheck → d.window.terms.cls = .records
  counter : d.outcome = .counter → d.window.terms.cls.internalWriteBarred = false

/-- R10, R52: what the cycle in progress and its decision record allow a request of the processor's to be. -/
structure Request.Lawful (cycle : Option Cycle) (record : Option DecisionRecord) (r : Request) : Prop where
  fill : r.requester = .processor .fillRead ∨ r.requester = .processor .fillWrite →
    ∀ d, record = some d → d.outcome = .fillCheck
  write : r.direction = .write → ∃ w : MatchedWindow, r.window = some w ∧ (w.terms.cls.internalWriteBarred = true →
    r.requester = .processor .pass ∧ ∀ c d, cycle = some c → record = some d →
      c.kind = .write ∧ d.outcome = .pass ∧ d.window = w ∧ d.held = true ∧ d.right = w.terms.cls.writeRight)

/-- The law of R52 for the cycle in progress. Of a request that has outlived its cycle it asks only what bus reset leaves
(R23, R24); that no other outlives it is the law of the ports. -/
structure State.Guarded (s : State) : Prop where
  paired : s.port.cycle.isSome = s.core?.isSome
  decided : ∀ c d, s.port.cycle = some c → s.core? = some d → d.Lawful c
  waiting : s.guard.waitingWrite.isSome = true → ∃ d, s.core? = some d ∧ d.outcome = .counter
  queue : ∀ r ∈ s.mem.queue, r.requester.isInternal = true
  requests : ∀ r ∈ s.mem.procRequests, r.Lawful s.port.cycle s.core?

theorem State.core?_eq_some : s.core? = some d ↔ ∃ e, s.decision.record = some e ∧ e.core = d := Option.map_eq_some_iff

theorem State.core?_of_record (h : s.decision.record = some d) : s.core? = some d.core := State.core?_eq_some.2 ⟨d, h, rfl⟩

theorem State.Guarded.of_laws (h : s.Orderly []) (k : s.ProtectedWriteLaw) : s.Guarded := by
  obtain ⟨⟨paired, decided⟩, fill, write⟩ := k
  refine ⟨?_, fun c d hc hd => ?_, fun hw => ?_, h.request.queue, fun r hr => ⟨fun hf d hd => ?_, fun hw => ?_⟩⟩
  · rw [State.core?, Option.isSome_map, Bool.eq_iff_iff]
    exact paired
  · obtain ⟨e, he, rfl⟩ := State.core?_eq_some.1 hd
    obtain ⟨pass, fillCheck, counter⟩ := decided c e hc he
    exact ⟨pass, fillCheck, counter⟩
  · obtain ⟨e, he, ho⟩ := Option.map_eq_some_iff.1 (h.port.waiting hw).2
    exact ⟨e.core, State.core?_of_record he, ho⟩
  · obtain ⟨e, he, rfl⟩ := State.core?_eq_some.1 hd
    obtain ⟨e', he', ho⟩ := Option.map_eq_some_iff.1 (fill r hr hf)
    cases he.symm.trans he'
    exact ho
  · obtain ⟨w, hw, barred⟩ := write r hr hw
    refine ⟨w, hw, fun hb => ?_⟩
    obtain ⟨own, c, d, hc, kind, hd, rest⟩ := barred hb
    refine ⟨own, fun c' d' hc' hd' => ?_⟩
    obtain ⟨e, he, rfl⟩ := State.core?_eq_some.1 hd'
    cases hc.symm.trans hc'
    cases hd.symm.trans he
    exact ⟨kind, rest⟩

theorem MemPort.job_of_procRequest (hr : r ∈ m.procRequests) {j : ProcJob} (hj : r.requester = .processor j) :
    j ∈ m.procJobs := by
  rw [MemPort.procJobs_eq]
  rcases MemPort.mem_procRequests.1 hr with ⟨t, ht, hd, rfl, -⟩ | hp
  · simp [ht, hd, hj]
  · simp [hp, hj]

/-- With no work of the processor's wanted, there is no request of it. -/
theorem MemPort.procRequests_nil (place : ∀ r ∈ m.place, r.requester.isInternal = false) (hj : m.procJobs = []) :
    m.procRequests = [] := by
  rw [List.eq_nil_iff_forall_not_mem]
  intro r hr
  have own : r.requester.isInternal = false := by
    rcases MemPort.mem_procRequests.1 hr with ⟨t, -, -, -, hi⟩ | hp
    · exact hi
    · exact place r hp
  cases hq : r.requester with
  | internal n => rw [hq] at own; exact nomatch own
  | processor j => exact absurd (MemPort.job_of_procRequest hr hq) (by simp [hj])

/-- R23: a request of a PASS or a FILL-CHECK does not outlive its cycle, so that what is asked of the cycle is asked of
one in progress. -/
theorem State.Guarded.protectedWriteLaw (h : s.Guarded) (k : s.Orderly []) : s.ProtectedWriteLaw := by
  have inProgress {r : Request} (hr : r ∈ s.mem.procRequests) {j : ProcJob} (hq : r.requester = .processor j)
      (hj : j.ofCycle = true) : ∃ d, s.decision.record = some d := by
    have jobs : s.mem.procJobs.any ProcJob.ofCycle = true :=
      List.any_eq_true.2 ⟨j, MemPort.job_of_procRequest hr hq, hj⟩
    rcases k.port.jobs_outcome jobs with e | e <;> exact (Option.map_eq_some_iff.1 e).imp fun d hd => hd.1
  refine ⟨⟨?_, fun c d hc hd => ?_⟩, fun r hr hf => ?_, fun r hr hw => ?_⟩
  · rw [h.paired, State.core?, Option.isSome_map]
  · obtain ⟨pass, fill, counter⟩ := h.decided c d.core hc (State.core?_of_record hd)
    exact ⟨pass, fill, counter⟩
  · obtain ⟨d, hd⟩ : ∃ d, s.decision.record = some d := by
      rcases hf with hq | hq <;> exact inProgress hr hq rfl
    have outcome : d.outcome = .fillCheck := (h.requests r hr).fill hf d.core (State.core?_of_record hd)
    rw [State.outcome?, hd, Option.map_some, outcome]
  · obtain ⟨w, hw, barred⟩ := (h.requests r hr).write hw
    refine ⟨w, hw, fun hb => ?_⟩
    obtain ⟨own, allowed⟩ := barred hb
    obtain ⟨d, hd⟩ := inProgress hr own rfl
    obtain ⟨c, hc⟩ : ∃ c, s.port.cycle = some c := by
      rw [← Option.isSome_iff_exists, h.paired, State.core?_of_record hd]
      rfl
    obtain ⟨kind, rest⟩ := allowed c d.core hc (State.core?_of_record hd)
    exact ⟨own, c, d, hc, kind, hd, rest⟩

/-- An operation that leaves the cycle and the core of its record, that makes no request of the processor's and no
waiting write. -/
theorem State.Guarded.of_eq (h : s.Guarded) (cycle : t.port.cycle = s.port.cycle) (core : t.core? = s.core?)
    (waiting : t.guard.waitingWrite.isSome = true → s.guard.waitingWrite.isSome = true)
    (queue : ∀ r ∈ t.mem.queue, r.requester.isInternal = true)
    (requests : ∀ r ∈ t.mem.procRequests, r ∈ s.mem.procRequests) : t.Guarded where
  paired := by rw [cycle, core, h.paired]
  decided := by rw [cycle, core]; exact h.decided
  waiting hw := by rw [core]; exact h.waiting (waiting hw)
  queue := queue
  requests r hr := by rw [cycle, core]; exact h.requests r (requests r hr)

/-- What an operation of the counter guard, a record, a charge and an increment leave of the ports. -/
theorem State.inert_guarded : State.Inert State.Guarded where
  blocks h _ port decision mem _ _ waiting :=
    h.of_eq (by rw [port]) (State.core?_of_decision decision) (by rw [waiting]; exact id) (mem ▸ h.queue)
      fun r hr => mem ▸ hr
  enqueueInternal {s r} hr h := h.of_eq rfl rfl id
    (fun q hq => (List.mem_append.1 hq).elim (h.queue q) fun e => List.mem_singleton.1 e ▸ hr) fun _ => id
  charge {s} i h :=
    have k := State.accessStep_charge i s
    h.of_eq (by rw [k.port]) k.core (by simp) (k.mem ▸ h.queue) fun r hr => k.mem ▸ hr
  scoreIncrement {s} x cause h :=
    have k := State.accessStep_scoreIncrement x cause s
    h.of_eq (by rw [k.port]) k.core (by simp) (k.mem ▸ h.queue) fun r hr => k.mem ▸ hr

theorem State.Inert.and {P Q : State → Prop} (h : State.Inert P) (k : State.Inert Q) : State.Inert fun u => P u ∧ Q u where
  blocks w start port decision mem grants link waiting :=
    ⟨h.blocks w.1 start port decision mem grants link waiting, k.blocks w.2 start port decision mem grants link waiting⟩
  enqueueInternal hr w := ⟨h.enqueueInternal hr w.1, k.enqueueInternal hr w.2⟩
  charge i w := ⟨h.charge i w.1, k.charge i w.2⟩
  scoreIncrement x cause w := ⟨h.scoreIncrement x cause w.1, k.scoreIncrement x cause w.2⟩

theorem State.inert_core (x : Option DecisionRecord) : State.Inert fun u => u.core? = x where
  blocks h _ _ decision _ _ _ _ := (State.core?_of_decision decision).trans h
  enqueueInternal _ h := h
  charge i h := (State.accessStep_charge i _).core.trans h
  scoreIncrement k cause h := (State.accessStep_scoreIncrement k cause _).core.trans h

theorem State.inert_notWaiting : State.Inert fun u => u.guard.waitingWrite = none where
  blocks h _ _ _ _ _ _ waiting := waiting.trans h
  enqueueInternal _ h := h
  charge i h := by simpa using h
  scoreIncrement k cause h := by simpa using h

theorem State.inert_noRequest : State.Inert fun u => u.mem.procRequests = [] where
  blocks h _ _ _ mem _ _ _ := by rw [mem, h]
  enqueueInternal _ h := h
  charge i h := by simpa using h
  scoreIncrement k cause h := by simpa using h

/-- No write waits, so that the cycle can complete. -/
def State.Prompt (s : State) : Prop := s.Guarded ∧ s.guard.waitingWrite = none

/-- And no request of the processor's is wanted, so that the port can take a cycle. -/
def State.Clear (s : State) : Prop := s.Prompt ∧ s.mem.procRequests = []

theorem State.inert_prompt : State.Inert State.Prompt := State.inert_guarded.and State.inert_notWaiting

theorem State.inert_clear : State.Inert State.Clear := State.inert_prompt.and State.inert_noRequest

/-- A request that has outlived its cycle. -/
theorem Request.Lawful.outlives {cycle : Option Cycle} {record : Option DecisionRecord} (h : r.Lawful cycle record) :
    r.Lawful none none where
  fill _ d hd := nomatch hd
  write hw := by
    obtain ⟨w, hw, barred⟩ := h.write hw
    exact ⟨w, hw, fun hb => ⟨(barred hb).1, fun c d hc => nomatch hc⟩⟩

theorem State.Prompt.completed (h : s.Prompt) (data : Option Word) : (s.completed data).Prompt where
  left :=
    { paired := rfl
      decided := fun c d hc => nomatch hc
      waiting := fun hw => by
        rw [show (s.completed data).guard.waitingWrite = none from h.2] at hw
        exact nomatch hw
      queue := h.1.queue
      requests := fun r hr => (h.1.requests r hr).outlives }
  right := h.2

theorem State.Prompt.completeCycle (h : s.Prompt) (data : Option Word) : (s.completeCycle data).Prompt :=
  State.inert_prompt.releaseReads (h.completed data)

theorem State.Clear.completeCycle (h : s.Clear) (data : Option Word) : (s.completeCycle data).Clear :=
  State.inert_clear.releaseReads (s := s.completed data) ⟨h.1.completed data, h.2⟩

/-- A request of the processor's, as its cycle allows. -/
theorem State.Guarded.enqueueProcessor (h : s.Guarded) (hr : r.Lawful s.port.cycle s.core?) :
    (s.enqueueProcessor r).Guarded where
  paired := h.paired
  decided := h.decided
  waiting := h.waiting
  queue := h.queue
  requests q hq := by
    rcases MemPort.mem_procRequests.1 hq with own | hp
    · exact h.requests q (MemPort.mem_procRequests.2 (.inl own))
    · cases hp
      exact hr

end
end Sys2Proof.Machine
end

section
namespace Sys2Proof.Machine

section
variable {s t : State} {c : Cycle} {d : DecisionRecord} {r : Request} {m : MemPort} {n : Fin 8}

/-! ## Decisions (R47 to R51) -/

/-- R48, R49: only a write to a RECORDS window is a FILL-CHECK, and the class table gives no COUNTER. -/
theorem classOutcome_fill (cls : WindowClass) (k : Kind) (held : Bool) :
    (classOutcome cls k held = .fillCheck → cls = .records) ∧ classOutcome cls k held ≠ .counter := by
  cases k with
  | fetch =>
    unfold classOutcome
    simp only []
    split <;> simp
  | read =>
    unfold classOutcome
    simp only []
    split <;> simp
  | write => cases cls <;> cases held <;> simp [classOutcome]

/-- R48, R50: the class table and the law of cell words. -/
theorem State.decisionOf_lawful (h : s.CellWordsOpen) (c : Cycle) : (s.decisionOf c).Lawful c := by
  cases hn : s.guard.cellAt (byteAddress c.address) with
  | none =>
    obtain ⟨right, outcome, -⟩ := State.decisionOf_class c s hn
    refine ⟨fun ho hk hb => ?_, fun ho => ?_, fun ho => ?_⟩
    · rw [right, hk]
      refine ⟨?_, rfl⟩
      rw [outcome, hk] at ho
      revert ho hb
      cases (s.decisionOf c).window.terms.cls <;> simp [classOutcome, WindowClass.internalWriteBarred]
    · exact (classOutcome_fill ..).1 (outcome.symm.trans ho)
    · exact absurd (outcome.symm.trans ho) (classOutcome_fill ..).2
  | some n =>
    obtain ⟨-, outcome⟩ := State.decisionOf_cell c s (by rw [show (s.decisionOf c).cell = some n from hn]; simp)
    have counter : (s.decisionOf c).outcome = .counter ∨ (s.decisionOf c).outcome = .substitute := by
      rw [outcome, cellOutcome]
      split
      · exact .inr rfl
      · exact .inl rfl
    refine ⟨fun ho => ?_, fun ho => ?_, fun _ => h _ n hn⟩
    · simp [ho] at counter
    · simp [ho] at counter

/-- R47: a port with no work of the processor's takes a cycle. -/
theorem State.Clear.decided (h : s.Clear) (lawful : (s.decisionOf c).Lawful c) : (s.decided c).Prompt where
  left :=
    { paired := rfl
      decided := fun c' d hc hd => by
        cases hc
        cases hd
        exact ⟨lawful.pass, lawful.fill, lawful.counter⟩
      waiting := fun hw => by
        rw [show (s.decided c).guard.waitingWrite = none from h.1.2] at hw
        exact nomatch hw
      queue := h.1.1.queue
      requests := fun r hr => by
        rw [show (s.decided c).mem.procRequests = [] from h.2] at hr
        exact nomatch hr }
  right := h.1.2

/-! ## Cycles at cell words (R81 to R85) -/

/-- R50, R80: a counter write goes to a window of class OPEN or RECORDS. -/
theorem State.Prompt.startWrite (h : s.Prompt) (counter : ∃ d, s.core? = some d ∧ d.outcome = .counter) (n : Fin 8)
    (d : CellDef) (x : Nat) (isSet : Bool) : (s.startWrite n d .processor x isSet).Prompt := by
  obtain ⟨e, hd, ho⟩ := counter
  obtain ⟨f, hf, rfl⟩ := State.core?_eq_some.1 hd
  obtain ⟨c, hc⟩ : ∃ c, s.port.cycle = some c := by
    rw [← Option.isSome_iff_exists, h.1.paired, hd]
    rfl
  have free := (h.1.decided c f.core hc hd).counter ho
  have set : State.Prompt (s.setOp n (some (.evaluation .processor x isSet))) := State.inert_prompt.setOp n _ h
  refine ⟨set.1.enqueueProcessor ⟨fun hq => ?_, fun _ => ⟨f.window, ?_, fun hb => ?_⟩⟩, set.2⟩
  · simp [cellRequest] at hq
  · simp [cellRequest, hf]
  · exact nomatch hb.symm.trans free

theorem State.Prompt.takeWrite (h : s.Prompt) (counter : ∃ d, s.core? = some d ∧ d.outcome = .counter) (n : Fin 8) :
    (s.takeWrite n).Prompt := by
  have judged := State.inert_prompt.and (State.inert_core s.core?)
  have evaluated (p : Nat) : ((s.evaluate n .processor p).finishWrite n).Prompt := by
    have kept := judged.evaluate (n := n) (o := .processor) (p := p) (fun _ u d x isSet hu =>
      ⟨hu.1.startWrite (by rw [hu.2]; exact counter) n d x isSet, hu.2⟩) ⟨h, rfl⟩
    unfold State.finishWrite
    split
    · exact kept.1
    · exact kept.1.completeCycle _
  have pending (x : Half) (v : Word) : (s.setPending n x v).Prompt :=
    (State.inert_prompt.modifyLive n _ h).completeCycle _
  unfold State.takeWrite
  split
  · exact h
  · split
    · split
      · exact evaluated _
      · unfold State.takeHalf
        split
        · exact pending ..
        · split
          · exact pending ..
          · exact evaluated _
    · exact h.completeCycle _

/-- R82: the waiting write is that of a cycle decided COUNTER. -/
theorem State.Guarded.takeWaiting (h : s.Guarded) (n : Fin 8) : (s.takeWaiting n).Guarded := by
  unfold State.takeWaiting
  split
  · rename_i w
    have taken : State.Prompt { s with guard := { s.guard with waitingWrite := none } } :=
      ⟨h.of_eq rfl rfl (fun hw => nomatch hw) h.queue fun _ => id, rfl⟩
    exact (taken.takeWrite (h.waiting (by rw [w.1]; rfl)) n).1
  · exact h

theorem State.Guarded.absorbWaiting (h : s.Guarded) (n : Fin 8) : (s.absorbWaiting n).Guarded := by
  unfold State.absorbWaiting
  split
  · have taken : State.Prompt { s with guard := { s.guard with waitingWrite := none } } :=
      ⟨h.of_eq rfl rfl (fun hw => nomatch hw) h.queue fun _ => id, rfl⟩
    exact (taken.completeCycle none).1
  · exact h

theorem State.Prompt.counterWrite (h : s.Prompt) (counter : ∃ d, s.core? = some d ∧ d.outcome = .counter) (n : Fin 8)
    (c : Cycle) : (s.counterWrite n c).Guarded := by
  unfold State.counterWrite
  split
  · exact (State.Prompt.completeCycle (State.inert_prompt.violation _ _ _ h) none).1
  · split
    · exact { h.1 with waiting := fun _ => counter }
    · exact (h.takeWrite counter n).1

theorem State.Prompt.counterRead (h : s.Prompt) (n : Fin 8) (c : Cycle) (w : MatchedWindow) :
    (s.counterRead n c w).Guarded := by
  unfold State.counterRead
  split
  · exact (h.completeCycle _).1
  · exact h.1.enqueueProcessor ⟨fun hq => by simp at hq, fun hw => nomatch hw⟩

/-! ## Outcomes (R8 to R10, R59) -/

/-- R52: the write of a PASS is of the cycle in progress, whose record has held the right. -/
theorem State.Guarded.passLawful (h : s.Guarded) (hc : s.port.cycle = some c) (hd : s.core? = some d.core)
    (ho : d.outcome = .pass) : (cycleRequest c .pass c.kind.direction d.window).Lawful s.port.cycle s.core? := by
  refine ⟨fun hq => by simp [cycleRequest] at hq, fun hw => ⟨d.window, rfl, fun hb => ⟨rfl, fun c' d' hc' hd' => ?_⟩⟩⟩
  cases hc.symm.trans hc'
  cases hd.symm.trans hd'
  have kind : c.kind = .write := by
    have hw : c.kind.direction = .write := hw
    rw [Kind.direction_eq] at hw
    split at hw
    · assumption
    · exact nomatch hw
  exact ⟨kind, ho, rfl, (h.decided c d.core hc hd).pass ho kind hb⟩

theorem State.Prompt.denyCycle (h : s.Prompt) (c : Cycle) (d : DecisionRecord) : (s.denyCycle c d).Guarded :=
  State.inert_guarded.denial c d (h.completeCycle _).1

theorem State.Prompt.carryOut (h : s.Prompt) (hc : s.port.cycle = some c) (hd : s.core? = some d.core) :
    (s.carryOut c d).Guarded := by
  have charged : (s.chargePass c d).Guarded ∧ (s.chargePass c d).port.cycle = some c ∧
      (s.chargePass c d).core? = some d.core := by
    unfold State.chargePass
    split
    · have k := State.accessStep_chargeOpt d.chargeGrant s
      exact ⟨State.inert_guarded.chargeOpt _ h.1, by rw [k.port, hc], k.core.trans hd⟩
    · exact ⟨h.1, hc, hd⟩
  unfold State.carryOut
  split
  · rename_i ho
    obtain ⟨guarded, cycle, core⟩ := charged
    exact guarded.enqueueProcessor (guarded.passLawful cycle core ho)
  · exact h.denyCycle c d
  · exact h.denyCycle c d
  · rename_i ho
    refine h.1.enqueueProcessor ⟨fun _ d' hd' => ?_, fun hw => nomatch hw⟩
    cases hd.symm.trans hd'
    exact ho
  · rename_i ho
    split
    · exact h.1
    · split
      · exact h.counterWrite ⟨d.core, hd, ho⟩ _ c
      · exact h.counterRead _ c _

/-- R10, R59: the write of a FILL-CHECK goes to a window of class RECORDS. -/
theorem State.Prompt.judgeFill (h : s.Prompt) (fill : ∀ d, s.core? = some d → d.outcome = .fillCheck) (timedOut : Bool)
    (word : Word) : (s.judgeFill timedOut word).Guarded := by
  unfold State.judgeFill
  split
  · rename_i c d hc hd
    have core := State.core?_of_record hd
    have outcome : d.outcome = .fillCheck := fill d.core core
    have judged : State.Prompt { s with decision := { s.decision with record := some { d with fill := some .judged } } } :=
      ⟨h.1.of_eq rfl core.symm id h.1.queue fun _ => id, h.2⟩
    have lawful : (cycleRequest c .fillWrite .write d.window).Lawful s.port.cycle (some d.core) := by
      refine ⟨fun _ d' hd' => ?_, fun _ => ⟨d.window, rfl, fun hb => ?_⟩⟩
      · cases hd'
        exact outcome
      · have records : d.window.terms.cls = .records := (h.1.decided c d.core hc core).fill outcome
        rw [records] at hb
        exact nomatch hb
    have written := judged.1.enqueueProcessor lawful
    simp only []
    split
    · exact (judged.completeCycle _).1
    · split
      · exact written
      · split
        · exact State.inert_guarded.chargeOpt _ written
        · exact judged.denyCycle c d
  · exact h.1

/-! ## A port that takes a cycle (R1 to R3, R24) -/

theorem State.Clear.takeCycle (h : s.Clear) (wordsOpen : s.CellWordsOpen) (l : CycleLines) : (s.takeCycle l).Guarded := by
  have failed (reason : Reason) : (s.parityFailure reason l).Guarded :=
    (State.Prompt.completeCycle (State.inert_prompt.alertCause (State.inert_prompt.takeRecord _ h.1)) _).1
  unfold State.takeCycle
  split
  · exact failed _
  · split
    · exact failed _
    · exact (h.1.completeCycle _).1
    · exact (h.decided (State.decisionOf_lawful wordsOpen _)).carryOut rfl rfl

/-- A change of the port that keeps the cycle. -/
theorem State.Clear.setPort (h : s.Clear) {p : ProcPort} (hp : p.cycle = s.port.cycle) : State.Clear { s with port := p } :=
  ⟨⟨h.1.1.of_eq hp rfl id h.1.1.queue fun _ => id, h.1.2⟩, h.2⟩

theorem State.Guarded.setPort (h : s.Guarded) {p : ProcPort} (hp : p.cycle = s.port.cycle) :
    State.Guarded { s with port := p } := h.of_eq hp rfl id h.queue fun _ => id

theorem State.Clear.takePresented (h : s.Clear) (wordsOpen : s.CellWordsOpen) : s.takePresented.Guarded := by
  unfold State.takePresented
  split
  · exact h.1.1
  · exact (h.setPort (p := { s.port with presented := none }) rfl).takeCycle wordsOpen _

theorem State.Guarded.leaveResetHeld (h : s.Guarded)
    (clear : s.port.state = .resetHeld → s.mem.counterRemains = false → s.Clear ∧ s.CellWordsOpen) :
    s.leaveResetHeld.Guarded := by
  unfold State.leaveResetHeld
  split
  · rename_i w
    obtain ⟨hs, -, hc⟩ := w
    obtain ⟨idle, wordsOpen⟩ := clear hs hc
    exact (idle.setPort (p := { s.port with state := .idle }) rfl).takePresented wordsOpen
  · exact h

/-- A port that is not ACTIVE, with no work of the processor's. -/
theorem State.Guarded.clear (h : s.Guarded) (k : s.Orderly []) (ha : s.port.state ≠ .active) (hj : s.mem.procJobs = []) :
    s.Clear := ⟨⟨h, k.port.waiting_none (.inl ha)⟩, MemPort.procRequests_nil k.request.place hj⟩

end
end Sys2Proof.Machine
end

section
namespace Sys2Proof.Machine

section
variable {s u : State} {t x : Transfer} {n : Fin 8} {r : Request}

/-! ## The ends of transfers (R15, R20, R23, R24) -/

theorem State.Guarded.freed (h : s.Guarded) : s.freed.Guarded :=
  h.of_eq rfl rfl id h.queue fun r hr => by
    rcases MemPort.mem_procRequests.1 hr with ⟨t, ht, -⟩ | hp
    · exact nomatch ht
    · exact MemPort.mem_procRequests.2 (.inr hp)

theorem State.Guarded.opEnd (h : s.Guarded) (n : Fin 8) (r : TransferResult) : (s.opEnd n r).Guarded :=
  State.inert_guarded.opEnd (fun _ k => k.takeWaiting n) r h

/-- Where no write waits, the end of an operation leaves the port clear. -/
theorem State.Clear.opEnd (h : s.Clear) (n : Fin 8) (r : TransferResult) : (s.opEnd n r).Clear :=
  State.inert_clear.opEnd (fun _ k => by rw [State.takeWaiting_of_none k.1.2]; exact k) r h

theorem State.Clear.completeIfActive (h : s.Clear) (data : Option Word) : (s.completeIfActive data).Clear := by
  unfold State.completeIfActive
  split
  · exact h.completeCycle data
  · exact h

/-- R23: bus reset drops none but the transfers of a PASS and a FILL-CHECK. -/
theorem State.Orderly.not_dropped (k : s.Orderly []) (ht : s.mem.transfer = some t)
    (hq : t.request.requester.cutByReset = false) : t.dropped = false := by
  rw [← Bool.not_eq_true]
  exact fun hd => nomatch (k.port.dropped t ht hd).symm.trans hq

theorem State.Guarded.deliver (h : s.Guarded) (k : s.Orderly []) (wordsOpen : s.CellWordsOpen) (ht : s.mem.transfer = some t) :
    (s.freed.deliver t).Guarded := by
  have own {j : ProcJob} (hq : t.request.requester = .processor j) (hd : t.dropped = false) : s.freed.Clear := by
    obtain ⟨-, left, prompt⟩ := k.own_job ht hq hd
    exact ⟨⟨h.freed, prompt⟩, MemPort.procRequests_nil k.request.place left⟩
  have counter {u : State} (hu : u.Clear) (same : s.SameTables u) :
      ((u.completeIfActive none).leaveResetHeld).Guarded ∧
        ((u.completeIfActive (some t.result.word0)).leaveResetHeld).Guarded := by
    have left (data : Option Word) : ((u.completeIfActive data).leaveResetHeld).Guarded := by
      have completed := hu.completeIfActive data
      exact completed.1.1.leaveResetHeld fun _ _ => ⟨completed,
        wordsOpen.of_sameTables (same.trans (State.keepsLaws_completeIfActive data u).toSameTables)⟩
    exact ⟨left _, left _⟩
  have freed : s.SameTables s.freed := ⟨rfl, fun _ => rfl, rfl, id, id⟩
  have cycle {u : State} (hu : t.dropped = false → u.Guarded) :
      (if t.dropped then s.freed.releaseAbandoned else u).Guarded := by
    split
    · exact State.inert_guarded.releaseAbandoned h.freed
    · rename_i hd
      exact hu (by simpa using hd)
  unfold State.deliver
  split
  · exact h.freed.opEnd _ _
  · rename_i n hq
    exact (counter ((own hq (k.not_dropped ht (by rw [hq]; rfl))).opEnd n t.result)
      (freed.trans (State.keepsLaws_opEnd n t.result s.freed).toSameTables)).1
  · rename_i hq
    exact (counter (own hq (k.not_dropped ht (by rw [hq]; rfl))) freed).2
  · rename_i hq
    exact cycle fun hd => ((own hq hd).1.completeCycle _).1
  · rename_i hq
    exact cycle fun hd => ((own hq hd).1.completeCycle _).1
  · rename_i hq
    refine cycle fun hd => (own hq hd).1.judgeFill ((h.requests t.request ?_).fill (.inl hq)) _ _
    exact MemPort.mem_procRequests.2 (.inl ⟨t, ht, hd, rfl, by rw [hq]; rfl⟩)

/-! ## The memory port (R12, R13, R15, R20, R21) -/

/-- The transfer in progress goes on. -/
theorem State.Guarded.continue (h : s.Guarded) (ht : s.mem.transfer = some t) (hx : t.Continues x) : State.Guarded { s with mem := { s.mem with transfer := some x } } :=
  h.of_eq rfl rfl id h.queue fun r hm => by
    rcases MemPort.mem_procRequests.1 hm with ⟨y, hy, dropped, hry, hi⟩ | hp
    · cases hy
      exact MemPort.mem_procRequests.2 (.inl ⟨t, ht, hx.dropped ▸ dropped, hx.request ▸ hry, hi⟩)
    · exact MemPort.mem_procRequests.2 (.inr hp)

theorem State.Guarded.afterAccess (h : s.Guarded) (k : s.Orderly []) (wordsOpen : s.CellWordsOpen)
    (ht : s.mem.transfer = some t) (hx : t.Continues x) : (s.afterAccess x).Guarded := by
  have next := h.continue ht hx
  have order := k.continue ht (by rw [hx.request]) hx.dropped
  unfold State.afterAccess
  split
  · have same := State.sameTraffic_reportTimeout x { s with mem := { s.mem with transfer := some x } }
    have tables : s.SameTables { s with mem := { s.mem with transfer := some x } } := ⟨rfl, fun _ => rfl, rfl, id, id⟩
    have e : s.endTransfer x = State.endTransfer x { s with mem := { s.mem with transfer := some x } } := rfl
    rw [e, State.endTransfer_eq]
    exact (State.inert_guarded.reportTimeout x next).deliver (order.of_sameTraffic same)
      (wordsOpen.of_sameTables (tables.trans (State.keepsLaws_reportTimeout x _).toSameTables)) (by rw [same.mem])
  · exact next

theorem State.Guarded.endAccess (h : s.Guarded) (k : s.Orderly []) (wordsOpen : s.CellWordsOpen) (data : Word) :
    (s.endAccess data).Guarded := by
  rcases s.endAccess_cases data with e | ⟨t, x, ht, hx, e⟩ <;> rw [e]
  · exact h
  · exact h.afterAccess k wordsOpen ht hx

theorem State.Guarded.timeOutAccess (h : s.Guarded) (k : s.Orderly []) (wordsOpen : s.CellWordsOpen) :
    s.timeOutAccess.Guarded := by
  rcases s.timeOutAccess_cases with e | ⟨t, x, ht, hx, e⟩ <;> rw [e]
  · exact h
  · exact h.afterAccess k wordsOpen ht hx

/-- The arbiter's turns: an internal request is none of the processor's, and the processor's own keeps its place. -/
theorem State.Guarded.serveWith (wide : Bool) : ∀ (fuel : Nat) (s : State), s.Guarded → (State.serveWith wide fuel s).Guarded
  | 0, _, h => h
  | fuel + 1, s, h => by
    rw [State.serveWith_succ]
    split
    · exact h
    · rename_i r rest ht hq
      have internal : ∀ q ∈ rest, q.requester.isInternal = true := fun q hm => h.queue q (by rw [hq]; exact .tail _ hm)
      have taken : State.Guarded { s with mem := { s.mem with queue := rest } } :=
        h.of_eq rfl rfl id internal fun _ => id
      simp only []
      split
      · refine serveWith wide fuel _ ?_
        unfold State.tellNotMade
        split
        · exact taken.opEnd _ _
        · exact taken
      · refine h.of_eq rfl rfl id internal fun q hm => ?_
        rcases MemPort.mem_procRequests.1 hm with ⟨y, hy, -, rfl, hi⟩ | hp
        · cases hy
          exact nomatch (h.queue r (by rw [hq]; exact .head _)).symm.trans hi
        · exact MemPort.mem_procRequests.2 (.inr hp)
    · rename_i r ht hq hp
      refine h.of_eq rfl rfl id h.queue fun q hm => ?_
      rcases MemPort.mem_procRequests.1 hm with ⟨y, hy, -, rfl, hi⟩ | hn
      · cases hy
        exact MemPort.mem_procRequests.2 (.inr hp)
      · exact nomatch hn
    · exact h

theorem State.Guarded.serve (h : s.Guarded) (wide : Bool) : (s.serve wide).Guarded := State.Guarded.serveWith wide _ s h

/-! ## Bus reset (R22, R23) -/

/-- R23: what bus reset leaves at the memory port. -/
theorem MemPort.procRequests_busReset {m : MemPort} (h : r ∈ m.busReset.procRequests) : r ∈ m.procRequests := by
  rcases MemPort.mem_procRequests.1 h with ⟨t, ht, hd, hr, hi⟩ | hp
  · obtain ⟨y, hy, e⟩ := Option.map_eq_some_iff.1 ht
    unfold Transfer.cut at e
    split at e
    · rw [← e] at hd
      exact nomatch hd
    · rw [← e] at hd hr
      exact MemPort.mem_procRequests.2 (.inl ⟨y, hy, hd, hr, hi⟩)
  · exact MemPort.mem_procRequests.2 (.inr (Option.filter_eq_some_iff.1 hp).1)

theorem State.Guarded.assertReset (h : s.Guarded) : s.assertReset.Guarded := by
  have abandoned : State.Guarded { s with
      port := { s.port with busReset := true, state := .resetHeld, cycle := none, completion := none }
      decision := { s.decision with record := none }
      guard := { s.guard with waitingWrite := none }
      mem := s.mem.busReset } :=
    { paired := rfl
      decided := fun c d hc => nomatch hc
      waiting := fun hw => nomatch hw
      queue := h.queue
      requests := fun r hr => (h.requests r (MemPort.procRequests_busReset hr)).outlives }
  refine State.inert_guarded.forCells (fun n _ => State.inert_guarded.tearForReset n) ?_
  unfold State.portReset
  split
  · unfold State.abandon
    simp only []
    split
    · exact State.inert_guarded.forCells (fun n _ => State.inert_guarded.keepRead n) abandoned
    · exact State.inert_guarded.releaseReads abandoned
  · exact h.of_eq rfl rfl id h.queue fun _ => id
  · exact h.of_eq rfl rfl id h.queue fun _ => id

/-! ## Start-up (R2, R195) -/

theorem State.Guarded.finishLoad (h : s.Guarded) (queue : ∀ r ∈ s.finishLoad.mem.queue, r.requester.isInternal = true) :
    s.finishLoad.Guarded := by
  have whole := s.finishLoad_whole
  refine h.of_eq ?_ ?_ ?_ queue ?_
  · rw [whole]
  · rw [whole]
    rfl
  · rw [whole]
    exact id
  · rw [whole]
    exact fun _ => id

theorem State.Guarded.openPart (h : s.Guarded) (clear : s.Clear) (wordsOpen : s.CellWordsOpen) : s.openPart.Guarded := by
  have opened : (State.openPort { s with start := { s.start with phase := .running } }).Guarded := by
    have running : State.Clear { s with start := { s.start with phase := .running } } :=
      ⟨⟨h.of_eq rfl rfl id h.queue fun _ => id, clear.1.2⟩, clear.2⟩
    unfold State.openPort
    split
    · exact running.1.1.setPort rfl
    · exact (running.setPort (p := { s.port with state := .idle }) rfl).takePresented wordsOpen
  exact opened.of_eq rfl rfl id opened.queue fun _ => id

/-! ## Every move of the ports keeps the law -/

theorem State.Guarded.portMove (h : s.Guarded) (k : s.Orderly []) (wordsOpen : s.CellWordsOpen) (p : s.PortMove u) :
    u.Guarded := by
  have ticked : State.Guarded (s.withTime s.time.takeTableTick) := State.inert_guarded.withTime _ h
  cases p with
  | none => exact h
  | cycle l =>
    unfold State.presentCycle
    split
    · rename_i hs
      exact (h.clear k (by simp [hs]) (k.port.jobs_nil (.inl hs))).takeCycle wordsOpen l
    · exact h.setPort rfl
    · exact h.setPort rfl
    · exact h
  | accessEnd data => exact h.endAccess k wordsOpen data
  | accessTimeout => exact h.timeOutAccess k wordsOpen
  | tick => exact State.inert_guarded.tickGuard h
  | tableTick => exact ticked
  | applyTick =>
    have applied := State.inert_guarded.applyNow (fun n _ k => k.absorbWaiting n) ticked
    unfold State.divisorTick
    split
    · exact applied.of_eq rfl rfl id applied.queue fun _ => id
    · exact applied
  | ignitionOff => exact State.inert_guarded.ignitionOffGuard h
  | busReset => exact h.assertReset
  | busResetEnd =>
    refine State.Guarded.leaveResetHeld (h.setPort (p := { s.port with busReset := false }) rfl) fun hs hc => ?_
    have ha : s.port.state ≠ .active := by
      rw [show s.port.state = .resetHeld from hs]
      simp
    exact ⟨(h.clear k ha (k.port.no_jobs ha hc)).setPort rfl, wordsOpen⟩
  | loadEnd loading => exact h.finishLoad (k.finishLoad loading).request.queue
  | scanEnd scanning =>
    have hs : s.port.state = .closed := k.port.closed_iff.2 (by simp [scanning])
    exact h.openPart (h.clear k (by simp [hs]) (k.port.jobs_nil (.inr hs))) wordsOpen

/-- R52: the law of the protected classes, for the cycle in progress and for the processor's requests. -/
theorem State.protectedWriteLaw_kept (traffic : s.TrafficLaw) (tables : s.TableLaw) (h : s.ProtectedWriteLaw)
    (hstep : step s = .next u) : u.ProtectedWriteLaw := by
  have order : u.Orderly [] := (trafficLawKept s u traffic hstep).orderly
  refine State.Guarded.protectedWriteLaw ?_ order
  have guarded := State.Guarded.of_laws traffic.orderly h
  have unmoved {v : State} (hv : v.Guarded) (k : v.AccessStep u) : u.Guarded := by
    refine ⟨by rw [k.port, k.core, hv.paired], by rw [k.port, k.core]; exact hv.decided, fun hw => ?_,
      k.mem ▸ hv.queue, by rw [k.port, k.core, k.mem]; exact hv.requests⟩
    obtain ⟨e, he, ho⟩ := Option.map_eq_some_iff.1 (order.port.waiting hw).2
    exact ⟨e.core, State.core?_of_record he, ho⟩
  rcases State.step_cases hstep with idle | ⟨rest, next⟩
  · exact unmoved guarded idle.toAccessStep
  · have taken : State.Guarded { s with pending := rest } := guarded.of_eq rfl rfl id guarded.queue fun _ => id
    have orderly := traffic.orderly.of_sameTraffic (State.sameTraffic_pending rest s)
    cases next with
    | quiet k => exact unmoved taken k.toAccessStep
    | served wide k => exact (taken.portMove orderly tables.cellWordsOpen k).serve wide
    | powerOn strap k =>
      cases k
      exact ⟨rfl, fun c d hc => (nomatch hc), fun hw => (nomatch hw), fun r hr => (nomatch hr), fun r hr => (nomatch hr)⟩

end
end Sys2Proof.Machine
end

section
namespace Sys2Proof.Machine

section
variable {s u : State} {t x : Transfer} {r : Request}

/-! ## Internal writes (R12) -/

/-- R12: an internal write is in no barred class, and the processor place holds no internal request that could be granted
without the test. -/
def State.Barring (s : State) : Prop :=
  s.InternalWriteLaw ∧ ∀ r ∈ s.mem.place, r.requester.isInternal = false

/-- The law of a transfer in progress. -/
theorem State.Barring.of_mem (h : s.Barring) (transfer : ∀ x ∈ u.mem.transfer, ∃ t ∈ s.mem.transfer,
    x.request = t.request ∧ x.window = t.window) (place : ∀ r ∈ u.mem.place, r ∈ s.mem.place) : u.Barring where
  left x hx hi hw := by
    obtain ⟨t, ht, hr, hwin⟩ := transfer x hx
    rw [hwin]
    exact h.1 t ht (hr ▸ hi) (hr ▸ hw)
  right r hr := h.2 r (place r hr)

theorem State.Barring.of_eq (h : s.Barring) (transfer : u.mem.transfer = s.mem.transfer) (place : u.mem.place = s.mem.place) :
    u.Barring := h.of_mem (fun x hx => ⟨x, transfer ▸ hx, rfl, rfl⟩) fun _ hr => place ▸ hr

theorem State.steady_barring : State.Steady State.Barring where
  blocks h _ _ _ mem _ _ _ := h.of_eq (by rw [mem]) (by rw [mem])
  enqueueInternal _ h := h.of_eq rfl rfl
  charge i h := h.of_eq (by simp) (by simp)
  scoreIncrement k cause h := h.of_eq (by simp) (by simp)
  enqueueProcessor hr h := ⟨h.1, fun q hq => by cases hq; exact hr⟩
  setWaiting _ h := h.of_eq rfl rfl
  completed _ h := h.of_eq rfl rfl
  decided _ h := h.of_eq rfl rfl
  judged _ h := h.of_eq rfl rfl
  setPort _ h := h.of_eq rfl rfl

theorem State.Barring.afterAccess (h : s.Barring) (ht : s.mem.transfer = some t) (hx : t.Continues x) :
    (s.afterAccess x).Barring := by
  unfold State.afterAccess
  split
  · have freed : State.Barring { s with mem := { s.mem with transfer := none } } :=
      h.of_mem (fun y hy => nomatch hy) fun _ => id
    exact State.steady_barring.deliver x (State.steady_barring.reportTimeout x freed)
  · exact h.of_mem (fun y hy => by cases hy; exact ⟨t, ht, hx.request, hx.window⟩) fun _ => id

theorem State.Barring.endAccess (h : s.Barring) (data : Word) : (s.endAccess data).Barring := by
  rcases s.endAccess_cases data with e | ⟨t, x, ht, hx, e⟩ <;> rw [e]
  · exact h
  · exact h.afterAccess ht hx

theorem State.Barring.timeOutAccess (h : s.Barring) : s.timeOutAccess.Barring := by
  rcases s.timeOutAccess_cases with e | ⟨t, x, ht, hx, e⟩ <;> rw [e]
  · exact h
  · exact h.afterAccess ht hx

/-- R12: an internal write is granted only where its window is of no barred class. -/
theorem State.Barring.serveWith (wide : Bool) : ∀ (fuel : Nat) (s : State), s.Barring → (State.serveWith wide fuel s).Barring
  | 0, _, h => h
  | fuel + 1, s, h => by
    rw [State.serveWith_succ]
    split
    · exact h
    · rename_i r rest _ _
      have taken : State.Barring { s with mem := { s.mem with queue := rest } } := h.of_eq rfl rfl
      simp only []
      split
      · exact serveWith wide fuel _ (State.steady_barring.tellNotMade r taken)
      · rename_i free
        rw [State.barred_iff] at free
        refine ⟨fun y hy _ hw hc => free ⟨?_, ?_⟩, h.2⟩
        · cases hy
          exact hw
        · cases hy
          rw [← State.windowOf_eq]
          exact hc
    · rename_i r _ _ hp
      refine ⟨fun y hy hi => ?_, fun q hq => nomatch hq⟩
      cases hy
      exact nomatch hi.symm.trans (h.2 r hp)
    · exact h

theorem State.Barring.assertReset (h : s.Barring) : s.assertReset.Barring := by
  refine State.steady_barring.assertReset (fun s h => ?_) h
  refine h.of_mem (fun x hx => ?_) fun r hr => (Option.filter_eq_some_iff.1 hr).1
  obtain ⟨t, ht, rfl⟩ := Option.map_eq_some_iff.1 hx
  refine ⟨t, ht, ?_⟩
  unfold Transfer.cut
  split <;> exact ⟨rfl, rfl⟩

theorem State.Barring.portMove (h : s.Barring) (k : s.PortMove u) : u.Barring := by
  refine State.steady_barring.portMove h (h.endAccess ·) h.timeOutAccess h.assertReset (fun v hv => ?_) (fun _ => ?_)
    (fun _ => ?_) k
  · unfold State.divisorTick
    split
    · exact hv.of_eq rfl rfl
    · exact hv
  · have whole := s.finishLoad_whole
    exact h.of_eq (by rw [whole]) (by rw [whole])
  · have running : State.Barring { s with start := { s.start with phase := .running } } := h.of_eq rfl rfl
    exact (State.steady_barring.openPort running).of_eq rfl rfl

theorem State.internalWriteLaw_kept (traffic : s.TrafficLaw) (h : s.InternalWriteLaw) (hstep : step s = .next u) :
    u.InternalWriteLaw := by
  have barring : s.Barring := ⟨h, traffic.orderly.request.place⟩
  rcases State.step_cases hstep with idle | ⟨rest, next⟩
  · exact (barring.of_eq (by rw [idle.mem]) (by rw [idle.mem])).1
  · have taken : State.Barring { s with pending := rest } := barring.of_eq rfl rfl
    cases next with
    | quiet k => exact (taken.of_eq (by rw [k.mem]) (by rw [k.mem])).1
    | served wide k => exact (State.Barring.serveWith wide _ _ (taken.portMove k)).1
    | powerOn strap k =>
      cases k
      exact fun t ht => nomatch ht

end
end Sys2Proof.Machine
end

section
namespace Sys2Proof.Machine

section
variable {s t u : State} {l : CycleLines} {c : Cycle} {d : DecisionRecord} {r : Request}

/-! ## The right is held as the cycle begins (R48, R51, R52) -/

/-- The requests that hold the memory port and the processor place. -/
abbrev MemPort.atPort (m : MemPort) : List Request := (m.transfer.map Transfer.request).toList ++ m.place.toList

/-- From `s` to `u` the memory port has gained internal reads and, in the processor place, requests of a kind. -/
structure State.Gains (new : Request → Prop) (s u : State) : Prop where
  transfer : u.mem.transfer = s.mem.transfer
  queue : ∀ q ∈ u.mem.queue, q ∈ s.mem.queue ∨ q.direction = .read
  place : ∀ r ∈ u.mem.place, r ∈ s.mem.place ∨ new r

variable {new : Request → Prop}

/-- R97: a completed cycle makes way for the new reads that waited for it. -/
theorem State.gains_completeCycle (h : u.mem = s.mem) (data : Option Word) : s.Gains new (u.completeCycle data) := by
  have mem := (State.mem_completeCycle data u).trans (by rw [h])
  refine ⟨by rw [mem], fun q hq => ?_, fun r hr => .inl (by rw [mem] at hr; exact hr)⟩
  rw [mem] at hq
  refine (List.mem_append.1 hq).imp id fun hq => ?_
  obtain ⟨n, -, hn⟩ := List.mem_filterMap.1 hq
  unfold Cell.readRequest at hn
  split at hn
  · obtain ⟨d, -, rfl⟩ := Option.map_eq_some_iff.1 hn
    rfl
  · exact nomatch hn

theorem State.gains_enqueueProcessor (h : u.mem = s.mem) (hr : new r) : s.Gains new (u.enqueueProcessor r) :=
  ⟨(congrArg MemPort.transfer h :), fun q hq => .inl (h ▸ hq), fun q hq => by cases hq; exact .inr hr⟩

/-- The write of a cycle of these lines that the decision passes. -/
def State.PassedWrite (l : CycleLines) (s : State) (r : Request) : Prop :=
  r.direction = .write → ∃ c : Cycle, c.address = l.address ∧ c.kind = .write ∧ (s.decisionOf c).outcome = .pass ∧
    r.window = some (s.decisionOf c).window

/-- R8 to R10: of the outcomes at a word that is no cell word a PASS alone can request a write at once. -/
theorem State.gains_carryOut (hc : c.address = l.address) (hn : s.guard.cellAt (byteAddress c.address) = none)
    (h : u.mem = s.mem) : s.Gains (s.PassedWrite l) (u.carryOut c (s.decisionOf c)) := by
  obtain ⟨-, outcome, -⟩ := State.decisionOf_class c s hn
  have denied : s.Gains (s.PassedWrite l) (u.denyCycle c (s.decisionOf c)) := by
    obtain ⟨transfer, queue, place⟩ := State.gains_completeCycle (new := s.PassedWrite l) h (unservedData (some c.kind))
    exact ⟨by simpa [State.denyCycle] using transfer, by simpa [State.denyCycle] using queue,
      by simpa [State.denyCycle] using place⟩
  have charged : (u.chargePass c (s.decisionOf c)).mem = s.mem := by
    unfold State.chargePass
    split
    · exact (State.accessStep_chargeOpt _ u).mem.trans h
    · exact h
  unfold State.carryOut
  split
  · rename_i ho
    refine State.gains_enqueueProcessor charged fun hw => ⟨c, hc, ?_, ho, rfl⟩
    have hw : c.kind.direction = .write := hw
    rw [Kind.direction_eq] at hw
    split at hw
    · assumption
    · exact nomatch hw
  · exact denied
  · exact denied
  · exact State.gains_enqueueProcessor h fun hw => nomatch hw
  · rename_i ho
    exact absurd (outcome.symm.trans ho) (classOutcome_fill ..).2

theorem State.gains_takeCycle (hn : s.guard.cellAt (byteAddress l.address) = none) :
    s.Gains (s.PassedWrite l) (s.takeCycle l) := by
  have failed (reason : Reason) : s.Gains (s.PassedWrite l) (s.parityFailure reason l) :=
    State.gains_completeCycle (by simp) _
  unfold State.takeCycle
  split
  · exact failed _
  · split
    · exact failed _
    · exact State.gains_completeCycle rfl _
    · exact State.gains_carryOut rfl hn rfl

/-- R12, R20: where no internal write waits, the grant brings no write to the port that was not in the processor place. -/
theorem State.mem_atPort_of_serve (reads : u.mem.transfer = none → ∀ q ∈ u.mem.queue, q.direction = .read) (wide : Bool)
    (hr : r ∈ (u.serve wide).mem.atPort) (hw : r.direction = .write) : r ∈ u.mem.atPort := by
  by_cases ht : u.mem.transfer = none
  · rcases hq : u.mem.queue with _ | ⟨q, rest⟩
    · cases hp : u.mem.place with
      | none =>
        rw [State.serve_idle wide ht hq hp] at hr
        exact hr
      | some q =>
        rw [State.serve_processor wide ht hq hp, State.begin_eq] at hr
        simpa [MemPort.atPort, Request.start, ht, hp] using hr
    · have read : q.direction = .read := reads ht q (by rw [hq]; exact .head _)
      rw [State.serve_internal wide ht hq (by rw [State.barred_iff, read]; simp), State.begin_eq] at hr
      rcases List.mem_append.1 hr with hr | hr
      · have same : r = q := by simpa [Request.start] using hr
        rw [same, read] at hw
        exact nomatch hw
      · exact List.mem_append_right _ hr
  · rw [State.serve_busy wide ht] at hr
    exact hr

/-- R48, R51: a write that passes in a window of a protected class has an OPEN grant with the right of the class. -/
theorem State.opened_of_passedWrite {w : MatchedWindow} (hn : s.guard.cellAt (byteAddress l.address) = none)
    (h : s.PassedWrite l r) (hw : r.direction = .write) (hwin : r.window = some w)
    (cls : w.terms.cls ∈ [WindowClass.code, .calibration, .priv]) : w = s.matchLive (byteAddress l.address) ∧
      ∃ (i : Fin 4) (g : Grant) (tally : Nat) (openedAt : Quad), s.grants.slots[i] = .opened g tally openedAt ∧
        g.inScope w.id = true ∧ ∀ x, w.terms.cls.writeRight = some x → g.hasRight x = true := by
  obtain ⟨c, hc, kind, pass, window⟩ := h hw
  have live : (s.decisionOf c).window = s.matchLive (byteAddress l.address) := hc ▸ rfl
  cases hwin.symm.trans window
  refine ⟨live, ?_⟩
  obtain ⟨right, outcome, -⟩ := State.decisionOf_class c s (by rw [← hn, ← hc]; rfl)
  rw [kind] at right outcome
  have held : (s.decisionOf c).held = true := by
    rw [outcome] at pass
    revert cls pass
    cases (s.decisionOf c).window.terms.cls <;> simp [classOutcome]
  rw [(State.decisionOf_held c s _ rfl).1, Option.isSome_iff_exists] at held
  obtain ⟨i, hi⟩ := held
  obtain ⟨x, hx, holder⟩ := Option.bind_eq_some_iff.1 hi
  obtain ⟨g, tally, openedAt, slot, scope, has⟩ := Slot.holds_iff.1 (GrantTable.holder_eq_some.1 holder).1
  refine ⟨i, g, tally, openedAt, slot, scope, fun y hy => ?_⟩
  cases (right.symm.trans hx).symm.trans hy
  exact has

/-- Settles O23: the law that each operation of the ports keeps, the test that each internal write meets as it is granted,
and the decision of the cycle that begins. -/
theorem protectedWriteNeedsItsRight : Obligations.ProtectedWriteNeedsItsRight := by
  refine ⟨fun s t traffic tables law hstep => State.protectedWriteLaw_kept traffic tables law hstep,
    fun s t traffic law hstep => State.internalWriteLaw_kept traffic law hstep, fun cls => ⟨?_, rfl, rfl, rfl⟩, ?_⟩
  · cases cls <;> decide
  · intro l wide s t r w idle served hn hstep hr fresh own hw hwin cls
    rw [exec_cycle_presented, State.presentCycle_idle idle] at hstep
    cases hstep
    have gains := State.gains_takeCycle hn
    have reads : (s.takeCycle l).mem.transfer = none → ∀ q ∈ (s.takeCycle l).mem.queue, q.direction = .read := by
      intro ht q hq
      refine (gains.queue q hq).resolve_left fun e => ?_
      rw [(served (gains.transfer.symm.trans ht)).1] at e
      exact nomatch e
    have passed : s.PassedWrite l r := by
      rcases List.mem_append.1 (State.mem_atPort_of_serve reads wide hr hw) with old | placed
      · exact absurd (List.mem_append_left _ (gains.transfer ▸ old)) fresh
      · exact (gains.place r (Option.mem_toList.1 placed)).resolve_left fun e =>
          fresh (List.mem_append_right _ (Option.mem_toList.2 e))
    obtain ⟨live, i, g, tally, openedAt, slot, scope, has⟩ := State.opened_of_passedWrite hn passed hw hwin cls
    exact ⟨live, i, g, tally, openedAt, slot, scope, fun e => has _ (by rw [e]; rfl), fun e => has _ (by rw [e]; rfl),
      fun e => has _ (by rw [e]; rfl)⟩

end
end Sys2Proof.Machine
end

section
namespace Sys2Proof.Machine

section
variable {s : State} {n : Fin 8} {c : Cycle} {d : CellDef} {v : LiveState}

/-! ## The write of a cell word (R81 to R84, R98) -/

/-- R50: a WRITE of a cell word is the counter guard's, in a window of any class. -/
theorem State.carryOut_counterWrite (hk : c.kind = .write) (hn : s.guard.cellAt (byteAddress c.address) = some n)
    (t : State) : t.carryOut c (s.decisionOf c) = t.counterWrite n c := by
  have cell : (s.decisionOf c).cell = some n := hn
  have outcome : (s.decisionOf c).outcome = .counter := by
    rw [(State.decisionOf_cell c s (by simp [cell])).2, hk]
    rfl
  simp [State.carryOut, outcome, cell, hk]

/-- R81: the record of a partial-lane write. -/
theorem partialLanes_report (n : Fin 8) (c : Cycle) :
    cellReport .counterRefused n (some .partialLanes) (byteAddress c.address) c.data.toNat none =
      { kind := .counterRefused, key := some (.cell n), reason := some .partialLanes
        address := some (byteAddress c.address), valueA := some (c.data.setWidth 32), valueB := none } := by
  rw [← BitVec.ofNat_toNat]
  rfl

theorem State.counterWrite_partial (h : c.lanes ≠ .both) : s.counterWrite n c = s.refusePartial n c := if_pos h

theorem State.counterWrite_waits (h : c.lanes = .both) (ho : (s.cell n).op ≠ none) :
    s.counterWrite n c = { s with guard := { s.guard with waitingWrite := some n } } := by
  rw [State.counterWrite, if_neg (by simp [h]), if_pos (Option.isSome_iff_ne_none.2 ho)]

theorem State.counterWrite_taken (h : c.lanes = .both) (ho : (s.cell n).op = none) :
    s.counterWrite n c = s.takeWrite n := by
  rw [State.counterWrite, if_neg (by simp [h]), if_neg (by simp [ho])]

/-- R83: the cycle completes where nothing is in flight after the evaluation. -/
theorem State.finishWrite_eq (n : Fin 8) (s : State) :
    s.finishWrite n = if (s.cell n).op = none then (s.completed none).releaseReads else s := by
  rw [State.finishWrite, State.completeCycle_eq]
  cases (s.cell n).op <;> simp

theorem State.modifyLive_some (hv : (s.cell n).live = some v) (f : LiveState → LiveState) :
    s.modifyLive n f = s.setCell n { s.cell n with live := some (f v) } := by
  rw [State.modifyLive, hv, Option.map_some]

theorem State.setPending_eq (hv : (s.cell n).live = some v) (h : Half) (x : Word) : s.setPending n h x =
    ((s.setCell n { s.cell n with
      live := some { v with half := some { half := h, value := x, age := 0 } } }).completed none).releaseReads := by
  rw [State.setPending, State.modifyLive_some hv, State.completeCycle_eq]

/-- R98: a write at a READING cell is absorbed. -/
theorem State.takeWrite_reading (hc : s.port.cycle = some c) (hv : (s.cell n).live = none) :
    s.takeWrite n = (s.completed none).releaseReads := by
  rw [State.takeWrite, hc, hv, ← State.completeCycle_eq]
  cases (s.cell n).defn <;> rfl

/-- R83: a 16-bit cell evaluates the word written. -/
theorem State.takeWrite_narrow (hc : s.port.cycle = some c) (hd : (s.cell n).defn = some d)
    (hv : (s.cell n).live = some v) (hw : d.width = .w16) :
    s.takeWrite n = (s.evaluate n .processor c.data.toNat).finishWrite n := by
  simp only [State.takeWrite, hc, hd, hv, hw]

/-- R84: a 32-bit cell takes a half. -/
theorem State.takeWrite_wide (hc : s.port.cycle = some c) (hd : (s.cell n).defn = some d)
    (hv : (s.cell n).live = some v) (hw : d.width = .w32) :
    s.takeWrite n = s.takeHalf n (d.halfAt (byteAddress c.address)) c.data v := by
  simp only [State.takeWrite, hc, hd, hv, hw]

theorem State.takeHalf_pends {h : Half} (hp : ∀ p, v.half = some p → p.half = h) (x : Word) (s : State) :
    s.takeHalf n h x v = s.setPending n h x := by
  unfold State.takeHalf
  cases e : v.half with
  | none => rfl
  | some p => exact if_pos (hp p e)

theorem State.takeHalf_evaluates {h : Half} {p : PendingHalf} (hp : v.half = some p) (ne : p.half ≠ h) (x : Word)
    (s : State) : s.takeHalf n h x v = (s.evaluate n .processor (joinHalf h x p.value)).finishWrite n := by
  rw [State.takeHalf, hp]
  exact if_neg ne

/-- Settles O21: the decision of a WRITE of a cell word is COUNTER; the write is refused, waits or is taken, and a write
that is taken follows the cell's state, width and pending half. -/
theorem counterWrites : Obligations.CounterWrites := by
  refine ⟨fun l c wide n s hi h hk hn => ?_, fun n c s hc => ⟨State.takeWrite_reading hc, fun d v hv hd => ?_⟩⟩
  · intro s1
    rw [exec_cycle_decided hi h, State.carryOut_counterWrite hk hn]
    refine ⟨fun lanes => ?_, fun lanes ho => ?_, fun lanes ho => ?_⟩
    · rw [State.counterWrite_partial lanes, State.refusePartial, partialLanes_report, State.completeCycle_eq]
    · rw [State.counterWrite_waits (s := s1) lanes ho]
    · rw [State.counterWrite_taken (s := s1) lanes ho]
  · intro h answer
    have half : d.halfAt (byteAddress c.address) = h := rfl
    have answered (u : State) : u.finishWrite n = answer u := State.finishWrite_eq n u
    refine ⟨fun hw => ?_, fun hw hp => ?_, fun p hw hp ne => ?_⟩
    · rw [State.takeWrite_narrow hc hd hv hw, answered]
    · rw [State.takeWrite_wide hc hd hv hw, half, State.takeHalf_pends hp, State.setPending_eq hv]
    · rw [State.takeWrite_wide hc hd hv hw, half, State.takeHalf_evaluates hp ne, answered]
      rfl

end
end Sys2Proof.Machine
end

section
namespace Sys2Proof.Machine

section
variable {s t u : State} {n : Fin 8} {d : CellDef} {v : LiveState} {o : Origin} {p : Nat} {words : List Addr}

/-! ## The step of one cell in a walk over the cells (R75, R90) -/

/-- The step of cell `n` in a walk, between what the steps of the cells before it and after it leave. -/
theorem forCells_at {f : Fin 8 → State → State} {K : State → State → Prop} (refl : ∀ s, K s s)
    (trans : ∀ {s t u}, K s t → K t u → K s u) (n : Fin 8) (other : ∀ m s, m ≠ n → K s (f m s)) (s : State) :
    ∃ t, K s t ∧ K (f n t) (forCells f s) := by
  have walk : ∀ (l : List (Fin 8)) (s : State), n ∉ l → K s (l.foldl (fun s m => f m s) s) := by
    intro l
    induction l with
    | nil => exact fun s _ => refl s
    | cons m rest ih =>
      intro s hl
      obtain ⟨hm, hrest⟩ := not_or.1 (mt List.mem_cons.2 hl)
      exact trans (other m s fun e => hm e.symm) (ih _ hrest)
  obtain ⟨before, after, whole⟩ := List.append_of_mem (mem_octOrder n)
  have once : (before ++ n :: after).Nodup := by rw [← whole]; decide
  obtain ⟨-, rest, apart⟩ := List.nodup_append.1 once
  refine ⟨before.foldl (fun s m => f m s) s, walk before s fun h => apart n h n (.head _) rfl, ?_⟩
  rw [forCells, whole, List.foldl_append, List.foldl_cons]
  exact walk after _ (List.nodup_cons.1 rest).1

/-! ## The held floors (R91, R190) -/

@[simp] theorem State.takeRecord_floors (r : Report) (s : State) :
    (s.takeRecord r).store.held.floors = s.store.held.floors := by
  rw [State.takeRecord_store]
  split
  · rw [Store.queueItem_held]
    rfl
  · rfl

@[simp] theorem State.closeSlot_floors (i : Fin 4) (reason : Reason) (s : State) :
    (s.closeSlot i reason).store.held.floors = s.store.held.floors := by
  unfold State.closeSlot
  split
  · exact State.takeRecord_floors _ (s.setSlot i .free)
  · rfl

@[simp] theorem State.chargeOpt_floors (c : Option (Fin 4)) (s : State) :
    (s.chargeOpt c).store.held.floors = s.store.held.floors := by
  cases c with
  | none => rfl
  | some i =>
    change (s.charge i).store.held.floors = _
    unfold State.charge
    split
    · simp only []
      split
      · exact State.closeSlot_floors i .exhausted (s.setSlot i _)
      · rfl
    · rfl

@[simp] theorem State.lockdownSlot_floors (i : Fin 4) (s : State) :
    (s.lockdownSlot i).store.held.floors = s.store.held.floors := by
  unfold State.lockdownSlot State.endSlot
  split
  · split
    · rfl
    · rw [State.freeSlot_store]
    · exact State.closeSlot_floors ..
  · rfl

@[simp] theorem State.scoreIncrement_floors (k : Nat) (cause : Reason) (s : State) :
    (s.scoreIncrement k cause).store.held.floors = s.store.held.floors := by
  have marked (s : State) : s.lockdownMarked.store.held.floors = s.store.held.floors := by
    rw [State.lockdownMarked, State.queueItem_store, Store.queueItem_held]
    rfl
  have alerted : ((s.raised k).alertCheck s.decision.score).store = s.store := by
    obtain ⟨-, -, -, -, -, -, -, -, -, -, -, -, -, -, store⟩ := (s.raised k).alertCheck_frame s.decision.score
    exact store
  rw [State.scoreIncrement_eq, ← alerted]
  unfold State.lockdownCheck
  split
  · rw [State.enterLockdown_eq, State.resetRequestCause_store, State.alertCause_store, State.takeRecord_floors,
      forSlots_keeps (fun s => s.store.held.floors) _ State.lockdownSlot_floors, marked]
  · rfl

/-! ## An evaluation as a judgment and at most one write (R76 to R80) -/

/-- What an evaluation leaves before it requests a write: the cell has lost its pending half, and no floor is queued. -/
structure State.JudgedTo (n : Fin 8) (s u : State) : Prop where
  now : ∃ x : LiveState, x.half = none ∧ s.CellNow n { s.cell n with live := some x } u
  floors : u.store.held.floors = s.store.held.floors

theorem State.evaluate_judgedTo (hd : (s.cell n).defn = some d) (hv : (s.cell n).live = some v) (o : Origin) (p : Nat) :
    ∃ u, s.JudgedTo n u ∧
      (s.evaluate n o p = u ∨ ∃ x isSet, s.evaluate n o p = u.startWrite n d o x isSet) := by
  have bare := State.cellNow_bared hv
  have spent (k : Nat) := State.cellNow_spent hv k
  by_cases held : s.setHeld d o = true
  · by_cases hp : p = v.shadow
    · exact ⟨_, ⟨⟨_, rfl, bare⟩, rfl⟩, .inl (State.evaluate_same hd hv hp)⟩
    · exact ⟨_, ⟨⟨_, rfl, (bare.chargeOpt _).takeRecord _⟩, by simp [State.bared]⟩,
        .inr ⟨_, _, State.evaluate_set hd hv held hp⟩⟩
  · rw [Bool.not_eq_true] at held
    rcases Nat.lt_trichotomy p v.shadow with hp | hp | hp
    · exact ⟨_, ⟨⟨_, rfl, bare.violation ..⟩, by simp [State.bared]⟩, .inl (State.evaluate_refused hd hv held hp)⟩
    · exact ⟨_, ⟨⟨_, rfl, bare⟩, rfl⟩, .inl (State.evaluate_same hd hv hp)⟩
    · rcases mode : d.mode with _ | ⟨rate, cap⟩
      · exact ⟨_, ⟨⟨_, rfl, bare⟩, rfl⟩, .inr ⟨_, _, State.evaluate_monotonic hd hv held hp mode⟩⟩
      · rcases Nat.lt_or_ge (v.credit / 65536) (p - v.shadow) with beyond | within
        · refine ⟨_, ⟨⟨_, rfl, ((spent (v.credit / 65536)).takeRecord (cellReport .counterClamped n none d.address p
            (some (v.shadow + v.credit / 65536)))).alertCause⟩, by simp [State.spent, State.bared]⟩, ?_⟩
          rw [State.evaluate_clamped hd hv held hp mode beyond]
          simp only []
          split
          · exact .inr ⟨_, _, rfl⟩
          · exact .inl rfl
        · exact ⟨_, ⟨⟨_, rfl, spent _⟩, rfl⟩, .inr ⟨_, _, State.evaluate_credited hd hv held hp mode within⟩⟩

/-- R76: an evaluated cell is LIVE and has no pending half. -/
theorem State.evaluate_half (hd : (s.cell n).defn = some d) (hv : (s.cell n).live = some v) (o : Origin) (p : Nat) :
    ∃ x : LiveState, ((s.evaluate n o p).cell n).live = some x ∧ x.half = none := by
  obtain ⟨u, ⟨⟨x, hx, now⟩, -⟩, e | ⟨y, isSet, e⟩⟩ := State.evaluate_judgedTo hd hv o p
  · exact ⟨x, by rw [e, now.self], hx⟩
  · exact ⟨x, by rw [e, State.cell_startWrite, if_pos rfl, now.self], hx⟩

theorem State.evaluate_absent (h : (s.cell n).defn = none ∨ (s.cell n).live = none) (o : Origin) (p : Nat) :
    s.evaluate n o p = s := by
  unfold State.evaluate
  split
  · rename_i d v hd hv
    rcases h with h | h
    · exact nomatch h.symm.trans hd
    · exact nomatch h.symm.trans hv
  · rfl

/-! ## What the counter guard does at other cells leaves of what it reads for one cell -/

/-- What cell `n` shows, and what the counter guard reads of the rest of the part for it, is the same; of the internal
requests none has gone. -/
structure State.Beside (n : Fin 8) (s t : State) : Prop where
  cell : t.cell n = s.cell n
  port : t.port = s.port
  table : t.table = s.table
  ignition : t.ignition = s.ignition
  outcome : t.outcome? = s.outcome?
  queue : s.mem.queue ⊆ t.mem.queue
  floors : t.store.held.floors[n] = s.store.held.floors[n]

namespace State.Beside

theorem refl (n : Fin 8) (s : State) : s.Beside n s := ⟨rfl, rfl, rfl, rfl, rfl, List.Subset.refl _, rfl⟩

theorem trans (h : s.Beside n t) (k : t.Beside n u) : s.Beside n u :=
  ⟨k.cell.trans h.cell, k.port.trans h.port, k.table.trans h.table, k.ignition.trans h.ignition,
    k.outcome.trans h.outcome, List.Subset.trans h.queue k.queue, k.floors.trans h.floors⟩

end State.Beside

section
variable {m : Fin 8} (hm : m ≠ n)
include hm

theorem State.beside_setCell (c : Cell) (s : State) : s.Beside n (s.setCell m c) :=
  ⟨by rw [State.cell_setCell, if_neg hm.symm], rfl, rfl, rfl, rfl, List.Subset.refl _, rfl⟩

theorem State.beside_modifyLive (f : LiveState → LiveState) (s : State) : s.Beside n (s.modifyLive m f) :=
  State.beside_setCell hm _ s

theorem State.beside_startInternal (d : CellDef) (dir : Direction) (x : Nat) (op : Operation) (s : State) :
    s.Beside n (s.startInternal m d dir x op) :=
  { State.beside_setCell hm { s.cell m with op := some op } s with queue := List.subset_append_left .. }

theorem State.beside_startNewRead (s : State) : s.Beside n (s.startNewRead m) := by
  unfold State.startNewRead
  split
  · exact .refl n s
  · split
    · exact State.beside_setCell hm _ s
    · exact State.beside_startInternal hm ..

theorem State.beside_queueFloor (x : Option Nat) (s : State) : s.Beside n (s.queueItem (.floor m x)) := by
  refine ⟨rfl, rfl, rfl, rfl, rfl, List.Subset.refl _, ?_⟩
  rw [State.queueItem_store, Store.queueItem_held]
  exact Vector.getElem_set_ne m.isLt n.isLt fun e => hm (Fin.ext e)

theorem State.beside_evaluate (o : Origin) (p : Nat) (s : State) : s.Beside n (s.evaluate m o p) := by
  obtain ⟨-, -, -, port, table, -, -, -, ignition, -⟩ := State.evaluate_frame m o p s
  rcases hd : (s.cell m).defn with _ | d
  · rw [State.evaluate_absent (.inl hd)]
    exact .refl n s
  · rcases hv : (s.cell m).live with _ | v
    · rw [State.evaluate_absent (.inr hv)]
      exact .refl n s
    · have outcome : (s.evaluate m o p).outcome? = s.outcome? := by
        rcases State.evaluate_endsInWrite m o p s with e | ⟨d, -, u, hu, e | ⟨x, isSet, e⟩⟩
        · rw [e]
        · rw [e, hu.outcome]
        · rw [e, State.outcome?_congr (s := u) (by simp), hu.outcome]
      obtain ⟨u, ⟨⟨_, -, now⟩, floors⟩, e⟩ := State.evaluate_judgedTo hd hv o p
      refine ⟨State.evaluate_others hd hv o p n hm.symm, port, table, ignition, outcome, ?_, ?_⟩
      · rcases e with e | ⟨x, isSet, e⟩
        · rw [e, now.mem]
          exact List.Subset.refl _
        · rw [e, State.startWrite_mem, ← now.mem]
          cases o with
          | processor => exact List.Subset.refl _
          | hold => exact List.subset_append_left ..
          | ignition => exact List.subset_append_left ..
      · rcases e with e | ⟨x, isSet, e⟩
        · rw [e, floors]
        · rw [e, ← floors]
          simp

theorem State.beside_evaluatePending (o : Origin) (s : State) : s.Beside n (s.evaluatePending m o) := by
  unfold State.evaluatePending
  split
  · exact .refl n s
  · split
    · exact .refl n s
    · exact State.beside_evaluate hm ..

theorem State.beside_tickCell (s : State) : s.Beside n (s.tickCell m) := by
  have accrued : s.Beside n (s.accrueCell m) := by
    unfold State.accrueCell
    split
    · exact .refl n s
    · split
      · exact State.beside_modifyLive hm ..
      · exact .refl n s
  have repaired (t : State) : t.Beside n (t.repairCell m) := by
    unfold State.repairCell
    split
    · split
      · exact State.beside_startInternal hm ..
      · exact .refl n t
    · exact .refl n t
  have retried (t : State) : t.Beside n (t.retryCell m) := by
    unfold State.retryCell
    split
    · exact State.beside_startNewRead hm t
    · exact .refl n t
  have aged := accrued.trans (State.beside_modifyLive hm (fun x => { x with half := x.half.map PendingHalf.older }) _)
  unfold State.tickCell
  simp only []
  split
  · exact aged.trans (State.beside_evaluatePending hm ..)
  · exact (aged.trans (repaired _)).trans (retried _)

theorem State.beside_settle (s : State) : s.Beside n (s.settle m) := by
  have floored (t : State) : t.Beside n (t.settleFloor m) := by
    unfold State.settleFloor
    split
    · exact .refl n t
    · have kept := State.beside_modifyLive hm (fun x => { x with floor := x.shadow, due := false }) t
      simp only []
      split
      · exact kept
      · exact kept.trans (State.beside_queueFloor hm ..)
  have evaluated := State.beside_evaluatePending hm .ignition s
  unfold State.settle
  split
  · exact .refl n s
  · split
    · simp only []
      split
      · exact evaluated
      · exact evaluated.trans (floored _)
    · exact .refl n s

end

/-! ## A cycle that uses the words of a cell (R97) -/

theorem State.cycleUses_iff : s.cycleUses words = true ↔ ∃ (c : Cycle) (x : DecisionRecord), s.port.cycle = some c ∧
    s.decision.record = some x ∧ (x.outcome = .pass ∨ x.outcome = .fillCheck) ∧ byteAddress c.address ∈ words := by
  unfold State.cycleUses
  cases s.port.cycle <;> cases s.decision.record <;> simp

theorem State.Beside.cycleUses (h : s.Beside n t) (words : List Addr) : t.cycleUses words = s.cycleUses words := by
  have read (u : State) : u.cycleUses words = true ↔ ∃ (c : Cycle) (x : CycleOutcome), u.port.cycle = some c ∧
      u.outcome? = some x ∧ (x = .pass ∨ x = .fillCheck) ∧ byteAddress c.address ∈ words := by
    rw [State.cycleUses_iff, State.outcome?]
    cases u.decision.record <;> simp
  rw [Bool.eq_iff_iff, read, read, h.port, h.outcome]

theorem State.startNewRead_waits (hd : (s.cell n).defn = some d) (h : s.cycleUses d.words = true) :
    s.startNewRead n = s.setOp n (some (.newRead .forCycle)) := by
  rw [State.startNewRead, hd]
  exact if_pos h

theorem State.startNewRead_requested (hd : (s.cell n).defn = some d) (h : ¬ s.cycleUses d.words = true) :
    s.startNewRead n = s.startInternal n d .read 0 (.newRead .requested) := by
  rw [State.startNewRead, hd]
  exact if_neg h

/-! ## Live states that change (R73) -/

theorem State.modifyLive_none (hv : (s.cell n).live = none) (f : LiveState → LiveState) : s.modifyLive n f = s := by
  have same : ({ s.cell n with live := (s.cell n).live.map f } : Cell) = s.cell n := by rw [hv, Option.map_none, ← hv]
  rw [State.modifyLive, same, State.setCell_self]

/-- R87, R91: the pending half with the other half of the shadow. -/
theorem State.evaluatePending_eq {h : PendingHalf} (hv : (s.cell n).live = some v) (hh : v.half = some h) (o : Origin) :
    s.evaluatePending n o = s.evaluate n o (match h.half with
      | .low => h.value.toNat + 65536 * (v.shadow / 65536 % 65536)
      | .high => v.shadow % 65536 + 65536 * h.value.toNat) := by
  have join : joinHalf h.half h.value (otherHalf h.half v.shadow) = match h.half with
      | .low => h.value.toNat + 65536 * (v.shadow / 65536 % 65536)
      | .high => v.shadow % 65536 + 65536 * h.value.toNat := by
    cases h.half <;> simp [joinHalf, otherHalf, joinHalves, lowHalf, highHalf]
  rw [State.evaluatePending, hv]
  simp only [hh]
  exact congrArg (fun x => s.evaluate n o x) join

theorem State.evaluatePending_none (hv : (s.cell n).live = some v) (hh : v.half = none) (o : Origin) :
    s.evaluatePending n o = s := by
  simp only [State.evaluatePending, hv, hh]

end
end Sys2Proof.Machine
end

section
namespace Sys2Proof.Machine

section
variable {s t u : State} {n : Fin 8} {d : CellDef} {v : LiveState}

/-! ## A tick at one cell (R74, R75) -/

/-- R74, R75: the credit that a tick brings, and the age of the pending half. -/
def LiveState.aged (m : CellMode) (on : Bool) (v : LiveState) : LiveState :=
  { v with credit := if on then m.accrue v.credit else v.credit, half := v.half.map PendingHalf.older }

/-- R74: credit accrues by the rate up to the cap, while the filtered level is ON. -/
theorem CellMode.accrue_eq (m : CellMode) (on : Bool) (credit : Nat) : (if on then m.accrue credit else credit) =
    match m with
    | .rate r cap => if on then min (credit + r) (cap * 65536) else credit
    | .monotonic => credit := by
  cases m with
  | monotonic => exact ite_self credit
  | rate r cap => rfl

/-- R75: steps 1 and 2 of a tick. -/
theorem State.aged_eq (hd : (s.cell n).defn = some d) (hv : (s.cell n).live = some v) : (s.accrueCell n).ageCell n =
    s.setCell n { s.cell n with live := some (v.aged d.mode s.ignition.level) } := by
  rw [State.accrueCell, hd]
  simp only []
  split
  · rename_i on
    have accrued := State.modifyLive_some hv fun x => { x with credit := d.mode.accrue x.credit }
    rw [accrued, State.ageCell, State.modifyLive_some (v := { v with credit := d.mode.accrue v.credit }) (by simp),
      State.setCell_setCell, State.cell_setCell_self, LiveState.aged, if_pos on]
  · rename_i off
    rw [State.ageCell, State.modifyLive_some hv, LiveState.aged, if_neg off]

theorem State.aged_of_not_live (hv : (s.cell n).live = none) : (s.accrueCell n).ageCell n = s := by
  have accrued : s.accrueCell n = s := by
    unfold State.accrueCell
    split
    · rfl
    · rw [State.modifyLive_none hv, ite_self]
  rw [accrued, State.ageCell, State.modifyLive_none hv]

/-- R75 step 3: a half that has reached the hold limit, in a cell with nothing in flight. -/
theorem State.expires_iff {k : Nat} : s.expires n k = true ↔ ∃ (v : LiveState) (p : PendingHalf),
    (s.cell n).live = some v ∧ v.half = some p ∧ (s.cell n).op = none ∧
      s.table.settings.holdLimit ≤ min (p.age + k) 16 := by
  unfold State.expires State.holdDue
  cases (s.cell n).live with
  | none => simp
  | some v => cases h : v.half <;> simp [h, Config.ageLimit, and_comm]

theorem State.repairCell_of_op (h : (s.cell n).op ≠ none) : s.repairCell n = s := by
  unfold State.repairCell
  split
  · exact if_neg fun w => h w.2
  · rfl

theorem State.repairCell_of_not_live (h : (s.cell n).live = none) : s.repairCell n = s := by
  rw [State.repairCell, h]
  cases (s.cell n).defn <;> rfl

theorem State.repairCell_live (hd : (s.cell n).defn = some d) (hv : (s.cell n).live = some v)
    (ho : (s.cell n).op = none) :
    s.repairCell n = if v.repair then s.startInternal n d .write v.shadow .restore else s := by
  simp only [State.repairCell, hd, hv, ho, and_true]

theorem State.retryCell_live (h : (s.cell n).live.isSome = true) : s.retryCell n = s :=
  if_neg fun w => by rw [Option.isNone_iff_eq_none.1 w.2.1] at h; exact nomatch h

/-- A tick passes over a DISABLED cell. -/
theorem State.tickCell_disabled (hd : (s.cell n).defn = none) (hv : (s.cell n).live = none) : s.tickCell n = s := by
  have young : ¬ s.expires n 0 = true := by simp [State.expires_iff, hv]
  rw [State.tickCell, State.aged_of_not_live hv]
  simp only [if_neg young]
  rw [State.repairCell_of_not_live hv, State.retryCell, if_neg (by simp [hd])]

/-- R75 step 5: a tick starts the new read of a READING cell with nothing in flight. -/
theorem State.tickCell_reading (hd : (s.cell n).defn ≠ none) (hv : (s.cell n).live = none)
    (ho : (s.cell n).op = none) : s.tickCell n = s.startNewRead n := by
  have young : ¬ s.expires n 0 = true := by simp [State.expires_iff, hv]
  rw [State.tickCell, State.aged_of_not_live hv]
  simp only [if_neg young]
  rw [State.repairCell_of_not_live hv, State.retryCell,
    if_pos ⟨Option.isSome_iff_ne_none.2 hd, Option.isNone_iff_eq_none.2 hv, ho⟩]

/-- The half that a tick has aged has reached the hold limit. -/
theorem State.expires_aged (m : CellMode) (on : Bool) (v : LiveState) (s : State) :
    (s.setCell n { s.cell n with live := some (v.aged m on) }).expires n 0 = true ↔
      (s.cell n).op = none ∧ ∃ p, v.half = some p ∧ s.table.settings.holdLimit ≤ min (p.age + 1) 16 := by
  rw [State.expires_iff, State.cell_setCell_self, State.setCell_table]
  cases h : v.half <;> simp [LiveState.aged, h, PendingHalf.older, Config.ageLimit]

section
variable (hd : (s.cell n).defn = some d) (hv : (s.cell n).live = some v)
include hd hv

/-- R75: with an operation in flight a tick brings credit and age alone. -/
theorem State.tickCell_busy (ho : (s.cell n).op ≠ none) : s.tickCell n =
    s.setCell n { s.cell n with live := some (v.aged d.mode s.ignition.level) } := by
  have young := mt (State.expires_aged d.mode s.ignition.level v s).1 fun w => ho w.1
  rw [State.tickCell, State.aged_eq hd hv]
  simp only [if_neg young]
  rw [State.repairCell_of_op (by simpa using ho), State.retryCell_live (by simp)]

/-- R75 step 4: and, with nothing in flight and no half at the hold limit, the restore of a cell that needs repair. -/
theorem State.tickCell_young (ho : (s.cell n).op = none)
    (hp : ∀ p, v.half = some p → min (p.age + 1) 16 < s.table.settings.holdLimit) :
    let aged := s.setCell n { s.cell n with live := some (v.aged d.mode s.ignition.level) }
    s.tickCell n = if v.repair then aged.startInternal n d .write v.shadow .restore else aged := by
  intro aged
  have young : ¬ aged.expires n 0 = true :=
    mt (State.expires_aged d.mode s.ignition.level v s).1 fun ⟨_, p, hh, late⟩ => Nat.not_lt.2 late (hp p hh)
  have self : aged.cell n = { s.cell n with live := some (v.aged d.mode s.ignition.level) } :=
    State.cell_setCell_self ..
  rw [State.tickCell, State.aged_eq hd hv]
  simp only []
  rw [if_neg young, State.repairCell_live (s := aged) (v := v.aged d.mode s.ignition.level) (by rw [self]; exact hd)
    (by rw [self]) (by rw [self]; exact ho)]
  refine State.retryCell_live ?_
  split <;> simp [State.cell_startInternal, self]

/-- R75 step 3, R87: a half at the hold limit is evaluated. -/
theorem State.tickCell_expires {p : PendingHalf} (ho : (s.cell n).op = none) (hp : v.half = some p)
    (late : s.table.settings.holdLimit ≤ min (p.age + 1) 16) : s.tickCell n =
    State.evaluate n .hold (match p.half with
        | .low => p.value.toNat + 65536 * (v.shadow / 65536 % 65536)
        | .high => v.shadow % 65536 + 65536 * p.value.toNat)
      (s.setCell n { s.cell n with live := some (v.aged d.mode s.ignition.level) }) := by
  have older : (v.aged d.mode s.ignition.level).half = some p.older := by rw [LiveState.aged, hp, Option.map_some]
  rw [State.tickCell, State.aged_eq hd hv]
  simp only []
  rw [if_pos ((State.expires_aged d.mode s.ignition.level v s).2 ⟨ho, p, hp, late⟩),
    State.evaluatePending_eq (v := v.aged d.mode s.ignition.level) (by simp) older]
  rfl

end

/-! ## The tick at all cells (R75) -/

theorem exec_counter_tick (wide : Bool) (s : State) :
    exec (.counterTick wide) s = .next (s.tickGuard.serve wide) := rfl

theorem exec_hold_expiry (n : Fin 8) (wide : Bool) (s : State) :
    exec (.holdExpiry n wide) s = .next ((if s.expires n 1 then s.tickGuard else s).serve wide) := rfl

theorem State.tickGuard_frame (s : State) :
    s.tickGuard.port = s.port ∧ s.tickGuard.table = s.table ∧ s.tickGuard.link = s.link ∧
      s.tickGuard.time = s.time.takeGuardTick ∧ s.tickGuard.ignition = s.ignition ∧ s.tickGuard.start = s.start ∧
      s.tickGuard.engine = s.engine ∧ s.tickGuard.guard.waitingWrite = s.guard.waitingWrite := by
  have keeps {α : Type} (p : State → α) (h : ∀ n s, p (State.tickCell n s) = p s) :
      p s.tickGuard = p (s.withTime s.time.takeGuardTick) := forCells_keeps p State.tickCell h _
  exact ⟨keeps (fun s => s.port) (by simp), keeps (fun s => s.table) (by simp), keeps (fun s => s.link) (by simp),
    keeps (fun s => s.time) (by simp), keeps (fun s => s.ignition) (by simp), keeps (fun s => s.start) (by simp),
    keeps (fun s => s.engine) (by simp), keeps (fun s => s.guard.waitingWrite) (by simp)⟩

/-- R75: the tick of one cell, between those of the cells before it and after it. -/
theorem State.tickGuard_at (n : Fin 8) (s : State) : ∃ t, s.Beside n t ∧ (t.tickCell n).Beside n s.tickGuard := by
  have taken : s.Beside n (s.withTime s.time.takeGuardTick) := ⟨rfl, rfl, rfl, rfl, rfl, List.Subset.refl _, rfl⟩
  obtain ⟨t, before, after⟩ := forCells_at (f := State.tickCell) (K := State.Beside n) (.refl n) .trans n
    (fun m s hm => State.beside_tickCell hm s) (s.withTime s.time.takeGuardTick)
  exact ⟨t, taken.trans before, after⟩

/-- Settles O31: the tick of each cell in each of its states, in a walk whose other steps leave the cell alone. -/
theorem ticksAtACell : Obligations.TicksAtACell := by
  refine ⟨fun wide s => ⟨s.tickGuard, exec_counter_tick wide s, rfl, ?_⟩, fun wide n s => ⟨fun v p hv hp ho late => ?_,
    fun young => ?_⟩⟩
  · obtain ⟨port, table, link, time, ignition, start, engine, waiting⟩ := s.tickGuard_frame
    refine ⟨port, table, link, time, ignition, start, engine, waiting, fun n hd hv => ?_, fun n hd hv ho => ?_,
      fun n d v hd hv => ?_⟩
    · obtain ⟨t, before, after⟩ := s.tickGuard_at n
      rw [after.cell, State.tickCell_disabled (by rw [before.cell, hd]) (by rw [before.cell, hv]), before.cell]
    · intro uses
      obtain ⟨t, before, after⟩ := s.tickGuard_at n
      obtain ⟨d, hd'⟩ := Option.ne_none_iff_exists'.1 hd
      have used : t.cycleUses d.words = true ↔ uses := by
        rw [before.cycleUses, State.cycleUses_iff]
        refine ⟨fun ⟨c, x, hc, hx, ho, hw⟩ => ⟨c, x, d, hc, hx, ho, hd', hw⟩, fun ⟨c, x, e, hc, hx, ho, he, hw⟩ => ?_⟩
        cases hd'.symm.trans he
        exact ⟨c, x, hc, hx, ho, hw⟩
      rw [← before.cell] at hd hv ho hd' ⊢
      rw [after.cell, State.tickCell_reading hd hv ho]
      refine ⟨fun h => ?_, fun h => ?_⟩
      · rw [State.startNewRead_waits hd' (used.2 h), State.cell_setOp_self]
      · rw [State.startNewRead_requested hd' (mt used.1 h), State.cell_startInternal, if_pos rfl]
    · intro credit aged
      have same : v.aged d.mode s.ignition.level = aged := by
        rw [LiveState.aged, CellMode.accrue_eq]
        rfl
      refine ⟨fun ho => ?_, fun ho hp => ?_, fun p ho hp late => ?_⟩
      · obtain ⟨t, before, after⟩ := s.tickGuard_at n
        rw [← before.cell] at hd hv ho ⊢
        rw [after.cell, State.tickCell_busy hd hv ho, State.cell_setCell_self, before.ignition, same]
      · obtain ⟨t, before, after⟩ := s.tickGuard_at n
        rw [← before.cell] at hd hv ho ⊢
        rw [← before.table] at hp
        have ticked := State.tickCell_young hd hv ho hp
        rw [before.ignition, same] at ticked
        rw [after.cell, ticked]
        refine ⟨?_, fun repair => after.queue ?_⟩
        · split
          · rw [State.cell_startInternal, if_pos rfl, State.cell_setCell_self]
          · rw [State.cell_setCell_self, ← ho]
        · rw [ticked, if_pos repair]
          exact List.mem_append_right _ (.head _)
      · have evaluated := State.tickCell_expires hd hv ho hp late
        rw [same] at evaluated
        exact evaluated
  · rw [exec_hold_expiry, if_pos (State.expires_iff.2 ⟨v, p, hv, hp, ho, late⟩)]
    rfl
  · rw [exec_hold_expiry, if_neg]
    rw [State.expires_iff]
    rintro ⟨v, p, hv, hp, ho, late⟩
    exact young.elim (fun h => h ho) fun h => Nat.not_lt.2 late (h v p hv hp)

end
end Sys2Proof.Machine
end

section
namespace Sys2Proof.Machine

section
variable {s t u : State} {n : Fin 8} {d : CellDef} {v : LiveState}

/-! ## Floor keeping at one cell (R90, R91) -/

/-- R91: the floor has taken the shadow, and its item is queued if it changed; the cell is no longer due. -/
theorem State.settleFloor_eq (hv : (s.cell n).live = some v) : s.settleFloor n =
    let kept := s.setCell n { s.cell n with live := some { v with floor := v.shadow, due := false } }
    if v.floor = v.shadow then kept else kept.queueItem (.floor n (some v.shadow)) := by
  rw [State.settleFloor, hv]
  simp only [State.modifyLive_some hv]

theorem State.settle_not_live (hv : (s.cell n).live = none) : s.settle n = s := by
  rw [State.settle, hv]

theorem State.settle_rests (hv : (s.cell n).live = some v) (h : v.due = false ∨ (s.cell n).op ≠ none) :
    s.settle n = s := by
  rw [State.settle, hv]
  refine if_neg fun w => ?_
  rcases h with h | h
  · exact nomatch h.symm.trans w.1
  · exact h w.2

section
variable (hv : (s.cell n).live = some v) (due : v.due = true) (ho : (s.cell n).op = none)
include hv due ho

theorem State.settle_due : s.settle n =
    if ((s.evaluatePending n .ignition).cell n).op.isSome then s.evaluatePending n .ignition
    else (s.evaluatePending n .ignition).settleFloor n := by
  rw [State.settle, hv]
  exact if_pos ⟨due, ho⟩

theorem State.settle_whole (hh : v.half = none) : s.settle n = s.settleFloor n := by
  rw [State.settle_due hv due ho, State.evaluatePending_none hv hh, if_neg (by simp [ho])]

end

/-- R91: a floor that changes is queued. -/
theorem State.settleFloor_queued (hv : (s.cell n).live = some v) (changed : v.floor ≠ v.shadow) :
    (s.settleFloor n).store.held.floors[n] = some v.shadow := by
  have queued : s.settleFloor n = _ := (State.settleFloor_eq hv).trans (if_neg changed)
  rw [queued, State.queueItem_store, Store.queueItem_held]
  exact Vector.getElem_set_self n.isLt

theorem State.settleFloor_cell (hv : (s.cell n).live = some v) : (s.settleFloor n).cell n =
    { s.cell n with live := some { v with floor := v.shadow, due := false } } := by
  rw [State.settleFloor_eq hv]
  simp only []
  split
  · exact State.cell_setCell_self ..
  · exact State.cell_setCell_self ..

/-! ## Ignition-off at all cells (R90, R91, R177) -/

theorem exec_ignition_off_guard (wide : Bool) (s : State) :
    exec (.ignitionOffCounterGuard wide) s = .next (s.ignitionOffGuard.serve wide) := rfl

/-- An ignition-off is taken. -/
def State.offTaken (s : State) : State :=
  { s with ignition := { s.ignition with guardOffs := s.ignition.guardOffs - 1 } }

theorem State.ignitionOffGuard_none (h : s.ignition.guardOffs = 0) : s.ignitionOffGuard = s := if_pos h

theorem State.ignitionOffGuard_taken (h : s.ignition.guardOffs ≠ 0) :
    s.ignitionOffGuard = forCells State.settle (forCells State.markDue s.offTaken) := if_neg h

/-- R90: every LIVE cell is marked. -/
theorem State.cell_markAll (s : State) (m : Fin 8) : (forCells State.markDue s).cell m =
    { s.cell m with live := (s.cell m).live.map fun x => { x with due := true } } :=
  State.cell_forCells (f := State.markDue)
    (g := fun _ c => { c with live := c.live.map fun x => { x with due := true } })
    (fun _ _ _ => State.cell_setCell ..) s m

theorem State.ignitionOffGuard_frame (s : State) : s.ignitionOffGuard.port = s.port ∧
    s.ignitionOffGuard.table = s.table ∧ s.ignitionOffGuard.link = s.link ∧
      s.ignitionOffGuard.guard.waitingWrite = s.guard.waitingWrite := by
  by_cases h : s.ignition.guardOffs = 0
  · rw [State.ignitionOffGuard_none h]
    exact ⟨rfl, rfl, rfl, rfl⟩
  · have keeps {α : Type} (p : State → α) (hs : ∀ n s, p (State.settle n s) = p s)
        (hm : ∀ n s, p (State.markDue n s) = p s) : p s.ignitionOffGuard = p s.offTaken := by
      rw [State.ignitionOffGuard_taken h, forCells_keeps p _ hs, forCells_keeps p _ hm]
    exact ⟨keeps (fun s => s.port) (by simp) fun _ _ => rfl, keeps (fun s => s.table) (by simp) fun _ _ => rfl,
      keeps (fun s => s.link) (by simp) fun _ _ => rfl,
      keeps (fun s => s.guard.waitingWrite) (by simp) fun _ _ => rfl⟩

/-- R90: one cell is settled as it was marked, between the others. -/
theorem State.ignitionOffGuard_at (h : s.ignition.guardOffs ≠ 0) (n : Fin 8) : ∃ t : State,
    t.cell n = { s.cell n with live := (s.cell n).live.map fun x => { x with due := true } } ∧
      (t.settle n).Beside n s.ignitionOffGuard := by
  obtain ⟨t, before, after⟩ := forCells_at (f := State.settle) (K := State.Beside n) (.refl n) .trans n
    (fun m s hm => State.beside_settle hm s) (forCells State.markDue s.offTaken)
  refine ⟨t, before.cell.trans (State.cell_markAll s.offTaken n), ?_⟩
  rw [State.ignitionOffGuard_taken h]
  exact after

/-- Settles O32: each cell is marked and settled in a walk whose other steps leave it alone; a cell is settled by
what its due mark, its operation and its pending half are. -/
theorem ignitionOffTakesFloors : Obligations.IgnitionOffTakesFloors := by
  refine ⟨fun wide s h => ?_, fun wide s h => ⟨s.ignitionOffGuard, exec_ignition_off_guard wide s,
    State.ignitionOffGuard_taken h, ?_⟩, fun n s => ⟨State.settle_not_live, fun v hv => ?_⟩⟩
  · rw [exec_ignition_off_guard, State.ignitionOffGuard_none h]
  · obtain ⟨port, table, link, waiting⟩ := s.ignitionOffGuard_frame
    refine ⟨port, table, link, waiting, fun n => ?_⟩
    obtain ⟨t, marked, after⟩ := State.ignitionOffGuard_at h n
    rw [after.cell]
    refine ⟨fun hv => ?_, fun v hv => ?_⟩
    · rw [hv, Option.map_none, ← hv] at marked
      rw [State.settle_not_live (by rw [marked]; exact hv), marked]
    · rw [hv, Option.map_some] at marked
      have live : (t.cell n).live = some { v with due := true } := by rw [marked]
      have op : (t.cell n).op = (s.cell n).op := by rw [marked]
      refine ⟨fun ho => ?_, fun ho hh => ?_⟩
      · rw [State.settle_rests live (.inr (op ▸ ho)), marked]
      · have settled := State.settle_whole live rfl (op.trans ho) hh
        refine ⟨?_, fun changed => ?_⟩
        · rw [settled, State.settleFloor_cell live, marked]
        · rw [after.floors, settled, State.settleFloor_queued live changed]
  · intro settled
    have floored (u : State) (x : LiveState) (hx : (u.cell n).live = some x) : u.settleFloor n = settled u x :=
      State.settleFloor_eq hx
    refine ⟨State.settle_rests hv, fun due ho hh => ?_, fun p due ho hd hp => ?_⟩
    · rw [State.settle_whole hv due ho hh, floored s v hv]
    · intro e
      have evaluated : s.evaluatePending n .ignition = e := State.evaluatePending_eq hv hp .ignition
      have ended := State.settle_due hv due ho
      rw [evaluated] at ended
      refine ⟨fun write => ?_, fun write => ?_⟩
      · rw [ended, if_pos (Option.isSome_iff_ne_none.2 write)]
      · obtain ⟨d, hd⟩ := Option.ne_none_iff_exists'.1 hd
        obtain ⟨x, hx, half⟩ : ∃ x : LiveState, (e.cell n).live = some x ∧ x.half = none :=
          State.evaluate_half hd hv .ignition _
        refine ⟨x, hx, half, ?_⟩
        rw [ended, if_neg (by simp [write]), floored e x hx]

end
end Sys2Proof.Machine
end

section
namespace Sys2Proof.Machine

section
variable {s t : State} {n : Fin 8} {d : CellDef} {v : LiveState} {o : Operation} {r : TransferResult}

/-! ## The end of an operation, before what follows it (R80, R88, R89, R95, R98) -/

/-- The operation in flight of the live definition ends, and neither the waiting write nor the due mark is looked at. -/
def State.operationOver (n : Fin 8) (d : CellDef) (o : Operation) (r : TransferResult) (s : State) : State :=
  match o with
  | .scanRead => s.scanReadEnd n d r
  | .newRead _ => s.newReadEnd n d r
  | .correction => s.correctionEnd n r
  | .restore => s.restoreEnd n r
  | .evaluation _ x isSet => s.evaluationEnd n x isSet r

/-- R82, R90: the waiting write and the due mark follow the end of an operation. -/
theorem State.opEnd_eq (hs : (s.cell n).stale = false) (hd : (s.cell n).defn = some d) (ho : (s.cell n).op = some o)
    (r : TransferResult) : s.opEnd n r = (s.operationOver n d o r).afterOp n := by
  rw [State.opEnd, hs, hd, ho]
  cases o <;> rfl

/-- The operation is over, and the live state, if there is one, changes. -/
def State.endOp (n : Fin 8) (f : LiveState → LiveState) (s : State) : State := (s.setOp n none).modifyLive n f

theorem State.endOp_eq (n : Fin 8) (f : LiveState → LiveState) (s : State) :
    s.endOp n f = s.setCell n { s.cell n with live := (s.cell n).live.map f, op := none } := by
  rw [State.endOp, State.modifyLive, State.cell_setOp_self]
  exact State.setCell_setCell ..

theorem State.endOp_live (hv : (s.cell n).live = some v) (f : LiveState → LiveState) :
    s.endOp n f = s.setCell n { s.cell n with live := some (f v), op := none } := by
  rw [State.endOp_eq, hv, Option.map_some]

theorem State.endOp_id (n : Fin 8) (s : State) : s.endOp n id = s.setOp n none := by
  rw [State.endOp_eq, Option.map_id_fun, id]
  rfl

/-- R80: the value written is the shadow, and the floor too where it was a set. -/
def LiveState.written (x : Nat) (isSet : Bool) (v : LiveState) : LiveState :=
  { v with shadow := x, repair := false, floor := if isSet then x else v.floor }

theorem State.evaluationEnd_timedOut (hm : r.made = true) (ht : r.timedOut = true) (x : Nat) (isSet : Bool)
    (s : State) : s.evaluationEnd n x isSet r = s.endOp n fun v => { v with repair := true } := by
  simp only [State.evaluationEnd, hm, ht, Bool.true_eq_false, if_false, if_true]
  rfl

theorem State.evaluationEnd_written (hm : r.made = true) (ht : r.timedOut = false) (x : Nat) (isSet : Bool)
    (s : State) : s.evaluationEnd n x isSet r = if isSet then (s.endOp n (.written x isSet)).queueItem (.floor n (some x))
      else s.endOp n (.written x isSet) := by
  simp only [State.evaluationEnd, hm, ht, Bool.true_eq_false, Bool.false_eq_true, if_false]
  rfl

theorem State.restoreEnd_made (hm : r.made = true) (s : State) : s.restoreEnd n r =
    s.endOp n (if r.timedOut then id else fun v => { v with repair := false }) := by
  cases ht : r.timedOut with
  | false => simp only [State.restoreEnd, hm, ht, and_self, if_true, Bool.false_eq_true, if_false]; rfl
  | true => rw [if_pos rfl, State.endOp_id]; simp [State.restoreEnd, ht]

theorem State.correctionEnd_made (hm : r.made = true) (s : State) :
    s.correctionEnd n r = s.endOp n fun v => { v with repair := r.timedOut } := by
  simp only [State.correctionEnd, hm, if_true]
  rfl

/-- R80, R88, R89: the end of an operation of a LIVE cell changes its live state but for the due mark, and queues one
item at most. -/
theorem State.operationOver_live (hr : o ≠ .scanRead ∧ ∀ w, o ≠ .newRead w) (n : Fin 8) (d : CellDef)
    (r : TransferResult) : ∃ f : LiveState → LiveState, (∀ b v, f { v with due := b } = { f v with due := b }) ∧
      ((∀ s : State, s.operationOver n d o r = s.endOp n f) ∨
        ∃ w, ∀ s : State, s.operationOver n d o r = (s.endOp n f).queueItem w) := by
  obtain ⟨scan, new⟩ := hr
  cases o with
  | scanRead => exact absurd rfl scan
  | newRead w => exact absurd rfl (new w)
  | correction =>
    cases hm : r.made with
    | false => exact ⟨id, fun _ _ => rfl, .inl fun s => (s.correctionEnd_not_made hm n).trans (s.endOp_id n).symm⟩
    | true => exact ⟨_, fun _ _ => rfl, .inl fun s => s.correctionEnd_made hm⟩
  | restore =>
    cases hm : r.made with
    | false => exact ⟨id, fun _ _ => rfl, .inl fun s => (s.restoreEnd_not_made hm n).trans (s.endOp_id n).symm⟩
    | true =>
      refine ⟨_, fun _ _ => ?_, .inl fun s => s.restoreEnd_made hm⟩
      split <;> rfl
  | evaluation origin x isSet =>
    cases hm : r.made with
    | false =>
      exact ⟨id, fun _ _ => rfl, .inl fun s => (s.evaluationEnd_not_made hm n x isSet).trans (s.endOp_id n).symm⟩
    | true =>
      cases ht : r.timedOut with
      | true => exact ⟨_, fun _ _ => rfl, .inl fun s => s.evaluationEnd_timedOut hm ht x isSet⟩
      | false =>
        refine ⟨.written x isSet, fun _ _ => rfl, ?_⟩
        cases isSet with
        | false => exact .inl fun s => s.evaluationEnd_written hm ht x false
        | true => exact .inr ⟨_, fun s => s.evaluationEnd_written hm ht x true⟩

/-! ## The ends of reads (R95, R98) -/

/-- R95: the scan reads a value below the floor. -/
def State.regressed (n : Fin 8) (d : CellDef) (x f : Nat) (s : State) : State :=
  ((s.takeRecord (cellReport .counterRegressed n none d.address x (some f))).scoreIncrement 8 .regression).alertCause

theorem State.aside_regressed (n : Fin 8) (d : CellDef) (x f : Nat) : State.Aside (State.regressed n d x f) :=
  State.aside_alertCause.comp ((State.aside_scoreIncrement 8 .regression).comp (State.aside_takeRecord _))

/-- R95: the three ends of a scan read. -/
theorem State.scanReadEnd_cases (n : Fin 8) (d : CellDef) (r : TransferResult) (s : State) :
    let f := (s.cell n).loadedFloor.getD 0
    (r.timedOut = true → s.scanReadEnd n d r = s.becomeLive n (.begin f f true)) ∧
      (r.timedOut = false → f ≤ readValue d r → s.scanReadEnd n d r = s.becomeLive n (.begin (readValue d r) f false)) ∧
      (r.timedOut = false → readValue d r < f → s.scanReadEnd n d r =
        ((s.becomeLive n (.begin f f false)).regressed n d (readValue d r) f).startInternal n d .write f
          .correction) := by
  intro f
  refine ⟨fun h => ?_, fun h hf => ?_, fun h hf => ?_⟩
  · exact if_pos h
  · exact (if_neg (by simp [h])).trans (if_pos hf)
  · exact (if_neg (by simp [h])).trans (if_neg (Nat.not_le.2 hf))

theorem State.newReadEnd_timedOut (h : r.timedOut = true) (s : State) : s.newReadEnd n d r = s.setOp n none := if_pos h

theorem State.newReadEnd_read (h : r.timedOut = false) (s : State) : s.newReadEnd n d r =
    (s.becomeLive n (.begin (readValue d r) (readValue d r) false)).queueItem (.floor n (some (readValue d r))) :=
  if_neg (by simp [h])

/-! ## The waiting write and the due mark do not touch the end of an operation -/

/-- The state with another cell in the place of the waiting write, or none. -/
def State.setWaiting (w : Option (Fin 8)) (s : State) : State :=
  { s with guard := { s.guard with waitingWrite := w } }

/-- An operation that neither reads nor writes the cells does not read the place of the waiting write. -/
theorem State.Aside.setWaiting {f : State → State} (h : State.Aside f) (guard : (f s).guard = s.guard)
    (mem : (f s).mem = s.mem) (w : Option (Fin 8)) : f (s.setWaiting w) = (f s).setWaiting w := by
  refine (h { s.guard with waitingWrite := w } s.mem s).trans ?_
  rw [← guard, ← mem]
  rfl

theorem State.operationOver_setWaiting (n : Fin 8) (d : CellDef) (o : Operation) (r : TransferResult)
    (w : Option (Fin 8)) (s : State) :
    (s.setWaiting w).operationOver n d o r = (s.operationOver n d o r).setWaiting w := by
  by_cases hr : o ≠ .scanRead ∧ ∀ w, o ≠ .newRead w
  · obtain ⟨f, -, ends | ⟨x, ends⟩⟩ := State.operationOver_live hr n d r
    · rw [ends, ends]
      rfl
    · rw [ends, ends]
      rfl
  · cases o with
    | scanRead =>
      obtain ⟨late, kept, below⟩ := s.scanReadEnd_cases n d r
      obtain ⟨late', kept', below'⟩ := (s.setWaiting w).scanReadEnd_cases n d r
      change State.scanReadEnd n d r _ = (State.scanReadEnd n d r s).setWaiting w
      cases ht : r.timedOut with
      | true =>
        rw [late ht, late' ht]
        rfl
      | false =>
        rcases Nat.lt_or_ge (readValue d r) ((s.cell n).loadedFloor.getD 0) with h | h
        · have aside := (State.aside_regressed n d (readValue d r) ((s.cell n).loadedFloor.getD 0)).setWaiting
            (s := s.becomeLive n (.begin ((s.cell n).loadedFloor.getD 0) ((s.cell n).loadedFloor.getD 0) false))
            (by simp [State.regressed]) (by simp [State.regressed]) w
          rw [below ht h, below' ht h]
          exact congrArg (fun u => State.startInternal n d .write ((s.cell n).loadedFloor.getD 0) .correction u) aside
        · rw [kept ht h, kept' ht h]
          rfl
    | newRead x =>
      change State.newReadEnd n d r _ = (State.newReadEnd n d r s).setWaiting w
      cases ht : r.timedOut with
      | true =>
        rw [State.newReadEnd_timedOut ht, State.newReadEnd_timedOut ht]
        rfl
      | false =>
        rw [State.newReadEnd_read ht, State.newReadEnd_read ht]
        rfl
    | _ => exact absurd ⟨by simp, by simp⟩ hr

theorem State.operationOver_waiting (n : Fin 8) (d : CellDef) (o : Operation) (r : TransferResult) (s : State) :
    (s.operationOver n d o r).guard.waitingWrite = s.guard.waitingWrite := by
  have ends := State.operationOver_setWaiting n d o r s.guard.waitingWrite s
  have same : s.setWaiting s.guard.waitingWrite = s := rfl
  rw [same] at ends
  rw [ends]
  rfl

/-- A cell that was not due is not due after the end of its operation. -/
theorem State.operationOver_due (h : ∀ v, (s.cell n).live = some v → v.due = false) (d : CellDef) (o : Operation)
    (r : TransferResult) : ∀ v, ((s.operationOver n d o r).cell n).live = some v → v.due = false := by
  have begun {x f : Nat} {b : Bool} {v : LiveState} (e : some (LiveState.begin x f b) = some v) : v.due = false := by
    cases e
    rfl
  by_cases hr : o ≠ .scanRead ∧ ∀ w, o ≠ .newRead w
  · obtain ⟨f, due, ends⟩ := State.operationOver_live hr n d r
    have cell : ((s.operationOver n d o r).cell n).live = (s.cell n).live.map f := by
      rcases ends with ends | ⟨w, ends⟩ <;> rw [ends, State.endOp_eq]
      · rw [State.cell_setCell_self]
      · exact congrArg Cell.live (State.cell_setCell_self ..)
    intro v hv
    obtain ⟨x, hx, rfl⟩ := Option.map_eq_some_iff.1 (cell.symm.trans hv)
    have same : ({ x with due := false } : LiveState) = x := by rw [← h x hx]
    rw [← same, due]
  · cases o with
    | scanRead =>
      obtain ⟨late, kept, below⟩ := s.scanReadEnd_cases n d r
      change ∀ v, ((State.scanReadEnd n d r s).cell n).live = some v → v.due = false
      intro v hv
      cases ht : r.timedOut with
      | true =>
        rw [late ht, State.becomeLive, State.cell_setCell_self] at hv
        exact begun hv
      | false =>
        rcases Nat.lt_or_ge (readValue d r) ((s.cell n).loadedFloor.getD 0) with less | least
        · rw [below ht less, State.cell_startInternal, if_pos rfl,
            State.cell_congr (by simp [State.regressed] : _ = (s.becomeLive n (.begin ((s.cell n).loadedFloor.getD 0)
              ((s.cell n).loadedFloor.getD 0) false)).guard.cells), State.becomeLive, State.cell_setCell_self] at hv
          exact begun hv
        · rw [kept ht least, State.becomeLive, State.cell_setCell_self] at hv
          exact begun hv
    | newRead w =>
      change ∀ v, ((State.newReadEnd n d r s).cell n).live = some v → v.due = false
      intro v hv
      cases ht : r.timedOut with
      | true =>
        rw [State.newReadEnd_timedOut ht, State.cell_setOp_self] at hv
        exact h v hv
      | false =>
        rw [State.newReadEnd_read ht] at hv
        exact begun ((congrArg Cell.live (State.cell_setCell_self ..)).symm.trans hv)
    | _ => exact absurd ⟨by simp, by simp⟩ hr

/-- With no waiting write and no due mark of the cell, nothing follows the end of its operation. -/
theorem State.opEnd_alone (hs : (s.cell n).stale = false) (hd : (s.cell n).defn = some d)
    (ho : (s.cell n).op = some o) (hw : s.guard.waitingWrite = none)
    (due : ∀ v, (s.cell n).live = some v → v.due = false) (r : TransferResult) :
    s.opEnd n r = s.operationOver n d o r := by
  rw [State.opEnd_eq hs hd ho]
  exact State.afterOp_eq_self (by rw [State.operationOver_waiting, hw]; simp) (State.operationOver_due due d o r)

/-! ## The due mark apart (R90) -/

/-- The cell is due, or not. -/
def State.setDue (n : Fin 8) (b : Bool) (s : State) : State := s.modifyLive n fun v => { v with due := b }

theorem State.setDue_setDue (n : Fin 8) (b c : Bool) (s : State) : (s.setDue n b).setDue n c = s.setDue n c := by
  rw [State.setDue, State.modifyLive, State.setDue, State.cell_modifyLive_self, Option.map_map, State.modifyLive,
    State.setCell_setCell]
  rfl

theorem State.setDue_self (n : Fin 8) (s : State) : s.setDue n ((s.cell n).live.any LiveState.due) = s := by
  have same : ({ s.cell n with
      live := (s.cell n).live.map fun v => { v with due := (s.cell n).live.any LiveState.due } } : Cell) =
        s.cell n := by
    cases h : (s.cell n).live with
    | none => rw [Option.map_none, ← h]
    | some v => rw [Option.map_some, Option.any_some, ← h]
  rw [State.setDue, State.modifyLive, same, State.setCell_self]

theorem State.endOp_setDue {f : LiveState → LiveState} (h : ∀ b v, f { v with due := b } = { f v with due := b })
    (n : Fin 8) (b : Bool) (s : State) : (s.setDue n b).endOp n f = (s.endOp n f).setDue n b := by
  have maps : (s.cell n).live.map (f ∘ fun v => { v with due := b }) =
      (s.cell n).live.map ((fun v => { v with due := b }) ∘ f) :=
    congrArg (fun g => (s.cell n).live.map g) (funext fun v => h b v)
  rw [State.endOp_eq, State.endOp_eq, State.setDue, State.setDue, State.modifyLive, State.modifyLive,
    State.cell_setCell_self, State.cell_setCell_self, State.setCell_setCell, State.setCell_setCell, Option.map_map,
    Option.map_map, maps]

/-- The due mark does not touch the end of an operation, where a read is one of a READING cell. -/
theorem State.operationOver_setDue
    (reads : (s.cell n).live.isSome = true → o ≠ .scanRead ∧ ∀ w, o ≠ .newRead w) (d : CellDef) (r : TransferResult) :
    ((s.setDue n false).operationOver n d o r).setDue n ((s.cell n).live.any LiveState.due) =
      s.operationOver n d o r := by
  cases hv : (s.cell n).live with
  | none =>
    have same : s.setDue n false = s := State.modifyLive_none hv _
    have notDue := State.operationOver_due (s := s) (n := n) (fun v e => nomatch hv.symm.trans e) d o r
    have mark : ((s.operationOver n d o r).cell n).live.any LiveState.due = false := by
      cases e : ((s.operationOver n d o r).cell n).live with
      | none => rfl
      | some v => exact notDue v e
    have own := (s.operationOver n d o r).setDue_self n
    rw [mark] at own
    rw [same]
    exact own
  | some v =>
    obtain ⟨f, due, ends⟩ := State.operationOver_live (reads (by rw [hv]; rfl)) n d r
    have back : ((s.setDue n false).endOp n f).setDue n ((s.cell n).live.any LiveState.due) = s.endOp n f := by
      rw [← State.endOp_setDue due, State.setDue_setDue, State.setDue_self]
    rw [hv] at back
    rcases ends with ends | ⟨w, ends⟩
    · rw [ends, ends, back]
    · rw [ends, ends]
      exact congrArg (State.queueItem w) back

/-- R82, R90: the end of an operation of a cell that has neither a waiting write nor a due mark, and then the due
mark put back, is the end of the operation with both left alone. -/
theorem State.opEnd_apart (hs : (s.cell n).stale = false) (hd : (s.cell n).defn = some d)
    (ho : (s.cell n).op = some o)
    (reads : (s.cell n).live.isSome = true → o ≠ .scanRead ∧ ∀ w, o ≠ .newRead w) (r : TransferResult) :
    (State.opEnd n r ((s.setDue n false).setWaiting none)).setDue n ((s.cell n).live.any LiveState.due) =
      (s.operationOver n d o r).setWaiting none := by
  have cell : ((s.setDue n false).setWaiting none).cell n =
      { s.cell n with live := (s.cell n).live.map fun v => { v with due := false } } := State.cell_modifyLive_self ..
  have alone : State.opEnd n r ((s.setDue n false).setWaiting none) =
      ((s.setDue n false).operationOver n d o r).setWaiting none := by
    rw [← State.operationOver_setWaiting]
    refine State.opEnd_alone (by rw [cell]; exact hs) (by rw [cell]; exact hd) (by rw [cell]; exact ho) rfl
      (fun v hv => ?_) r
    rw [cell] at hv
    obtain ⟨x, -, rfl⟩ := Option.map_eq_some_iff.1 hv
    rfl
  rw [alone, ← State.operationOver_setDue reads d r]
  rfl

/-! ## The end of an operation of a definition that is gone (R101) -/

/-- R97, R101: the waiting write of a READING cell is absorbed, and the new read starts. -/
theorem State.staleEnd_reading (hv : (s.cell n).live = none)
    (hc : s.guard.waitingWrite = some n → s.port.cycle ≠ none) : s.staleEnd n =
    State.startNewRead n (if s.guard.waitingWrite = some n then
      (State.completed none ((s.clearOp n).setWaiting none)).releaseReads else s.clearOp n) := by
  have cleared : ((s.clearOp n).cell n).live = none ∧ ((s.clearOp n).cell n).op = none := by
    rw [State.clearOp, State.cell_setCell_self]
    exact ⟨hv, rfl⟩
  obtain ⟨live, op⟩ := cleared
  have taken : (s.clearOp n).takeWaiting n = if s.guard.waitingWrite = some n then
      (State.completed none ((s.clearOp n).setWaiting none)).releaseReads else s.clearOp n := by
    rw [State.takeWaiting]
    by_cases hw : s.guard.waitingWrite = some n
    · obtain ⟨c, hc⟩ := Option.ne_none_iff_exists'.1 (hc hw)
      rw [if_pos hw, if_pos ⟨hw, op⟩]
      exact State.takeWrite_reading (s := (s.clearOp n).setWaiting none) hc live
    · rw [if_neg hw, if_neg fun e => hw e.1]
  have reading : (((s.clearOp n).takeWaiting n).cell n).live = none := by
    rw [taken]
    split
    · exact (State.completeCycle_live none ((s.clearOp n).setWaiting none) n).trans live
    · exact live
  rw [State.staleEnd_eq, if_pos (Option.isNone_iff_eq_none.2 reading), taken]

/-! ## The new reads that waited (R97) -/

/-- The new reads that waited are requested: their cells and the list change, and nothing else. -/
theorem State.releaseAll_rest (w : ReadWait) (s : State) : forCells (State.releaseRead w) s =
    { s with guard := (forCells (State.releaseRead w) s).guard, mem := (forCells (State.releaseRead w) s).mem } := by
  have rest (g : CounterGuard) (m : MemPort) : ({ forCells (State.releaseRead w) s with
      guard := g, mem := m } : State) = { s with guard := g, mem := m } :=
    forCells_keeps (fun u => ({ u with guard := g, mem := m } : State)) (State.releaseRead w)
      (fun n s => by rw [State.releaseRead_eq]; rfl) s
  generalize forCells (State.releaseRead w) s = u at rest ⊢
  exact rest u.guard u.mem

end

/-- Settles O30: the end of an operation is what its kind brings, and then the waiting write and the due mark, which
that end does not touch. -/
theorem operationsEnd : Obligations.OperationsEnd := by
  refine ⟨fun n r d s hd hs hw hm => ?_, fun n r d o s hd hs ho reads => ?_, fun n r s hs hv hc => ?_,
    fun n s => ⟨fun hd => ?_, fun d hd => ?_⟩, fun s row hrow => ?_⟩
  · intro t ended fresh
    refine ⟨fun v hv hdue => ?_, fun hv => ?_⟩
    · have alone {o : Operation} (ho : (s.cell n).op = some o) : t = s.operationOver n d o r :=
        State.opEnd_alone hs hd ho hw (fun x hx => by cases hv.symm.trans hx; exact hdue) r
      refine ⟨fun o x isSet ho => ⟨fun ht => ?_, fun ht set => ?_, fun ht set => ?_⟩, fun ho => ?_, fun ho => ?_⟩
      · exact (alone ho).trans ((State.evaluationEnd_timedOut hm ht x isSet s).trans (State.endOp_live hv _))
      · subst set
        exact (alone ho).trans ((State.evaluationEnd_written hm ht x false s).trans (State.endOp_live hv _))
      · subst set
        exact (alone ho).trans ((State.evaluationEnd_written hm ht x true s).trans
          (congrArg (State.queueItem _) (State.endOp_live hv _)))
      · rw [alone ho]
        refine (State.restoreEnd_made hm s).trans ((State.endOp_live hv _).trans ?_)
        cases r.timedOut <;> rfl
      · exact (alone ho).trans ((State.correctionEnd_made hm s).trans (State.endOp_live hv _))
    · intro f x begun correction
      have alone {o : Operation} (ho : (s.cell n).op = some o) : t = s.operationOver n d o r :=
        State.opEnd_alone hs hd ho hw (fun x hx => nomatch hv.symm.trans hx) r
      have value : readValue d r = x := rfl
      refine ⟨fun ho => ?_, fun ho => ⟨fun ht => ?_, fun ht => ?_⟩⟩
      · obtain ⟨late, kept, below⟩ := s.scanReadEnd_cases n d r
        rw [value] at kept below
        refine ⟨fun ht => ?_, fun ht h => ?_, fun ht h => ?_⟩
        · exact (alone ho).trans (late ht)
        · exact (alone ho).trans (kept ht h)
        · exact (alone ho).trans (below ht h)
      · exact (alone ho).trans (State.newReadEnd_timedOut ht s)
      · exact (alone ho).trans (State.newReadEnd_read ht s)
  · intro due alone bare ended
    have whole : ended = (s.operationOver n d o r).setWaiting none := State.opEnd_apart hs hd ho reads r
    have waiting : (s.operationOver n d o r).guard.waitingWrite = s.guard.waitingWrite :=
      State.operationOver_waiting n d o r s
    rw [whole, State.opEnd_eq hs hd ho, State.afterOp, State.takeWaiting, waiting]
    refine ⟨fun hw hop => ?_, fun h => ?_⟩
    · rw [if_pos ⟨hw, hop⟩]
      rfl
    · rw [if_neg fun w => h.elim (· w.1) (· w.2), ← waiting]
      rfl
  · intro gone
    rw [State.opEnd, if_pos hs]
    exact State.staleEnd_reading hv hc
  · rw [State.startNewRead, hd]
  · intro uses
    refine ⟨fun h => ?_, fun h => ?_⟩
    · exact State.startNewRead_waits hd (State.cycleUses_iff.2 h)
    · exact State.startNewRead_requested hd (mt State.cycleUses_iff.1 h)
  · obtain ⟨w, rfl⟩ : ∃ w, row = (w, forCells (State.releaseRead w) s) := by
      rcases List.mem_cons.1 hrow with e | e
      · exact ⟨_, e⟩
      · exact ⟨_, List.mem_singleton.1 e⟩
    have requests : (octOrder.filterMap fun n => (s.cell n).readRequest w n) = octOrder.filterMap fun n =>
        match (s.cell n).defn with
        | some d =>
          if (s.cell n).op = some (.newRead w) then
            some
              { requester := .internal n, direction := .read, address := d.address
                twoWords := decide (d.width = .w32), lanes := .both, data0 := 0, data1 := 0, window := none }
          else none
        | none => none := by
      refine List.filterMap_congr fun n _ => ?_
      rw [Cell.readRequest_eq]
      cases (s.cell n).defn <;> rfl
    have rest := State.releaseAll_rest w s
    have mem := State.mem_releaseAll w s
    have cell := State.cell_releaseAll w s
    obtain ⟨-, -, -, -, -, -, -, -, -, -, -, -, -, -, waiting⟩ := State.forCells_releaseRead_frame w s
    rw [requests] at mem
    simp only [Cell.released, Cell.waits_iff] at cell
    generalize forCells (State.releaseRead w) s = u at rest waiting mem cell
    exact ⟨rest, waiting, mem, cell⟩

end Sys2Proof.Machine
end

section
namespace Sys2Proof.Machine

/-! ## Grants within their terms (R104, R105) -/

section
variable {g : Grant}

theorem Grant.withinLevel_iff : g.withinLevel = true ↔
    g.toolId ≠ 0 ∧ g.scope ≠ 0 ∧ g.rights &&& maxRights g.level = g.rights ∧ 1 ≤ g.lifetime ∧
      g.lifetime ≤ maxLifetime g.level ∧ ∀ a : Nat, g.allowance = some a → 1 ≤ a ∧ a ≤ 65535 := by
  unfold Grant.withinLevel
  cases h : g.allowance <;> simp [and_assoc]

/-- R129: a charge that does not spend the allowance leaves the grant within its terms. -/
theorem Grant.withinLevel_charged (h : g.withinLevel = true) (left : g.charged.allowance ≠ some 0) :
    g.charged.withinLevel = true := by
  rw [Grant.withinLevel_iff] at h ⊢
  obtain ⟨tool, scope, rights, alive, lifetime, allowance⟩ := h
  refine ⟨tool, scope, rights, alive, lifetime, fun a ha => ?_⟩
  obtain ⟨b, hb, rfl⟩ := Option.map_eq_some_iff.1 ha
  have positive : b - 1 ≠ 0 := fun e => left (ha.trans (congrArg some e))
  have bound := allowance b hb
  omega

/-- R121: a second less of lifetime, where one is left. -/
theorem Grant.withinLevel_second (h : g.withinLevel = true) (left : 1 < g.lifetime) :
    Grant.withinLevel { g with lifetime := g.lifetime - 1 } = true := by
  rw [Grant.withinLevel_iff] at h ⊢
  obtain ⟨tool, scope, rights, -, lifetime, allowance⟩ := h
  exact ⟨tool, scope, rights, Nat.le_sub_of_add_le left, (Nat.sub_le ..).trans lifetime, allowance⟩

end

/-! ## The fields of a request (R108, R110) -/

section
variable (p : List Byte)

theorem Level.isSome_ofByteCode (n : Nat) : (Level.ofByteCode n).isSome = true ↔ 1 ≤ n ∧ n ≤ 3 := by
  match n with
  | 0 | 1 | 2 | 3 => simp [Level.ofByteCode]
  | n + 4 => simp [Level.ofByteCode]

theorem Level.levelCode_ofByteCode {n : Nat} (h : 1 ≤ n ∧ n ≤ 3) (x : Level) :
    Layout.levelCode ((Level.ofByteCode n).getD x) = n := by
  obtain ⟨lo, hi⟩ := h
  interval_cases n <;> rfl

/-- The ranges that REQUEST GRANT examines, in the order of R108. -/
def requestRanges : List (Nat × Prop) :=
  [(1, fieldAt p 1 4 ≠ 0), (5, 1 ≤ fieldAt p 5 1 ∧ fieldAt p 5 1 ≤ 3), (6, fieldAt p 6 1 ≤ 63),
   (7, 1 ≤ fieldAt p 7 2 ∧ fieldAt p 7 2 ≤ 511), (9, 1 ≤ fieldAt p 9 2 ∧ fieldAt p 9 2 ≤ 7200),
   (13, fieldAt p 13 1 ≤ 1)]

theorem checkRequest_examines : Examines (checkRequest p) (requestRanges p) :=
  .cons bne_iff_ne (.cons (Level.isSome_ofByteCode _) (.cons (by simp; omega) (.cons (by simp; omega)
    (.cons decide_eq_true_iff (.cons (isFlag_iff _) .nil)))))

variable {p}

theorem toNat_toolId : (readRequest p).toolId.toNat = fieldAt p 1 4 := by
  rw [readRequest, BitVec.toNat_ofNat]
  exact Nat.mod_eq_of_lt (fieldAt_lt p 1 4)

theorem toNat_scope (h : fieldAt p 7 2 ≤ 511) : (readRequest p).scope.toNat = fieldAt p 7 2 := by
  rw [readRequest, BitVec.toNat_ofNat]
  exact Nat.mod_eq_of_lt (by omega)

/-- R105, R110: what a request asks for, trimmed to its level, is within its terms. -/
theorem withinLevel_readRequest (h : ∀ x ∈ requestRanges p, x.2) : (readRequest p).trim.withinLevel = true := by
  simp only [requestRanges, List.forall_mem_cons] at h
  obtain ⟨tool, -, -, ⟨named, scope⟩, ⟨alive, -⟩, -⟩ := h
  refine Grant.withinLevel_iff.2 ⟨fun e => tool ?_, fun e => ?_, ?_, ?_, Nat.min_le_right .., fun a ha => ?_⟩
  · have zero : (readRequest p).toolId = 0 := e
    rw [← toNat_toolId, zero]
    rfl
  · have zero : (readRequest p).scope = 0 := e
    rw [← toNat_scope scope, zero] at named
    exact nomatch named
  · exact (BitVec.and_assoc ..).trans (congrArg _ (BitVec.and_self ..))
  · refine Nat.le_min.2 ⟨alive, ?_⟩
    cases (readRequest p).level <;> decide
  · have asked : (if fieldAt p 11 2 = 0 then none else some (fieldAt p 11 2)) = some a := ha
    have bound := fieldAt_lt p 11 2
    split at asked
    · exact nomatch asked
    · cases asked
      omega

end

/-! ## Operations that keep the law of grant terms -/

section
variable {s t u : State} {i : Fin 4} {g : Grant}

/-- The law of grant terms is passed on. -/
structure State.PassesTerms (s t : State) : Prop where
  law : s.GrantTermsLaw → t.GrantTermsLaw

namespace State.PassesTerms

theorem refl (s : State) : s.PassesTerms s := ⟨id⟩

theorem trans (h : s.PassesTerms t) (k : t.PassesTerms u) : s.PassesTerms u := ⟨k.law ∘ h.law⟩

theorem of_slots (h : t.grants.slots = s.grants.slots) : s.PassesTerms t := ⟨fun law i => by
  rw [h]
  exact law i⟩

theorem ite {c : Prop} [Decidable c] (h : s.PassesTerms t) : s.PassesTerms (if c then t else s) := by
  split
  · exact h
  · exact .refl s

theorem forSlots {f : Fin 4 → State → State} (h : ∀ i (s : State), s.PassesTerms (f i s)) (s : State) :
    s.PassesTerms (Machine.forSlots f s) :=
  forSlots_induct (s.PassesTerms ·) f (fun i t k => k.trans (h i t)) s (.refl s)

/-- A slot takes another state, within its terms. -/
theorem setSlot {x : Slot} (h : (s.grants.slots[i]).withinTerms = true → x.withinTerms = true) :
    s.PassesTerms (s.setSlot i x) := ⟨fun law j => by
  rw [State.slot_setSlot]
  split
  · exact h (law i)
  · exact law j⟩

theorem takeRecord (r : Report) (s : State) : s.PassesTerms (s.takeRecord r) := of_slots (by simp)

theorem freeSlot (i : Fin 4) (s : State) : s.PassesTerms (s.freeSlot i) :=
  (setSlot (i := i) (x := .free) fun _ => rfl).trans (of_slots rfl)

theorem closeSlot (i : Fin 4) (reason : Reason) (s : State) : s.PassesTerms (s.closeSlot i reason) := by
  by_cases h : ∃ g tally openedAt, s.grants.slots[i] = .opened g tally openedAt
  · obtain ⟨g, tally, at_, h⟩ := h
    rw [State.closeSlot_of_opened h]
    exact (takeRecord ..).trans (freeSlot ..)
  · rw [State.closeSlot_of_not_opened fun g tally at_ e => h ⟨g, tally, at_, e⟩]
    exact .refl s

theorem endSlot (i : Fin 4) (reason : Reason) (s : State) : s.PassesTerms (s.endSlot i reason) :=
  (setSlot (i := i) (x := .free) fun _ => rfl).trans (of_slots (congrArg GrantTable.slots (State.endSlot_grants ..)))

/-- R55, R129: the tally saturates, and an allowance that reaches 0 closes the grant. -/
theorem charge (i : Fin 4) (s : State) : s.PassesTerms (s.charge i) := by
  by_cases h : ∃ g tally openedAt, s.grants.slots[i] = .opened g tally openedAt
  · obtain ⟨g, tally, at_, h⟩ := h
    rw [State.charge_of_opened h]
    split
    · refine (setSlot (i := i) (x := .free) fun _ => rfl).trans (of_slots ?_)
      rw [State.closeSlot_of_opened (State.slot_setSlot_self ..)]
      simp
    · refine setSlot fun within => ?_
      rw [h] at within
      simp only [Slot.withinTerms, Bool.and_eq_true, decide_eq_true_eq] at within ⊢
      exact ⟨Grant.withinLevel_charged within.1 ‹_›, Nat.min_le_right ..⟩
  · rw [State.charge_of_not_opened fun g tally at_ e => h ⟨g, tally, at_, e⟩]
    exact .refl s

/-! ### The score and lockdown (R64 to R70) -/

/-- R125: lockdown entry frees slots, and changes none otherwise. -/
theorem enterLockdown (cause : Reason) (s : State) : s.PassesTerms (s.enterLockdown cause) := ⟨fun law j => by
  obtain ⟨slots, -⟩ := s.enterLockdown_slots cause
  rw [slots j]
  split
  · rfl
  · exact law j⟩

theorem scoreIncrement (k : Nat) (cause : Reason) (s : State) : s.PassesTerms (s.scoreIncrement k cause) := by
  have checked : s.PassesTerms ((s.raised k).alertCheck s.decision.score) := of_slots (by simp [State.raised])
  rw [State.scoreIncrement_eq]
  exact checked.trans (.ite (enterLockdown ..))

/-! ### The grant table's commands and events (R109 to R124) -/

/-- R110, R111: the slot takes the trimmed terms, its challenge of age 0. -/
theorem acceptRequest (h : g.withinLevel = true) (s : State) : s.PassesTerms (s.acceptRequest i g) := by
  have counted : s.PassesTerms (State.queueItem (.challengeCounter s.grants.nextChallenge.counter)
      { s with grants := { s.grants with counter := s.grants.nextChallenge.counter } }) := of_slots rfl
  have taken (v : State) : v.PassesTerms ((v.setSlot i (.challenged g s.grants.nextChallenge 0)).reportSlot i) :=
    (setSlot (i := i) fun _ => by simp [Slot.withinTerms, h]).trans (of_slots rfl)
  exact counted.trans (taken _)

/-- R117: the terms that were granted open, with tally 0. -/
theorem openSlot {c : Challenge} {age : Nat} (h : s.grants.slots[i] = .challenged g c age) :
    s.PassesTerms (s.openSlot i g) := by
  have opened : s.PassesTerms (s.setSlot i (.opened g 0 s.time.seconds)) := setSlot fun within => by
    rw [h] at within
    simp only [Slot.withinTerms, Bool.and_eq_true] at within ⊢
    exact ⟨within.1, rfl⟩
  have cleared (v : State) : v.PassesTerms v.clearFailed := .ite (of_slots rfl)
  exact ((opened.trans (cleared _)).trans (takeRecord ..)).trans (of_slots rfl)

theorem refuseProof (i : Fin 4) (g : Grant) (s : State) : s.PassesTerms (s.refuseProof i g) := by
  have counted (v : State) : v.PassesTerms v.countFailure := of_slots rfl
  exact (((freeSlot i s).trans (counted _)).trans (takeRecord ..)).trans (scoreIncrement ..)

theorem takeResult (p : ProofInFlight) (s : State) : s.PassesTerms (s.takeResult p) := by
  have stopped : s.PassesTerms { s with engine := none } := of_slots rfl
  have settled (v : State) : v.PassesTerms (v.settleProof p).1 := by
    unfold State.settleProof
    split
    · rename_i h
      split
      · split
        · exact openSlot h
        · exact refuseProof ..
      · exact .refl v
    · exact .refl v
  have result := stopped.trans (settled _)
  unfold State.takeResult
  simp only []
  split
  · exact result.trans (of_slots rfl)
  · exact result

/-- R113, R121: a second frees a challenge at age 30, and a grant whose lifetime it ends. -/
theorem secondSlot (i : Fin 4) (s : State) : s.PassesTerms (s.secondSlot i) := by
  unfold State.secondSlot
  split
  · exact .refl s
  · rename_i h
    split
    · exact freeSlot ..
    · rename_i young
      refine setSlot fun within => ?_
      rw [h] at within
      simp only [Slot.withinTerms, Bool.and_eq_true, decide_eq_true_eq] at within ⊢
      exact ⟨within.1, Nat.not_le.1 young⟩
  · rename_i h
    split
    · exact closeSlot ..
    · rename_i alive
      refine setSlot fun within => ?_
      rw [h] at within
      simp only [Slot.withinTerms, Bool.and_eq_true] at within ⊢
      exact ⟨Grant.withinLevel_second within.1 (Nat.not_le.1 alive), within.2⟩

theorem grantSecond (s : State) : s.PassesTerms s.grantSecond := by
  have timed : s.PassesTerms (s.withTime s.time.takeGrantSecond) := of_slots rfl
  exact (timed.trans (forSlots secondSlot _)).trans (of_slots rfl)

theorem ignitionOffSlot (i : Fin 4) (s : State) : s.PassesTerms (s.ignitionOffSlot i) := by
  unfold State.ignitionOffSlot
  split
  · exact .refl s
  · split
    · exact .refl s
    · exact endSlot ..

/-! ### The commands of the link (section 6.4) -/

theorem finish {r : State × Option Answer} (h : s.PassesTerms r.1) : s.PassesTerms (State.finish r) := by
  unfold State.finish
  split
  · exact h
  · exact h.trans (of_slots rfl)

theorem runCommand (code : Byte) (size : Nat) {body : Body} (hb : ∀ p (s : State), s.PassesTerms (body p s).1)
    (s : State) : s.PassesTerms (s.runCommand code size body) := by
  rcases s.runCommand_cases code size body with e | ⟨a, e⟩ | ⟨p, -, -, e⟩ <;> rw [e]
  · exact .refl s
  · exact of_slots rfl
  · exact finish (hb p s)

/-- R109, R110: a request that is taken has passed the checks of its fields. -/
theorem bodyRequestGrant (p : List Byte) (s : State) : s.PassesTerms (bodyRequestGrant p s).1 := by
  unfold Machine.bodyRequestGrant
  split
  · exact .refl s
  · rename_i h
    refine acceptRequest (withinLevel_readRequest ?_) s
    rw [← (checkRequest_examines p).firstBad_eq_none]
    unfold State.requestCheck at h
    split at h
    · exact nomatch h
    · split at h
      · exact nomatch h
      · assumption

theorem bodyCloseGrant (p : List Byte) (s : State) : s.PassesTerms (bodyCloseGrant p s).1 := by
  unfold Machine.bodyCloseGrant
  split
  · exact .refl s
  · split
    · exact .refl s
    · split
      · exact endSlot ..
      · exact .refl s

end State.PassesTerms
end
end Sys2Proof.Machine
end

section
namespace Sys2Proof.Machine

/-! ## The commands that leave the slots as they are (sections 6.4 and 7) -/

section
variable (p : List Byte) (s : State)

theorem bodyProveGrant_slots : (bodyProveGrant p s).1.grants.slots = s.grants.slots := by
  unfold bodyProveGrant
  split
  · rfl
  · split <;> rfl

theorem bodyReadLog_slots : (bodyReadLog p s).1.grants.slots = s.grants.slots := by
  unfold bodyReadLog
  split <;> rfl

theorem bodyReleaseLog_slots : (bodyReleaseLog p s).1.grants.slots = s.grants.slots := by
  have marked (e : Bool) (v : State) : (v.markAfterRelease e).grants = v.grants := by
    unfold State.markAfterRelease
    split <;> rfl
  unfold bodyReleaseLog
  split
  · rfl
  · split
    · rfl
    · split
      · simp [State.releaseLog, marked]
      · rfl

theorem bodyReadCell_slots : (bodyReadCell p s).1.grants.slots = s.grants.slots := by
  unfold bodyReadCell
  split <;> rfl

theorem bodyReadTable_slots : (bodyReadTable p s).1.grants.slots = s.grants.slots := by
  unfold bodyReadTable
  split <;> rfl

theorem stage_slots (checks : List (Nat × Bool)) (write : Staged → Staged) :
    (s.stage p checks write).1.grants.slots = s.grants.slots := by
  unfold State.stage
  split
  · rfl
  · split
    · rfl
    · split <;> rfl

theorem applyStaged_slots : (s.applyStaged p).1.grants.slots = s.grants.slots := by
  unfold State.applyStaged
  split
  · rfl
  · split
    · rfl
    · split
      · rfl
      · split <;> rfl

theorem bodyResetEcu_slots : (bodyResetEcu p s).1.grants.slots = s.grants.slots := by
  unfold bodyResetEcu
  split
  · rfl
  · split <;> rfl

theorem bodyUnlock_slots : (bodyUnlock p s).1.grants.slots = s.grants.slots := by
  unfold bodyUnlock
  split
  · rfl
  · split
    · rfl
    · split
      · rw [State.endLockdown_rest]
      · rfl

theorem ifUnprovisioned_slots {body : Body} (h : (body p s).1.grants.slots = s.grants.slots) :
    (ifUnprovisioned body p s).1.grants.slots = s.grants.slots := by
  unfold ifUnprovisioned
  split
  · rfl
  · exact h

theorem bodyProvisionKey_slots : (bodyProvisionKey p s).1.grants.slots = s.grants.slots :=
  ifUnprovisioned_slots p s (by split <;> rfl)

theorem bodyProvisionIdentity_slots : (bodyProvisionIdentity p s).1.grants.slots = s.grants.slots :=
  ifUnprovisioned_slots p s (by split <;> rfl)

theorem bodyFinishProvisioning_slots : (bodyFinishProvisioning p s).1.grants.slots = s.grants.slots :=
  ifUnprovisioned_slots p s (by split <;> rfl)

end

/-! ## The law of grant terms is kept (R105) -/

section
variable {s t u : State}

theorem State.loose_grantTermsLaw : State.Loose State.GrantTermsLaw where
  blocks h _ _ _ _ grants _ _ := (State.PassesTerms.of_slots (congrArg GrantTable.slots grants)).law h
  enqueueInternal _ h := h
  charge i := (State.PassesTerms.charge i _).law
  scoreIncrement k cause := (State.PassesTerms.scoreIncrement k cause _).law
  setWaiting _ h := h
  enqueueProcessor _ h := h
  completed _ h := h
  decided _ h := h
  judged _ h := h
  setPort _ h := h
  setMem _ h := h

/-- Every move of the ports, and the arbiter's grant after it: the load and the end of the scan write no slot. -/
theorem State.PortMove.passesTerms (h : s.PortMove u) (wide : Bool) : s.PassesTerms (u.serve wide) := ⟨fun law => by
  have loose := State.loose_grantTermsLaw
  refine loose.serve wide (loose.portMove law (fun t ht => ?_) (fun _ => ?_) (fun _ => ?_) h)
  · have off : t.PassesTerms t.divisorTick := State.PassesTerms.ite (.of_slots rfl)
    exact off.law ht
  · rw [State.finishLoad_whole]
    exact law
  · exact loose.openPort (s := { s with start := { s.start with phase := .running } }) law⟩

/-- A power-on reset leaves every slot FREE. -/
theorem State.grantTermsLaw_fresh (stored : Items) (strap busReset : Bool) (presented : Option CycleLines) :
    (State.fresh stored strap busReset presented).GrantTermsLaw := fun i => by fin_cases i <;> rfl

theorem State.PassesTerms.next (h : s.PassesTerms t) :
    ∀ v, (Host.Outcome.next t : Host.Outcome State Fault Refusal) = .next v → s.PassesTerms v := by
  rintro v ⟨⟩
  exact h

/-- Row by row of the command table: most leave the slots, and the others are the ports' and the grant table's. -/
theorem State.passesTerms_exec (i : Instr) (s : State) : ∀ t, exec i s = .next t → s.PassesTerms t := by
  have slots {t : State} (h : t.grants.slots = s.grants.slots) := (State.PassesTerms.of_slots h).next
  have guarded {c : Prop} [Decidable c] {t : State} (h : t.grants.slots = s.grants.slots) :=
    (State.PassesTerms.of_slots h).ite (c := c).next
  have second := State.PassesTerms.grantSecond s
  have port {u : State} (h : s.PortMove u) (wide : Bool) := (h.passesTerms wide).next
  have message (code : Byte) (size : Nat) {body : Body} (h : ∀ p s, (body p s).1.grants.slots = s.grants.slots) :=
    (State.PassesTerms.runCommand code size (fun p s => .of_slots (h p s)) s).next
  have staged (code : Byte) (size : Nat) (checks : List Byte → List (Nat × Bool))
      (write : List Byte → Staged → Staged) :=
    message code size (body := fun p s => s.stage p (checks p) (write p)) fun p s => stage_slots p s _ _
  cases i with
  | processorCycle lines wide => exact port (.cycle lines) wide
  | accessEnd data wide => exact port (.accessEnd data) wide
  | accessTimeout wide => exact port .accessTimeout wide
  | counterTick wide => exact port .tick wide
  | holdExpiry cell wide =>
    rintro t ⟨⟩
    split
    · exact State.PortMove.passesTerms .tick wide
    · exact State.PortMove.passesTerms .none wide
  | applyTick wide =>
    rintro t ⟨⟩
    split
    · rename_i pending
      exact State.PortMove.passesTerms (.applyTick pending) wide
    · exact State.PortMove.passesTerms .tableTick wide
  | grantTableSecond => exact second.next
  | challengeExpiry slot => exact second.ite.next
  | lifetimeExpired slot => exact second.ite.next
  | backoffEnd => exact second.ite.next
  | decayCount =>
    rintro t ⟨⟩
    split <;> exact .of_slots rfl
  | scoreDecay => exact guarded rfl
  | lampStep step => exact guarded rfl
  | ignitionSample line => exact slots rfl
  | ignitionOffGrantTable =>
    rintro t ⟨⟩
    split
    · exact .refl s
    · have taken (f : IgnitionFilter) : s.PassesTerms { s with ignition := f } := .of_slots rfl
      exact (taken _).trans (.forSlots State.PassesTerms.ignitionOffSlot _)
  | ignitionOffCounterGuard wide => exact port .ignitionOff wide
  | ignitionMirror on => exact guarded rfl
  | alertPulseEnd => exact slots rfl
  | alertGapEnd => exact slots rfl
  | resetRequestPulseEnd => exact slots rfl
  | resetRequestGapEnd => exact slots rfl
  | logRecord report => exact (State.PassesTerms.takeRecord report s).next
  | storeWriteComplete =>
    have stored (v : State) : v.PassesTerms v.applyStored := .ite (.of_slots rfl)
    have completed : s.PassesTerms { s with store := s.store.complete } := .of_slots rfl
    exact (completed.trans (stored _)).next
  | powerOnReset strap =>
    rintro t ⟨⟩
    exact ⟨fun _ => State.grantTermsLaw_fresh s.store.stored strap s.port.busReset s.port.presented⟩
  | scanEnd wide =>
    rintro t ⟨⟩
    split
    · rename_i done
      exact State.PortMove.passesTerms (.scanEnd done.1) wide
    · exact .refl s
  | busResetAssert wide => exact port .busReset wide
  | busResetDeassert wide => exact port .busResetEnd wide
  | gapTimeout => exact slots rfl
  | linkOff => exact slots rfl
  | replySent => exact slots rfl
  | lengthError =>
    rintro t ⟨⟩
    split <;> exact .of_slots rfl
  | unknown =>
    rintro t ⟨⟩
    split
    · exact .refl s
    · split
      · exact .refl s
      · split <;> exact .of_slots rfl
  | identify => exact message _ _ fun _ _ => rfl
  | status => exact message _ _ fun _ _ => rfl
  | requestGrant => exact (State.PassesTerms.runCommand _ _ State.PassesTerms.bodyRequestGrant s).next
  | proveGrant => exact message _ _ bodyProveGrant_slots
  | proofResult =>
    rintro t ⟨⟩
    split
    · exact .refl s
    · exact State.PassesTerms.takeResult ..
  | closeGrant => exact (State.PassesTerms.runCommand _ _ State.PassesTerms.bodyCloseGrant s).next
  | listGrants => exact message _ _ fun _ _ => rfl
  | readLog => exact message _ _ bodyReadLog_slots
  | releaseLog => exact message _ _ bodyReleaseLog_slots
  | readCell => exact message _ _ bodyReadCell_slots
  | readTable => exact message _ _ bodyReadTable_slots
  | stageWindow => exact staged _ _ stageWindowChecks stageWindowWrite
  | stageCell => exact staged _ _ stageCellChecks stageCellWrite
  | stageSettings => exact staged _ _ (checkSettings · 6) fun p st => { st with settings := some (readSettings p 6) }
  | applyStaged => exact message _ _ applyStaged_slots
  | discardStaged => exact staged _ _ (fun _ => []) fun _ _ => .empty
  | resetEcu => exact message _ _ bodyResetEcu_slots
  | unlock => exact message _ _ bodyUnlock_slots
  | provisionKey => exact message _ _ bodyProvisionKey_slots
  | provisionIdentity => exact message _ _ bodyProvisionIdentity_slots
  | finishProvisioning => exact message _ _ bodyFinishProvisioning_slots
  | frameArrival frame => exact slots rfl
  | startBitConfirmed fall => exact slots rfl
  | storeLoadEnd wide =>
    rintro t ⟨⟩
    split
    · rename_i loading
      exact State.PortMove.passesTerms (.loadEnd loading) wide
    · exact .refl s

end

/-- Settles O7: a slot is filled by a request that has passed its checks, and every later change of its terms lowers a
lifetime or an allowance that stays above 0. -/
theorem grantTermsLawKept : Obligations.GrantTermsLawKept := by
  intro s t law hstep
  unfold step at hstep
  split at hstep
  · cases hstep
    exact law
  · rename_i c rest _
    exact (State.passesTerms_exec c { s with pending := rest } t hstep).law law

end Sys2Proof.Machine
end

section
namespace Sys2Proof.Machine

section
variable {s t u : State} {i : Fin 4} {reason : Reason}

/-! ## What the grant table's events leave of the rest of the part (R121, R124) -/

/-- Only the grants, the decision record, the log, the store and the outputs are written. -/
structure State.SlotFrame (s t : State) : Prop where
  rest : t = { s with grants := t.grants, decision := t.decision, log := t.log, out := t.out, store := t.store }
  score : t.decision.score = s.decision.score
  lockdown : t.decision.lockdown = s.decision.lockdown

namespace State.SlotFrame

theorem refl (s : State) : s.SlotFrame s := ⟨rfl, rfl, rfl⟩

theorem trans (h : s.SlotFrame t) (k : t.SlotFrame u) : s.SlotFrame u where
  rest := k.rest.trans (by rw [h.rest])
  score := k.score.trans h.score
  lockdown := k.lockdown.trans h.lockdown

theorem setSlot (i : Fin 4) (x : Slot) (s : State) : s.SlotFrame (s.setSlot i x) := ⟨rfl, rfl, rfl⟩

theorem freeSlot (i : Fin 4) (s : State) : s.SlotFrame (s.freeSlot i) := ⟨rfl, rfl, rfl⟩

theorem takeRecord (r : Report) (s : State) : s.SlotFrame (s.takeRecord r) :=
  ⟨by rw [State.takeRecord_eq], by simp, by simp⟩

theorem endSlot (i : Fin 4) (reason : Reason) (s : State) : s.SlotFrame (s.endSlot i reason) := by
  unfold State.endSlot
  split
  · exact .refl s
  · exact freeSlot i s
  · rename_i h
    rw [State.closeSlot_of_opened h]
    exact (takeRecord ..).trans (freeSlot ..)

end State.SlotFrame

/-! ## Walks that end slots (R121, R124) -/

/-- At its slot each step either puts the next state of the slot, which gives no record, or ends it. -/
def StepsSlots (f : Fin 4 → State → State) (reason : Reason) (ends : Grant → Bool) (next : Slot → Slot) : Prop :=
  ∀ (i : Fin 4) (s : State),
    (f i s = s.setSlot i (next s.grants.slots[i]) ∧ (s.grants.slots[i]).closeReport reason ends i = none) ∨
      (f i s = s.endSlot i reason ∧ next s.grants.slots[i] = .free ∧
        (s.grants.slots[i]).closeReport reason ends i = (s.grants.slots[i]).closeReport reason (fun _ => true) i)

section
variable {f : Fin 4 → State → State} {ends : Grant → Bool} {next : Slot → Slot}

theorem StepsSlots.grants (h : StepsSlots f reason ends next) (i : Fin 4) (s : State) :
    (f i s).grants = { s.grants with slots := s.grants.slots.set i (next s.grants.slots[i]) } := by
  rcases h i s with ⟨put, -⟩ | ⟨ended, free, -⟩
  · rw [put, State.setSlot_grants]
  · rw [ended, State.endSlot_grants, free]

theorem StepsSlots.slot (h : StepsSlots f reason ends next) (i j : Fin 4) (s : State) :
    (f i s).grants.slots[j] = if j = i then next s.grants.slots[i] else s.grants.slots[j] := by
  rw [h.grants]
  exact State.slot_setSlot i j _ s

theorem StepsSlots.sameLog (h : StepsSlots f reason ends next) (i : Fin 4) (s : State) :
    (s.takeRecords ((s.grants.slots[i]).closeReport reason ends i).toList).SameLog (f i s) := by
  rcases h i s with ⟨put, silent⟩ | ⟨ended, -, report⟩
  · rw [put, silent]
    exact ⟨rfl, rfl, rfl⟩
  · rw [ended, report]
    exact State.sameLog_endSlot i reason s

theorem StepsSlots.frame (h : StepsSlots f reason ends next) (i : Fin 4) (s : State) : s.SlotFrame (f i s) := by
  rcases h i s with ⟨put, -⟩ | ⟨ended, -, -⟩
  · rw [put]
    exact .setSlot i _ s
  · rw [ended]
    exact .endSlot i reason s

/-- A walk over some slots puts the next state of each, and takes their records in order. -/
theorem StepsSlots.walk (h : StepsSlots f reason ends next) (l : List (Fin 4)) (distinct : l.Nodup) (k : t.SameLog s) :
    let w := l.foldl (fun s i => f i s) s
    (∀ j : Fin 4, w.grants.slots[j] = if j ∈ l then next s.grants.slots[j] else s.grants.slots[j]) ∧
      w.grants = { s.grants with slots := w.grants.slots } ∧
      (t.takeRecords (l.filterMap fun i => (s.grants.slots[i]).closeReport reason ends i)).SameLog w := by
  induction l generalizing s t with
  | nil => exact ⟨fun j => by simp, rfl, k⟩
  | cons i rest ih =>
    obtain ⟨notin, distinct⟩ := List.nodup_cons.1 distinct
    have other : ∀ j ∈ rest, (f i s).grants.slots[j] = s.grants.slots[j] := fun j hj => by
      rw [h.slot, if_neg]
      rintro rfl
      exact notin hj
    have head : (t.takeRecords ((s.grants.slots[i]).closeReport reason ends i).toList).SameLog (f i s) := by
      refine State.SameLog.trans ?_ (h.sameLog i s)
      cases (s.grants.slots[i]).closeReport reason ends i with
      | none => exact k
      | some r => exact k.takeRecord r
    obtain ⟨slots, grants, log⟩ := ih distinct head
    refine ⟨fun j => ?_, ?_, ?_⟩
    · rw [List.foldl_cons, slots j, h.slot]
      by_cases e : j = i
      · subst e
        simp [notin]
      · simp [e]
    · rw [List.foldl_cons, grants, h.grants]
    · have records : rest.filterMap (fun j => (s.grants.slots[j]).closeReport reason ends j) =
          rest.filterMap fun j => ((f i s).grants.slots[j]).closeReport reason ends j :=
        List.filterMap_congr fun j hj => by rw [other j hj]
      have split : (i :: rest).filterMap (fun j => (s.grants.slots[j]).closeReport reason ends j) =
          ((s.grants.slots[i]).closeReport reason ends i).toList ++
            rest.filterMap fun j => (s.grants.slots[j]).closeReport reason ends j := by
        rw [List.filterMap_cons]
        cases (s.grants.slots[i]).closeReport reason ends i <;> rfl
      rw [List.foldl_cons, split, State.takeRecords_append, records]
      exact log

/-- The walk over all the slots, its records taken from any state with the same log. -/
theorem StepsSlots.forSlots (h : StepsSlots f reason ends next) (k : t.SameLog s) :
    (∀ j : Fin 4, (Machine.forSlots f s).grants.slots[j] = next s.grants.slots[j]) ∧
      (Machine.forSlots f s).grants = { s.grants with slots := (Machine.forSlots f s).grants.slots } ∧
      (t.takeRecords (s.grants.closeReports reason ends)).SameLog (Machine.forSlots f s) ∧
      s.SlotFrame (Machine.forSlots f s) := by
  obtain ⟨slots, grants, log⟩ := h.walk slotOrder (by decide) k
  refine ⟨fun j => (slots j).trans (if_pos (mem_slotOrder j)), grants, ?_,
    forSlots_induct (s.SlotFrame ·) f (fun i t k => k.trans (h.frame i t)) s (.refl s)⟩
  rw [GrantTable.closeReports_eq]
  exact log

end

theorem State.setSlot_same (i : Fin 4) (s : State) : s.setSlot i s.grants.slots[i] = s := by
  have same : s.grants.slots.set i s.grants.slots[i] = s.grants.slots := Vector.set_getElem_self i.isLt
  rw [State.setSlot, same]

end

/-! ## A second at the grant table (R113, R119, R121) -/

section
variable {s : State} {i : Fin 4} {g : Grant} {c : Challenge} {age tally : Nat} {at_ : Quad}

/-- R113, R121: what a second makes of a slot. -/
def Slot.second : Slot → Slot
  | .free => .free
  | .challenged g c age => if age + 1 < 30 then .challenged g c (age + 1) else .free
  | .opened g tally openedAt =>
    if 1 < g.lifetime then .opened { g with lifetime := g.lifetime - 1 } tally openedAt else .free

theorem stepsSlots_second : StepsSlots State.secondSlot .expired (fun g => decide (g.lifetime ≤ 1)) Slot.second := by
  intro i s
  unfold State.secondSlot
  cases h : s.grants.slots[i] with
  | free =>
    have same : s.setSlot i .free = s := h ▸ s.setSlot_same i
    exact .inl ⟨by simp only [Slot.second, same], rfl⟩
  | challenged g c age =>
    have ended : s.endSlot i .expired = s.freeSlot i := by rw [State.endSlot, h]
    by_cases old : Config.challengeLimit ≤ age + 1
    · exact .inr ⟨by simp only [if_pos old, ended], if_neg (Nat.not_lt.2 old), rfl⟩
    · have young : age + 1 < 30 := Nat.not_le.1 old
      exact .inl ⟨by simp only [if_neg old, Slot.second, if_pos young], rfl⟩
  | opened g tally at_ =>
    have ended : s.endSlot i .expired = s.closeSlot i .expired := by rw [State.endSlot, h]
    by_cases last : g.lifetime ≤ 1
    · exact .inr ⟨by simp only [if_pos last, ended], if_neg (Nat.not_lt.2 last), by simp [Slot.closeReport, last]⟩
    · exact .inl ⟨by simp only [if_neg last, Slot.second, if_pos (Nat.not_le.1 last)], by simp [Slot.closeReport, last]⟩

theorem exec_challengeExpiry : exec (.challengeExpiry i) s =
    .next (if (s.grants.slots[i]).challengeEnds then s.grantSecond else s) := rfl

theorem exec_lifetimeExpired : exec (.lifetimeExpired i) s =
    .next (if (s.grants.slots[i]).lifetimeEnds then s.grantSecond else s) := rfl

theorem Slot.challengeEnds_of_not_challenged {x : Slot} (h : ∀ g c age, x ≠ .challenged g c age) :
    x.challengeEnds = false := by
  cases x with
  | challenged g c age => exact absurd rfl (h g c age)
  | _ => rfl

theorem Slot.lifetimeEnds_of_not_opened {x : Slot} (h : ∀ g tally openedAt, x ≠ .opened g tally openedAt) :
    x.lifetimeEnds = false := by
  cases x with
  | opened g tally at_ => exact absurd rfl (h g tally at_)
  | _ => rfl

/-- Settles O42: the walk of the second over the slots, with the time taken before it and the backoff after it. -/
theorem secondsOfTheGrantTable : Obligations.SecondsOfTheGrantTable := by
  intro s
  obtain ⟨slots, grants, log, frame⟩ := stepsSlots_second.forSlots (.refl (s.withTime s.time.takeGrantSecond))
  have second : s.grantSecond = (forSlots State.secondSlot (s.withTime s.time.takeGrantSecond)).backoffStep := rfl
  generalize forSlots State.secondSlot (s.withTime s.time.takeGrantSecond) = w at *
  have time : w.time = s.time.takeGrantSecond := congrArg State.time frame.rest
  refine ⟨w.backoffStep, congrArg Host.Outcome.next second, ?_, time, ?_, frame.score, frame.lockdown, fun i => ?_, ?_,
    fun i => ?_, ?_⟩
  · rw [State.backoffStep_time, time]
    exact congrArg State.backoffStep frame.rest
  · rw [State.backoffStep_grants, grants]
    rfl
  · have slot : w.backoffStep.grants.slots[i] = (s.grants.slots[i]).second := slots i
    rw [slot]
    exact ⟨fun h => by rw [h]; rfl, fun g c age h => by rw [h]; rfl, fun g tally at_ h => by rw [h]; rfl⟩
  · rw [State.backoffStep_time, State.backoffStep_log, time, log.log]
    rfl
  · rw [exec_challengeExpiry, exec_lifetimeExpired, ← second]
    refine ⟨fun g c age h => ?_, fun h => ?_, fun g tally at_ h => ?_, fun h => ?_⟩
    · rw [h]
      simp [Slot.challengeEnds, Config.challengeLimit]
    · rw [Slot.challengeEnds_of_not_challenged h]
      rfl
    · rw [h]
      simp [Slot.lifetimeEnds]
    · rw [Slot.lifetimeEnds_of_not_opened h]
      rfl
  · rw [← second]
    rfl

end

/-! ## Ignition-off at the grant table (R124) -/

/-- R124: what an ignition-off makes of a slot. -/
def Slot.ignitionOff (x : Slot) : Slot :=
  match x.grant? with
  | some g => if g.survive then x else .free
  | none => .free

theorem stepsSlots_ignitionOff :
    StepsSlots State.ignitionOffSlot .ignition (fun g => !g.survive) Slot.ignitionOff := by
  intro i s
  have same := s.setSlot_same i
  unfold State.ignitionOffSlot Slot.ignitionOff
  cases h : s.grants.slots[i] with
  | free =>
    rw [h] at same
    exact .inl ⟨by simp only [Slot.grant?, same], rfl⟩
  | challenged g c age =>
    rw [h] at same
    by_cases survives : g.survive = true
    · exact .inl ⟨by simp only [Slot.grant?, if_pos survives, same], rfl⟩
    · exact .inr ⟨by simp only [Slot.grant?, if_neg survives], if_neg survives, rfl⟩
  | opened g tally at_ =>
    rw [h] at same
    by_cases survives : g.survive = true
    · exact .inl ⟨by simp only [Slot.grant?, if_pos survives, same], by simp [Slot.closeReport, survives]⟩
    · exact .inr ⟨by simp only [Slot.grant?, if_neg survives], if_neg survives, by simp [Slot.closeReport, survives]⟩

/-- Settles O43: the walk of the ignition-off over the slots, with its event taken before it. -/
theorem ignitionOffFreesSlots : Obligations.IgnitionOffFreesSlots := by
  intro s
  refine ⟨fun quiet => congrArg Host.Outcome.next (if_pos quiet), fun issued => ?_⟩
  have taken (f : IgnitionFilter) : s.SameLog { s with ignition := f } := ⟨rfl, rfl, rfl⟩
  obtain ⟨slots, grants, log, frame⟩ := stepsSlots_ignitionOff.forSlots
    (taken { s.ignition with grantOffs := s.ignition.grantOffs - 1 })
  exact ⟨_, congrArg Host.Outcome.next (if_neg issued), frame.rest, grants, frame.score, slots, log.log⟩

end Sys2Proof.Machine
end

section
namespace Sys2Proof.Machine

section
variable {s : State} {p : List Byte} {i : Fin 4} {g : Grant} {c : Challenge} {age : Nat}

/-! ## CLOSE GRANT (R123) -/

theorem bodyCloseGrant_outside (h : 4 ≤ fieldAt p 1 1) : bodyCloseGrant p s = s.answer (.invalidAt 1) := by
  rw [bodyCloseGrant, finOf_eq_none.2 h]

theorem bodyCloseGrant_free (hi : fieldAt p 1 1 = i.val) (h : s.grants.slots[i] = .free) :
    bodyCloseGrant p s = s.answer (.plain .notOpen) := by
  simp only [bodyCloseGrant, finOf_eq_some.2 hi, h, Slot.grant?]

/-- R123: the owner's tool id is compared before the slot is ended. -/
theorem bodyCloseGrant_taken (hi : fieldAt p 1 1 = i.val) (h : (s.grants.slots[i]).grant? = some g) :
    bodyCloseGrant p s =
      if g.toolId = BitVec.ofNat 32 (fieldAt p 2 4) then (s.endSlot i .closed).answer (.plain .ok)
      else s.answer (.plain .notOwner) := by
  simp only [bodyCloseGrant, finOf_eq_some.2 hi, h, State.answer]

/-- Settles O41: the three refusals in their order, and the end of the slot by its state. -/
theorem closeGrantCommand : Obligations.CloseGrantCommand := by
  intro p s hm hl
  refine ⟨fun outside => reports_of hm hl rfl (bodyCloseGrant_outside outside), fun i hi =>
    ⟨fun free => reports_of hm hl rfl (bodyCloseGrant_free hi free), fun g hg => ⟨fun other => ?_, fun owner => ?_⟩⟩⟩
  · exact reports_of hm hl rfl ((bodyCloseGrant_taken hi hg).trans (if_neg other))
  · have closed : exec .closeGrant s = .next ((s.endSlot i .closed).completeCommand (.plain .ok)) :=
      congrArg Host.Outcome.next ((State.runCommand_of_message bodyCloseGrant hm hl).trans
        (congrArg State.finish ((bodyCloseGrant_taken hi hg).trans (if_pos owner))))
    refine ⟨fun c age h => ?_, fun tally at_ h => ?_⟩
    · rw [closed, State.endSlot, h]
      rfl
    · rw [closed, State.endSlot, h]
      rfl

/-! ## PROVE GRANT (R114, R115) -/

/-- The proof that the engine works on, as it starts on a slot (R114, R115). -/
def State.proofOf (s : State) (p : List Byte) (i : Fin 4) (g : Grant) (c : Challenge) : ProofInFlight where
  slot := i
  challenge := c
  received := bytesAt p 2 16
  key := s.store.held.keyBytes g.level
  message := proofMessage s.store.held.serialBytes i g c

theorem bodyProveGrant_outside (h : 4 ≤ fieldAt p 1 1) : bodyProveGrant p s = s.answer (.invalidAt 1) := by
  rw [bodyProveGrant, finOf_eq_none.2 h]

theorem bodyProveGrant_not_challenged (hi : fieldAt p 1 1 = i.val)
    (h : ∀ g c age, s.grants.slots[i] ≠ .challenged g c age) :
    bodyProveGrant p s = s.answer (.plain .notChallenged) := by
  cases slot : s.grants.slots[i] with
  | challenged g c age => exact absurd slot (h g c age)
  | free => simp only [bodyProveGrant, finOf_eq_some.2 hi, slot]
  | opened g tally at_ => simp only [bodyProveGrant, finOf_eq_some.2 hi, slot]

theorem bodyProveGrant_challenged (hi : fieldAt p 1 1 = i.val) (h : s.grants.slots[i] = .challenged g c age) :
    bodyProveGrant p s =
      ({ s with engine := some (s.proofOf p i g c), link := { s.link with execution := some .proving } }, none) := by
  simp only [bodyProveGrant, finOf_eq_some.2 hi, h, State.startProof, State.proofOf]

/-- Section 6.5: the 31 bytes of the proof message by their layout. -/
theorem proofMessage_eq (serial : List Byte) (i : Fin 4) (g : Grant) (c : Challenge) :
    proofMessage serial i g c = serial ++ Layout.bytes
      [(4, c.counter.toNat), (4, c.clock.toNat), (1, i.val), (4, g.toolId.toNat), (1, Layout.levelCode g.level),
       (1, g.rights.toNat), (2, g.scope.toNat), (2, g.lifetime), (1, Layout.flag g.allowance.isSome),
       (2, g.allowance.getD 0), (1, Layout.flag g.survive)] := by
  simp [proofMessage, Challenge.bytes, allowanceBytes, Layout.bytes_cons, Layout.bytes_nil, toLe_one, Layout.level_eq,
    Layout.flagByte_eq]

theorem Items.keyBytes_of_some {m : Items} {l : Level} {k : List Byte} (h : m.keys[Level.index l] = some k) :
    m.keyBytes l = k := by
  rw [Items.keyBytes, h]
  rfl

/-! ## The result of a proof (R115 to R118) -/

section
variable {e : ProofInFlight}

theorem State.settleProof_discarded (h : ∀ g age, s.grants.slots[e.slot] ≠ .challenged g e.challenge age) :
    s.settleProof e = (s, .notChallenged) := by
  unfold State.settleProof
  split
  · rename_i g c age eq
    refine if_neg ?_
    rintro rfl
    exact h g age eq
  · rfl

theorem State.settleProof_challenged (h : s.grants.slots[e.slot] = .challenged g e.challenge age) :
    s.settleProof e =
      if e.expected = e.received then (s.openSlot e.slot g, .ok) else (s.refuseProof e.slot g, .badProof) := by
  simp only [State.settleProof, h, if_true, ProofInFlight.isMatch, beq_iff_eq]

@[simp] theorem State.clearFailed_link (s : State) : s.clearFailed.link = s.link := by
  unfold State.clearFailed
  split <;> rfl

theorem State.openSlot_link (i : Fin 4) (g : Grant) (s : State) : (s.openSlot i g).link = s.link := by
  simp [State.openSlot]

theorem State.refuseProof_link (i : Fin 4) (g : Grant) (s : State) : (s.refuseProof i g).link = s.link := by
  simp [State.refuseProof, State.countFailure]

/-- R140: the PROVE GRANT that waits for the result completes with its status, where the result leaves the link. -/
theorem exec_proofResult {r : State × Status} (he : s.engine = some e) (waits : s.link.execution = some .proving)
    (settled : State.settleProof e { s with engine := none } = r) (link : r.1.link = s.link) :
    exec .proofResult s = .next (r.1.completeCommand (.plain r.2)) := by
  have taken : s.takeResult e = r.1.completeCommand (.plain r.2) := by
    simp only [State.takeResult, settled, link, waits, if_true]
  rw [← taken]
  simp only [exec, execProofResult, he]

/-- R118: the backoff after a failed proof, which is never the first of none. -/
theorem backoffFor_min_succ (n : Nat) : backoffFor (min (n + 1) 255) = min (2 ^ (min (n + 1) 255 - 1)) 1024 := by
  rw [backoffFor, if_neg (by omega)]
  rfl

/-- R118: the failed proof is counted with its backoff. -/
theorem State.countFailure_eq (s : State) : s.countFailure =
    State.queueItem (.failedCount (BitVec.ofNat 8 (min (s.grants.failed + 1) 255)))
      { s with grants := { s.grants with
          failed := min (s.grants.failed + 1) 255
          backoff := min (2 ^ (min (s.grants.failed + 1) 255 - 1)) 1024 } } := by
  rw [State.countFailure, backoffFor_min_succ]

/-- Settles O40: the refusals of PROVE GRANT and the start of the engine; and its result, by the slot and the proof. -/
theorem proofsAreSettled : Obligations.ProofsAreSettled := by
  refine ⟨fun p s hm hl => ⟨fun outside => reports_of hm hl rfl (bodyProveGrant_outside outside), fun i hi =>
    ⟨fun other => reports_of hm hl rfl (bodyProveGrant_not_challenged hi other), fun g c age h => ?_⟩⟩,
    fun e s he waits => ?_⟩
  · refine ⟨s.proofOf p i g c, ?_, rfl, rfl, rfl, proofMessage_eq .., fun k hk => Items.keyBytes_of_some hk⟩
    exact congrArg Host.Outcome.next ((State.runCommand_of_message bodyProveGrant hm hl).trans
      (congrArg State.finish (bodyProveGrant_challenged hi h)))
  · intro idle answered
    refine ⟨fun other => exec_proofResult he waits (State.settleProof_discarded other) rfl, fun g age h =>
      ⟨fun matches_ => ?_, fun differs => ?_⟩⟩
    · intro opened cleared
      exact exec_proofResult he waits ((State.settleProof_challenged (s := idle) h).trans (if_pos matches_))
        (State.openSlot_link e.slot g idle)
    · intro n freed counted
      have refused := exec_proofResult he waits ((State.settleProof_challenged (s := idle) h).trans (if_neg differs))
        (State.refuseProof_link e.slot g idle)
      have same : (idle.freeSlot e.slot).countFailure = counted := State.countFailure_eq freed
      simp only [State.refuseProof, same] at refused
      exact refused

end
end
end Sys2Proof.Machine
end

section
namespace Sys2Proof.Machine

section
variable {s : State} {p : List Byte} {i : Fin 4} {a : Answer}

/-! ## REQUEST GRANT (R108 to R111) -/

theorem State.provisioned_iff : s.provisioned = true ↔ s.store.held.provisionedMark = some true := decide_eq_true_iff

theorem exec_requestGrant_refused (hm : s.Message 0x10 p) (hl : p.length = 13) (h : s.requestCheck p = .error a) :
    exec .requestGrant s = .next (s.completeCommand a) :=
  reports_of hm hl rfl (by rw [bodyRequestGrant, h])

theorem exec_requestGrant_taken (hm : s.Message 0x10 p) (hl : p.length = 13) (h : s.requestCheck p = .ok i) :
    exec .requestGrant s = .next ((s.acceptRequest i (readRequest p).trim).completeCommand
      (acceptedAnswer i (readRequest p).trim s.grants.nextChallenge)) :=
  congrArg Host.Outcome.next ((State.runCommand_of_message bodyRequestGrant hm hl).trans (by
    rw [bodyRequestGrant, h]
    rfl))

/-- R109: the check of the fields, on a provisioned part. -/
theorem State.requestCheck_fields {o : Nat} (provisioned : s.provisioned = true)
    (bad : firstBad (checkRequest p) = some o) : s.requestCheck p = .error (.invalidAt o) := by
  simp only [State.requestCheck, provisioned, bad, reduceCtorEq, if_false]

/-- R109: the checks after that of the fields. -/
theorem State.requestCheck_good (provisioned : s.provisioned = true) (good : firstBad (checkRequest p) = none) :
    s.requestCheck p =
      if s.decision.lockdown = true ∧ (readRequest p).level ≠ .three then .error (.plain .locked)
      else if 0 < s.grants.backoff then .error { status := .wait, payload := toLe 2 s.grants.backoff }
      else s.grants.freeSlot?.elim (.error (.plain .full)) .ok := by
  simp only [State.requestCheck, provisioned, good, reduceCtorEq, if_false]
  cases s.grants.freeSlot? <;> rfl

theorem GrantTable.freeSlot?_eq_some {t : GrantTable} :
    t.freeSlot? = some i ↔ t.slots[i] = .free ∧ ∀ j : Fin 4, j < i → t.slots[j] ≠ .free := by
  simp [GrantTable.freeSlot?, find_slotOrder_eq_some]

theorem GrantTable.freeSlot?_eq_none {t : GrantTable} : t.freeSlot? = none ↔ ∀ i : Fin 4, t.slots[i] ≠ .free := by
  simp only [GrantTable.freeSlot?, find_slotOrder_eq_none, beq_eq_false_iff_ne]

/-- R108: the level of a request in range is 3 where its field is. -/
theorem level_readRequest_eq_three (h : 1 ≤ fieldAt p 5 1 ∧ fieldAt p 5 1 ≤ 3) :
    (readRequest p).level = .three ↔ fieldAt p 5 1 = 3 := by
  have code : Layout.levelCode (readRequest p).level = fieldAt p 5 1 := Level.levelCode_ofByteCode h .one
  rw [← code]
  cases (readRequest p).level <;> simp [Layout.levelCode]

/-- R111, section 6.5: the reply to a request that is taken. -/
theorem acceptedAnswer_eq (i : Fin 4) (g : Grant) (c : Challenge) : acceptedAnswer i g c =
    { status := .ok
      payload := Layout.bytes
        [(1, i.val), (4, c.counter.toNat), (4, c.clock.toNat), (1, g.rights.toNat), (2, g.lifetime)] } := by
  simp [acceptedAnswer, Challenge.bytes, Layout.bytes_cons, Layout.bytes_nil, toLe_one]

/-- Settles O39: the five checks in their order, and the request that passes them all. -/
theorem requestGrantCommand : Obligations.RequestGrantCommand := by
  intro p s hm hl refused ranges
  have examined : Examines (checkRequest p) ranges := checkRequest_examines p
  refine ⟨fun mark => ?_, fun mark => ⟨fun before after offset inRange e holds bad => ?_, fun holds => ?_⟩⟩
  · refine exec_requestGrant_refused hm hl (if_pos ?_)
    simpa using mt State.provisioned_iff.1 mark
  · have provisioned := State.provisioned_iff.2 mark
    rw [e] at examined
    exact exec_requestGrant_refused hm hl
      (State.requestCheck_fields provisioned (examined.firstBad_eq_some holds bad))
  · have checked := State.requestCheck_good (State.provisioned_iff.2 mark) (examined.firstBad_eq_none.2 holds)
    have range := holds
    simp only [ranges, List.forall_mem_cons] at range
    obtain ⟨-, level, -, ⟨-, scope⟩, -, survive, -⟩ := range
    have three := level_readRequest_eq_three level
    refine ⟨fun locked low => exec_requestGrant_refused hm hl (checked.trans (if_pos ⟨locked, mt three.1 low⟩)),
      fun allowed => ?_⟩
    have passes : ¬ (s.decision.lockdown = true ∧ (readRequest p).level ≠ .three) := fun ⟨locked, low⟩ =>
      allowed.elim (fun normal => by simp [normal] at locked) fun high => low (three.2 high)
    rw [if_neg passes] at checked
    refine ⟨fun waits => ?_, fun ready => ?_⟩
    · rw [← toLe_eq_number]
      exact exec_requestGrant_refused hm hl (checked.trans (if_pos waits))
    rw [if_neg (by omega)] at checked
    refine ⟨fun full => ?_, fun i free lowest => ?_⟩
    · rw [GrantTable.freeSlot?_eq_none.2 full] at checked
      exact exec_requestGrant_refused hm hl checked
    · rw [GrantTable.freeSlot?_eq_some.2 ⟨free, lowest⟩] at checked
      refine ⟨(readRequest p).trim, toNat_toolId, Level.levelCode_ofByteCode level .one, ?_, toNat_scope scope, ?_, rfl,
        flag_decide survive, ?_⟩
      · cases h : (readRequest p).level <;> simp [Grant.trim, h, maxRights] <;> rfl
      · cases h : (readRequest p).level <;> simp [Grant.trim, h, maxLifetime] <;> rfl
      · rw [exec_requestGrant_taken hm hl checked, acceptedAnswer_eq]
        rfl

end
end Sys2Proof.Machine
end

section
namespace Sys2Proof.Machine

section
variable {l : Link} {fr : Framing} {m : MessageBuffer} {x : Transmission} {waiting : List ReplyFrame}

/-! ## One guard-clock period at the link (R133, R137) -/

theorem Link.period_still (fr : Framing) (receiving : l.receiver ≠ .receiving) (replying : l.receiver ≠ .replying) :
    l.period fr = l := by
  unfold Link.period
  split
  · rename_i e _
    exact absurd e receiving
  · rename_i e
    exact absurd e replying
  · rfl

theorem Link.period_receiving (fr : Framing) (h : l.receiver = .receiving) (hb : l.buffer = some m) :
    l.period fr =
      if 640000 ≤ m.gap + 1 ∧ l.line.busy = false then { l with receiver := .listening, buffer := none }
      else { l with buffer := some { m with gap := m.gap + 1 } } := by
  simp only [Link.period, h, hb, Link.gapTimeout, Link.discard, Config.gapPeriods, true_and]
  by_cases limit : 640000 ≤ m.gap + 1
  · simp only [limit, if_true, true_and]
  · simp only [limit, if_false, false_and]

theorem Link.period_replying (fr : Framing) (h : l.receiver = .replying) : l.period fr = l.transmit fr := by
  simp only [Link.period, h]

/-- R133, R141: what the boundary before a frame of a reply, or after its last one, is. -/
theorem Link.nextFrame_of_reply (fr : Framing) (h : l.receiver = .replying)
    (hr : l.reply = some { transmission := x, waiting := waiting }) :
    (l.offDue = true → l.nextFrame fr = { l with receiver := .off, reply := none, offDue := false }) ∧
      (l.offDue = false → waiting = [] → l.nextFrame fr = { l with receiver := .listening, reply := none }) ∧
      ∀ (f : ReplyFrame) (rest : List ReplyFrame), l.offDue = false → waiting = f :: rest →
        l.nextFrame fr =
          { l with line := .watching, reply := some { transmission := .sending f fr 0, waiting := rest } } := by
  unfold Link.nextFrame
  refine ⟨fun due => ?_, fun stays last => ?_, fun f rest stays more => ?_⟩
  · rw [if_pos due, Link.goOff, h]
    rfl
  · subst last
    simp only [stays, hr, Bool.false_eq_true, if_false]
  · subst more
    simp only [stays, hr, Bool.false_eq_true, if_false]

theorem Link.transmit_lead {left : Nat} (fr : Framing)
    (hr : l.reply = some { transmission := .lead left, waiting := waiting }) :
    l.transmit fr = if left ≤ 1 then l.nextFrame fr
      else { l with reply := some { transmission := .lead (left - 1), waiting := waiting } } := by
  rw [Link.transmit, hr]

theorem Link.transmit_sending {f : ReplyFrame} {fr0 : Framing} {elapsed : Nat} (fr : Framing)
    (hr : l.reply = some { transmission := .sending f fr0 elapsed, waiting := waiting }) :
    l.transmit fr = if f.periods fr0 ≤ elapsed + 1 then l.nextFrame fr
      else { l with reply := some { transmission := .sending f fr0 (elapsed + 1), waiting := waiting } } := by
  rw [Link.transmit, hr]

end

theorem step_idle {s : State} (h : s.pending = []) : step s = .next s.period := by rw [step, h]

/-- Settles O2: the period at each block, and at the link by the state of its receiver and its transmitter. -/
theorem idleStepIsOneGuardClockPeriod : Obligations.IdleStepIsOneGuardClockPeriod := by
  intro s idle
  refine ⟨s.period, step_idle idle, rfl, rfl, rfl, rfl, Link.period_still _, fun m receiving buffer => ?_, ?_⟩
  · have link : s.period.link = _ := Link.period_receiving _ receiving buffer
    rw [link]
    refine ⟨fun goes => if_neg fun ⟨limit, rest⟩ => ?_, fun limit rest => if_pos ⟨limit, rest⟩⟩
    rcases goes with below | busy
    · omega
    · exact nomatch busy.symm.trans rest
  · intro framing x waiting replying reply goes boundary
    have link : s.period.link = s.link.transmit framing := Link.period_replying _ replying
    have ended (h : s.period.link = s.link.nextFrame framing) : boundary := by
      dsimp only [boundary]
      rw [h]
      exact Link.nextFrame_of_reply framing replying reply
    refine ⟨fun left hx => ?_, fun f fr elapsed hx => ?_⟩
    · subst hx
      have sent := link.trans (Link.transmit_lead framing reply)
      split
      · exact ended (sent.trans (if_pos ‹_›))
      · exact sent.trans (if_neg ‹_›)
    · subst hx
      have sent := link.trans (Link.transmit_sending framing reply)
      split
      · exact ended (sent.trans (if_pos ‹_›))
      · exact sent.trans (if_neg ‹_›)

end Sys2Proof.Machine
end

section
namespace Sys2Proof.Machine

/-! ## A message and its effect (R139) -/

/-- A command whose message waits, with the effect and the answer that its block gives. -/
theorem exec_of_message {s t : State} {p : List Byte} {c : Instr} {code : Byte} {size : Nat} {body : Body}
    {a : Answer} (m : s.Message code p) (len : p.length = size)
    (run : exec c s = .next (s.runCommand code size body)) (does : body p s = (t, some a)) :
    exec c s = .next (t.completeCommand a) := by
  rw [run, State.runCommand_of_message body m len, does]
  rfl

/-! ## The release of the log (R160, R163) -/

section
variable {s : State} {p : List Byte} {i : Fin 4} {g : Grant} {count : Nat}

/-- R154: a record of a kind that does not coalesce, at a list with room for one more. -/
theorem Log.take_of_room {l : Log} {r : Report} (now : Quad) (kind : r.kind.coalesces = false)
    (room : l.records.length < 64) :
    l.take now r = if 0xFFFFFFFF < l.nextSeq then l.discard else l.append now r l.records := by
  have own : l.coalescesWith r = false := by
    unfold Log.coalescesWith
    cases l.records.getLast? <;> simp [kind]
  by_cases full : 0xFFFFFFFF < l.nextSeq
  · simp [Log.take, Log.caseOf, own, Log.exhausted, full]
  · simp [Log.take, Log.caseOf, own, Log.exhausted, full, Config.logCapacity, room]

/-- R163: the mark copy and the store after a release. -/
theorem State.markAfterRelease_eq (emptied : Bool) (s : State) : s.markAfterRelease emptied =
    { s with
      log := { s.log with markCopy := s.log.markCopy && !emptied }
      store := if emptied && s.log.markCopy then s.store.queueItem (.logMark false) else s.store } := by
  by_cases clears : emptied = true ∧ s.log.markCopy = true
  · obtain ⟨rfl, mark⟩ := clears
    simp [State.markAfterRelease, State.queueItem, mark]
  · have copy : (s.log.markCopy && !emptied) = s.log.markCopy := by cases emptied <;> simp_all
    have queues : ¬ (emptied && s.log.markCopy) = true := by simpa using clears
    rw [State.markAfterRelease, if_neg clears, copy, if_neg queues]

/-- R160: everything that a release can write. -/
theorem State.releaseLog_rest (i : Fin 4) (g : Grant) (count : Nat) (s : State) : s.releaseLog i g count =
    { s with
      log := (s.releaseLog i g count).log, out := (s.releaseLog i g count).out
      store := (s.releaseLog i g count).store } := by
  rw [State.releaseLog, State.markAfterRelease_eq, State.takeRecord_eq]

/-- R160, R163: the log after a release is that of the LOG-RELEASED record at the records left, the mark copy apart. -/
theorem State.releaseLog_log (i : Fin 4) (g : Grant) (count : Nat) (s : State) :
    let k := min count s.log.records.length
    (s.releaseLog i g count).log =
      { (s.log.release k).take s.time.seconds (releasedReport i g k) with
        markCopy := s.log.markCopy && !(s.log.records.drop k).isEmpty } := by
  intro k
  rw [State.releaseLog, State.markAfterRelease_eq, State.takeRecord_log]
  simp [releasedReport, Log.release, k]

/-- R163: the store after a release. -/
theorem State.releaseLog_store (i : Fin 4) (g : Grant) (count : Nat) (s : State) :
    (s.releaseLog i g count).store =
      if (s.log.records.drop (min count s.log.records.length)).isEmpty && s.log.markCopy then
        s.store.queueItem (.logMark false)
      else s.store := by
  rw [State.releaseLog, State.markAfterRelease_eq, State.takeRecord_store, State.takeRecord_log]
  simp [releasedReport, Log.release]

/-- R158: the output unit has been told the alarm indication that the release leaves. -/
theorem State.releaseLog_alarmMirror (i : Fin 4) (g : Grant) (count : Nat) (s : State) :
    (s.releaseLog i g count).out.alarmMirror = (s.releaseLog i g count).log.alarm := by
  rw [State.releaseLog, State.markAfterRelease_eq]
  simp only [State.takeRecord_out]
  rw [OutputUnit.reportAlarm_eq]

/-- R160: a release of at least one record makes room for its own. -/
theorem Log.release_room {l : Log} (h : 1 ≤ count) (full : l.records.length ≤ 64) :
    (l.release (min count l.records.length)).records.length < 64 := by
  simp only [Log.release, List.length_drop]
  omega

/-- R151: the alarm indication of a list, by the severity codes. -/
theorem any_alarm_iff (l : List LogRecord) : (l.any fun r => r.severity == .alarm) = true ↔
    ∃ x ∈ l, (Layout.kindCode x.report.kind).2 = 3 := by
  have code (x : LogRecord) : x.severity = .alarm ↔ (Layout.kindCode x.report.kind).2 = 3 := by
    rw [← Layout.severity_eq, LogRecord.severity]
    cases x.report.kind.severity <;> simp [Severity.byteCode]
  simp [code]

/-- R158: the LOG-RELEASED record, a NOTE, leaves the alarm indication to the records left. -/
theorem Log.take_released_alarm (l : Log) (now : Quad) (k : Nat) (room : (l.release k).records.length < 64) :
    ((l.release k).take now (releasedReport i g k)).alarm = (l.records.drop k).any fun r => r.severity == .alarm := by
  rw [Log.take_of_room now rfl room]
  split
  · rfl
  · have note (m : Log) : ((m.stamp now (releasedReport i g k)).severity == Severity.alarm) = false := rfl
    simp [Log.append, Log.release, note]

end

/-- Settles O56: the refusals, and the release as its record at the records left. -/
theorem releaseLogCommand : Obligations.ReleaseLogCommand := by
  intro p i g s m len acting
  refine ⟨fun right => ?_, fun right outside => ?_, fun right low high full => ?_⟩
  · exact reports_of m len rfl (by simp only [bodyReleaseLog, acting, right, if_true]; rfl)
  · have bad : ¬ (1 ≤ fieldAt p 6 1 ∧ fieldAt p 6 1 ≤ 64) := by omega
    exact reports_of m len rfl (by
      simp only [bodyReleaseLog, acting, right, bad, reduceCtorEq, if_false]
      rfl)
  · intro k left
    have room := Log.release_room low full
    have log := s.releaseLog_log i g (fieldAt p 6 1)
    have store := s.releaseLog_store i g (fieldAt p 6 1)
    have rest := s.releaseLog_rest i g (fieldAt p 6 1)
    refine ⟨(s.releaseLog i g (fieldAt p 6 1)).completeCommand { status := .ok, payload := [BitVec.ofNat 8 k] },
      ?_, ?_, ?_, fun more => ?_, fun exhausted => ?_, ?_, s.releaseLog_alarmMirror i g _,
      fun none_ => ?_, fun some_ => ?_⟩
    · have does : bodyReleaseLog p s =
          (s.releaseLog i g (fieldAt p 6 1), some { status := .ok, payload := [BitVec.ofNat 8 k] }) := by
        simp only [bodyReleaseLog, acting, right, low, high, and_self, reduceCtorEq, if_false, if_true, k]
      exact exec_of_message m len rfl does
    · rw [rest]
      rfl
    · rw [rest]
      rfl
    · have goes : ¬ 0xFFFFFFFF < (s.log.release k).nextSeq := by simpa [Log.release] using more
      simp only [State.completeCommand_log, log]
      rw [Log.take_of_room _ rfl room, if_neg goes]
      exact ⟨rfl, rfl, rfl⟩
    · have stops : 0xFFFFFFFF < (s.log.release k).nextSeq := exhausted
      simp only [State.completeCommand_log, log]
      rw [Log.take_of_room _ rfl room, if_pos stops]
      exact ⟨rfl, rfl, rfl⟩
    · simp only [State.completeCommand_log, log, Log.take_released_alarm _ _ _ room]
      exact any_alarm_iff left
    · have empty : (s.log.records.drop (min (fieldAt p 6 1) s.log.records.length)).isEmpty = true := by
        simpa [left, k] using none_
      simp only [State.completeCommand_log, State.completeCommand_store, log, store, empty]
      simp
    · have kept : (s.log.records.drop (min (fieldAt p 6 1) s.log.records.length)).isEmpty = false :=
        List.isEmpty_eq_false_iff.2 some_
      simp only [State.completeCommand_log, State.completeCommand_store, log, store, kept]
      simp

end Sys2Proof.Machine
end

section
namespace Sys2Proof.Machine

/-! ## The other events of the link (R132, R133, R137, R141) -/

section
variable {l : Link} {fr : Framing} {rose low : Bool}

/-- R132: no frame begins while the link is OFF or the part sends, or within a frame. -/
theorem Link.startBit_none (fall : LineFall) (h : l.receiver = .off ∨ l.sending = true ∨ l.line.busy = true) :
    l.startBit fall fr = l := by
  unfold Link.startBit
  split
  · rfl
  · rename_i on
    obtain ⟨fr', inFrame⟩ : ∃ fr', l.line = .inFrame fr' := by
      have busy : l.line.busy = true := by tauto
      cases line : l.line with
      | inFrame fr' => exact ⟨fr', rfl⟩
      | _ => rw [line] at busy; exact nomatch busy
    rw [inFrame]

/-- R132: a fall that the receiver of the line watches for is a start bit or noise. -/
theorem Link.startBit_watching (on : l.receiver ≠ .off) (rests : l.sending = false) (h : l.line = .watching) :
    l.startBit { rose := rose, low := low } fr =
      { l with line := if low then .inFrame fr else .watching } := by
  simp [Link.startBit, on, rests, h]

/-- R132: after a FRAMING-ERROR it is a start bit only once the line has been high. -/
theorem Link.startBit_waitingHigh (on : l.receiver ≠ .off) (rests : l.sending = false) (h : l.line = .waitingHigh) :
    l.startBit { rose := rose, low := low } fr =
      { l with line := if low = false then .watching else if rose then .inFrame fr else .waitingHigh } := by
  cases low <;> simp [Link.startBit, on, rests, h]

theorem Link.off_due (due : l.offDue = true) (rest : l.line.busy = false) : l.off = l.goOff := by
  rw [Link.off, rest, if_neg Bool.false_ne_true, Link.boundary_of_due due]

theorem Link.off_none (h : l.offDue = false ∨ l.line.busy = true) : l.off = l := by
  unfold Link.off
  split
  · rfl
  · rename_i rest
    exact Link.boundary_of_not_due (h.resolve_right rest)

/-- R141: the end of a reply is a frame boundary of a link that listens again. -/
theorem Link.replyEnd_replying (h : l.receiver = .replying) :
    l.replyEnd = Link.boundary { l with receiver := .listening, line := .watching, reply := none } := if_pos h

end

/-- A row whose meaning is about the link alone, by what it makes of the link. -/
theorem exec_of_link {c : Instr} {f : Link → Link} {l : Link} {s : State}
    (run : exec c s = .next { s with link := f s.link }) (h : f s.link = l) :
    exec c s = .next { s with link := l } := by
  rw [run, h]

/-- Settles O48: each event in its turn and out of it. -/
theorem linkEvents : Obligations.LinkEvents := by
  intro s l framing becomes
  refine ⟨fun rose low on rests => ⟨fun watching => ?_, fun waiting => ?_⟩, fun fall none => ?_, ?_,
    fun due rest => ?_, fun none => ?_, fun other => ?_, fun replying stays => ?_, fun replying due => ?_⟩
  · exact exec_of_link (f := Link.startBit _ framing) rfl (Link.startBit_watching on rests watching)
  · exact exec_of_link (f := Link.startBit _ framing) rfl (Link.startBit_waitingHigh on rests waiting)
  · exact exec_of_link (f := Link.startBit _ framing) rfl (Link.startBit_none fall none)
  · have run : exec .gapTimeout s = .next { s with link := s.link.gapTimeout } := rfl
    rw [run, Link.gapTimeout]
    split <;> rfl
  · exact exec_of_link (f := Link.off) rfl (Link.off_due due rest)
  · exact exec_of_link (f := Link.off) rfl (Link.off_none none)
  · exact exec_of_link (f := Link.replyEnd) rfl (if_neg other)
  · exact exec_of_link (f := Link.replyEnd) rfl
      ((Link.replyEnd_replying replying).trans (Link.boundary_of_not_due stays))
  · exact exec_of_link (f := Link.replyEnd) rfl
      ((Link.replyEnd_replying replying).trans (Link.boundary_of_due due))

end Sys2Proof.Machine
end

section
namespace Sys2Proof.Machine

/-! ## The command rows (R139, section 6.5) -/

/-- The commands that an executing block takes: their code, and the length of their payload. -/
def commandRows : List (Instr × Byte × Nat) :=
  [(.identify, 0x01, 0), (.status, 0x02, 0), (.requestGrant, 0x10, 13), (.proveGrant, 0x11, 17),
   (.closeGrant, 0x12, 5), (.listGrants, 0x13, 0), (.readLog, 0x20, 1), (.releaseLog, 0x21, 6), (.readCell, 0x28, 1),
   (.readTable, 0x30, 2), (.stageWindow, 0x31, 23), (.stageCell, 0x32, 17), (.stageSettings, 0x33, 19),
   (.applyStaged, 0x34, 5), (.discardStaged, 0x35, 5), (.resetEcu, 0x40, 5), (.unlock, 0x41, 5),
   (.provisionKey, 0x50, 33), (.provisionIdentity, 0x51, 9), (.finishProvisioning, 0x52, 0)]

/-- The command runs the checks of R139 with a code and a payload length, then a block's own work. -/
def RunsCommand (row : Instr × Byte × Nat) : Prop :=
  ∃ body : Body, ∀ s : State, exec row.1 s = .next (s.runCommand row.2.1 row.2.2 body)

theorem commandRows_run : ∀ row ∈ commandRows, RunsCommand row := by
  have run {c : Instr} {code : Byte} {size : Nat} (body : Body)
      (h : ∀ s, exec c s = .next (s.runCommand code size body)) : RunsCommand (c, code, size) := ⟨body, h⟩
  simp only [commandRows, List.forall_mem_cons]
  exact ⟨run bodyIdentify fun _ => rfl, run bodyStatus fun _ => rfl, run bodyRequestGrant fun _ => rfl,
    run bodyProveGrant fun _ => rfl, run bodyCloseGrant fun _ => rfl, run bodyListGrants fun _ => rfl,
    run bodyReadLog fun _ => rfl, run bodyReleaseLog fun _ => rfl, run bodyReadCell fun _ => rfl,
    run bodyReadTable fun _ => rfl, run bodyStageWindow fun _ => rfl, run bodyStageCell fun _ => rfl,
    run bodyStageSettings fun _ => rfl, run State.applyStaged fun _ => rfl, run bodyDiscardStaged fun _ => rfl,
    run bodyResetEcu fun _ => rfl, run bodyUnlock fun _ => rfl, run bodyProvisionKey fun _ => rfl,
    run bodyProvisionIdentity fun _ => rfl, run bodyFinishProvisioning fun _ => rfl, List.forall_mem_nil _⟩

theorem commandCodes_eq : commandCodes = commandRows.map fun row => row.2.1 := rfl

section
variable {s : State} {m : MessageBuffer} {row : Instr × Byte × Nat} {b : Byte}

/-- R139: a wrong check is answered before anything else is examined. -/
theorem RunsCommand.checkError (h : RunsCommand row) (hm : s.message = some m) (code : m.command = some row.2.1)
    (wrong : m.sumIsZero = false) : exec row.1 s = .next (s.completeCommand (.plain .checkError)) := by
  obtain ⟨body, run⟩ := h
  simp [run, State.runCommand, hm, code, wrong]

/-- R139, R142: then the length of the payload. -/
theorem RunsCommand.wrongLength (h : RunsCommand row) (hm : s.message = some m) (code : m.command = some row.2.1)
    (right : m.sumIsZero = true) (wrong : m.payload.length ≠ row.2.2) :
    exec row.1 s = .next (s.completeCommand (.invalidAt 0)) := by
  obtain ⟨body, run⟩ := h
  simp [run, State.runCommand, hm, code, right, wrong]

/-- R139: a byte that no command has. -/
theorem exec_unknown (hm : s.message = some m) (code : m.command = some b)
    (none : ∀ row ∈ commandRows, row.2.1 ≠ b) : exec .unknown s =
      .next (s.completeCommand { status := if m.sumIsZero then .unknown else .checkError, payload := [] }) := by
  have undefined : b ∉ commandCodes := by
    simpa only [commandCodes_eq, List.mem_map, not_exists, not_and] using none
  have run : exec .unknown s = execUnknown s := rfl
  cases check : m.sumIsZero <;> simp [run, execUnknown, hm, code, undefined, check, Answer.plain]

end

/-! ## Sums and fields of bytes (R136, R149) -/

theorem sumBytes_eq_sum (l : List Byte) : sumBytes l = l.sum := List.sum_eq_foldl.symm

theorem sumIsZero_iff (m : MessageBuffer) : m.sumIsZero = true ↔
    sumBytes (BitVec.ofNat 8 (m.length.getD 0) :: m.command.getD 0 :: m.payload ++ [m.check.getD 0]) = 0 := by
  simp [MessageBuffer.sumIsZero, sumBytes_eq_sum, add_assoc]

theorem State.message_eq_some {s : State} {m : MessageBuffer} :
    s.message = some m ↔ s.link.execution = some .handOver ∧ s.link.buffer = some m := by
  simp [State.message]

/-- R149: a number is sent least significant byte first. -/
theorem fieldAt_succ {offset : Nat} (p : List Byte) (size : Nat) (h : 1 ≤ offset) :
    fieldAt p offset (size + 1) = (p.getD (offset - 1) 0).toNat + 256 * fieldAt p (offset + 1) size := by
  obtain ⟨k, rfl⟩ := Nat.exists_eq_add_of_le' h
  simp only [fieldAt, bytesAt, Nat.add_sub_cancel]
  rcases Nat.lt_or_ge k p.length with inside | outside
  · rw [List.drop_eq_getElem_cons inside, List.take_succ_cons, leNat, List.getD_eq_getElem _ _ inside]
  · rw [List.drop_of_length_le outside, List.drop_of_length_le (by omega), List.getD_eq_default _ _ outside]
    simp [leNat]

/-- Settles O49: the two checks of every command row, the messages that are no command's, the sum and the fields. -/
theorem messagesRefusedByTheLink : Obligations.MessagesRefusedByTheLink := by
  refine ⟨fun m s => ⟨fun hm => ⟨fun row hrow code => ⟨fun wrong => ?_, fun right wrong => ?_⟩,
    fun b code none => ?_⟩, fun b received => ?_⟩, sumIsZero_iff, fun m s => State.message_eq_some,
    fun p offset size first => ⟨rfl, rfl, fieldAt_succ p size first⟩⟩
  · exact (commandRows_run row hrow).checkError hm code wrong
  · exact (commandRows_run row hrow).wrongLength hm code right wrong
  · exact exec_unknown hm code none
  · have run : exec .lengthError s = execLengthError s := rfl
    rw [run, execLengthError, received]

end Sys2Proof.Machine
end

section
namespace Sys2Proof.Machine

/-! ## The completion of a command (R133, R140, R141) -/

section
variable {l : Link} {m : MessageBuffer}

/-- R140, R141: addressed as NODE, the reply's first frame begins two bit times later. -/
theorem Link.complete_node (divisor : Nat) (a : Answer) (on : l.receiver ≠ .off) (hb : l.buffer = some m)
    (node : m.addressedAs = .node) : l.complete divisor a =
      { l with
        receiver := .replying, buffer := none, execution := none
        reply := some
          { transmission := .lead (2 * bitTime divisor), waiting := replyFrames (m.command.getD 0) a } } := by
  simp [Link.complete, on, hb, node]

/-- R140: addressed as ALL there is no reply. -/
theorem Link.complete_all (divisor : Nat) (a : Answer) (on : l.receiver ≠ .off) (hb : l.buffer = some m)
    (all : m.addressedAs = .all) : l.complete divisor a =
      { l with receiver := .listening, buffer := none, execution := none, reply := none } := by
  simp [Link.complete, on, hb, all]

/-- R133: a link gone OFF sends none and stays OFF. -/
theorem Link.complete_of_off (divisor : Nat) (a : Answer) (off : l.receiver = .off) : l.complete divisor a =
    { l with receiver := .off, buffer := none, execution := none, reply := none } := by
  simp [Link.complete, off]

end

/-! ## The bytes of a reply (R141) -/

/-- R141: the check makes the bytes of a reply sum to 0. -/
theorem sum_replyBytes (command : Byte) (a : Answer) : sumBytes (replyBytes command a) = 0 := by
  simp only [replyBytes, sumBytes_eq_sum, List.sum_append, List.sum_singleton]
  exact add_sub_cancel _ _

theorem Status.mem_byteCodes (st : Status) : (st, st.byteCode) ∈
    ([(.ok, 0x00), (.busy, 0x01), (.wait, 0x02), (.full, 0x03), (.denied, 0x04), (.notOpen, 0x05), (.notOwner, 0x06),
      (.notChallenged, 0x07), (.badProof, 0x08), (.invalid, 0x09), (.locked, 0x0A), (.notProvisioned, 0x0B),
      (.alreadyProvisioned, 0x0C), (.checkError, 0x0D), (.lengthError, 0x0E), (.unknown, 0x0F)] :
      List (Status × Byte)) := by
  cases st <;> decide

/-! ## The levels of a frame sent (R131, R133) -/

section
variable {f : ReplyFrame} {fr : Framing} {elapsed k : Nat} {waiting : List ReplyFrame} {l : Link}

theorem ReplyFrame.parityBits_none (f : ReplyFrame) : f.parityBits .none = [] := rfl

/-- R131: with the parity bit the number of high bits is even or odd as the mode says. -/
theorem ReplyFrame.parityBits_some (f : ReplyFrame) {mode : ParityMode} (h : mode ≠ .none) :
    ∃ p : Bool, f.parityBits mode = [p] ∧
      (highBits { data := f.data, mark := f.mark, parity := p, stop1 := true, stop2 := true } % 2 = 0 ↔
        mode = .even) := by
  have agrees (p : Bool) : highBits { data := f.data, mark := f.mark, parity := p, stop1 := true, stop2 := true } =
      countHigh f.data 8 + f.mark.toNat + p.toNat := rfl
  simp only [agrees]
  cases mode with
  | none => exact absurd rfl h
  | even =>
    refine ⟨_, rfl, iff_of_true ?_ rfl⟩
    rcases Nat.mod_two_eq_zero_or_one (countHigh f.data 8 + f.mark.toNat) with high | high <;>
      simp [Nat.add_mod, high]
  | odd =>
    refine ⟨_, rfl, iff_of_false ?_ nofun⟩
    rcases Nat.mod_two_eq_zero_or_one (countHigh f.data 8 + f.mark.toNat) with high | high <;>
      simp [Nat.add_mod, high]

/-- R131: a bit time has passed for each bit before the one that is driven. -/
theorem Link.drives_sending (hr : l.reply = some { transmission := .sending f fr elapsed, waiting := waiting })
    (from_ : 16 * fr.divisor * k ≤ elapsed) (to_ : elapsed < 16 * fr.divisor * (k + 1)) :
    l.drives = (f.bits fr)[k]? := by
  have bit : elapsed / bitTime fr.divisor = k :=
    Nat.div_eq_of_lt_le (by rwa [Nat.mul_comm]) (by rwa [Nat.mul_comm])
  rw [Link.drives, hr, ← bit]

/-- R133: outside a frame the line is left to others. -/
theorem Link.drives_none (h : l.sending = false) : l.drives = none := by
  unfold Link.drives
  split
  · rename_i sends
    rw [Link.sending, sends] at h
    exact nomatch h
  · rfl

end

/-- Settles O50: the three completions, the bytes and the frames of a reply, and the line while one is sent. -/
theorem commandsComplete : Obligations.CommandsComplete := by
  refine ⟨fun a m s hb => ?_, fun command a => ⟨sum_replyBytes command a, _, rfl⟩, Status.mem_byteCodes,
    fun fr f => ⟨f.parityBits fr.parityMode, ?_, fun none => ?_, f.parityBits_some⟩,
    fun l => ⟨Link.drives_none, fun f fr elapsed k waiting hr from_ to_ inside => ?_⟩⟩
  · intro t
    have link : t.link = s.link.complete s.table.settings.divisor a := rfl
    have lead : 2 * bitTime s.table.settings.divisor = 32 * s.table.settings.divisor := by
      rw [bitTime]
      omega
    refine ⟨rfl, rfl, rfl, fun on node => ?_, fun on all => ?_, fun off => ?_⟩
    · rw [link, Link.complete_node _ a on hb node, lead]
      exact ⟨rfl, rfl⟩
    · rw [link, Link.complete_all _ a on hb all]
      exact ⟨rfl, rfl⟩
    · rw [link, Link.complete_of_off _ a off]
      exact ⟨rfl, rfl⟩
  · cases stop : fr.stopBits <;> simp [ReplyFrame.bits, StopBits.levels, stop, List.range_succ]
  · rw [none, ReplyFrame.parityBits_none]
  · have driven := Link.drives_sending hr from_ to_
    exact ⟨driven, by rw [driven, List.getElem?_eq_getElem inside]; rfl⟩

end Sys2Proof.Machine
end

section
namespace Sys2Proof.Machine

/-! ## The provisioning commands (R148, R192, R193) -/

section
variable {s : State} {p : List Byte} {body : Body}

theorem ifUnprovisioned_provisioned (mark : s.store.held.provisionedMark = some true) :
    ifUnprovisioned body p s = s.answer (.plain .alreadyProvisioned) := if_pos (State.provisioned_iff.2 mark)

theorem ifUnprovisioned_open (mark : s.store.held.provisionedMark ≠ some true) :
    ifUnprovisioned body p s = body p s := if_neg (mt State.provisioned_iff.1 mark)

theorem Level.ofByteCode_eq_none {n : Nat} (h : n = 0 ∨ 3 < n) : Level.ofByteCode n = none := by
  rw [← Option.not_isSome_iff_eq_none, Level.isSome_ofByteCode]
  omega

theorem Level.ofByteCode_levelCode (l : Level) : Level.ofByteCode (Layout.levelCode l) = some l := by cases l <;> rfl

/-- R192: the ranges that PROVISION IDENTITY examines, the serial first (log entry 34). -/
theorem provisionIdentity_examines (p : List Byte) :
    Examines [(1, bytesAt p 1 8 != zeros 8), (9, decide (1 ≤ fieldAt p 9 1 ∧ fieldAt p 9 1 ≤ 254))]
      [(1, bytesAt p 1 8 ≠ zeros 8), (9, 1 ≤ fieldAt p 9 1 ∧ fieldAt p 9 1 ≤ 254)] :=
  .cons bne_iff_ne (.cons decide_eq_true_iff .nil)

theorem bodyProvisionIdentity_bad {offset : Nat} (mark : s.store.held.provisionedMark ≠ some true)
    (bad : firstBad [(1, bytesAt p 1 8 != zeros 8), (9, decide (1 ≤ fieldAt p 9 1 ∧ fieldAt p 9 1 ≤ 254))] =
      some offset) : bodyProvisionIdentity p s = s.answer (.invalidAt offset) := by
  rw [bodyProvisionIdentity, ifUnprovisioned_open mark, bad]

/-- R148: a missing key is the one of the lowest level without one. -/
theorem Items.missingKey_eq_some {m : Items} {l : Level} (missing : m.keys[Level.index l] = none)
    (lower : ∀ k : Level, Layout.levelCode k < Layout.levelCode l → m.keys[Level.index k] ≠ none) :
    m.missingKey = some l := by
  have held (k : Level) (below : Layout.levelCode k < Layout.levelCode l) :
      (m.keys[Level.index k]).isNone = false := by simpa [Option.isSome_iff_ne_none] using lower k below
  have none_ : (m.keys[Level.index l]).isNone = true := by simpa using missing
  unfold Items.missingKey
  cases l with
  | one => simp only [List.find?, none_]
  | two => simp only [List.find?, held .one (by decide), none_]
  | three => simp only [List.find?, held .one (by decide), held .two (by decide), none_]

theorem Items.missingKey_eq_none {m : Items} (held : ∀ l : Level, m.keys[Level.index l] ≠ none) :
    m.missingKey = none := by
  simpa [Items.missingKey] using ⟨held .one, held .two, held .three⟩

end

/-- Settles O60: the provisioned part, and each command with its refusals in order and its effect. -/
theorem provisioningCommands : Obligations.ProvisioningCommands := by
  intro p s answers rows
  refine ⟨fun row hrow m len mark => ?_, fun m len mark => ⟨fun outside => ?_, fun l level => ?_⟩,
    fun m len mark => ⟨fun zero => ?_, fun serial outside => ?_, fun serial low high => ?_⟩,
    fun m len mark => ⟨fun l missing lower => ?_, fun held => ?_⟩⟩
  · simp only [rows, List.mem_cons, List.not_mem_nil, or_false] at hrow
    rcases hrow with rfl | rfl | rfl
    · exact reports_of m len rfl (ifUnprovisioned_provisioned mark)
    · exact reports_of m len rfl (ifUnprovisioned_provisioned mark)
    · exact reports_of m len rfl (ifUnprovisioned_provisioned mark)
  · have bad : bodyProvisionKey p s = s.answer (.invalidAt 1) := by
      rw [bodyProvisionKey, ifUnprovisioned_open mark, Level.ofByteCode_eq_none outside]
    exact reports_of m len rfl bad
  · have does : bodyProvisionKey p s = (s.queueItem (.key l (bytesAt p 2 32)), some (.plain .ok)) := by
      rw [bodyProvisionKey, ifUnprovisioned_open mark, level, Level.ofByteCode_levelCode]
    exact exec_of_message m len rfl does
  · have bad := (provisionIdentity_examines p).firstBad_eq_some (before := []) (by simp) (not_not.2 zero)
    exact reports_of m len rfl (bodyProvisionIdentity_bad mark bad)
  · have bad := (provisionIdentity_examines p).firstBad_eq_some (before := [_]) (by simpa using serial) (by omega)
    exact reports_of m len rfl (bodyProvisionIdentity_bad mark bad)
  · have good := (provisionIdentity_examines p).firstBad_eq_none.2 (by simp [serial, low, high])
    have does : bodyProvisionIdentity p s =
        (s.setIdentity (bytesAt p 1 8) (BitVec.ofNat 8 (fieldAt p 9 1)), some (.plain .ok)) := by
      rw [bodyProvisionIdentity, ifUnprovisioned_open mark, good]
    exact exec_of_message m len rfl does
  · have bad : bodyFinishProvisioning p s = s.answer (.invalidAt (Layout.levelCode l)) := by
      rw [bodyFinishProvisioning, ifUnprovisioned_open mark, Items.missingKey_eq_some missing lower,
        ← Layout.level_eq]
    exact reports_of m len rfl bad
  · have does : bodyFinishProvisioning p s = (s.queueItem (.provisionedMark true), some (.plain .ok)) := by
      rw [bodyFinishProvisioning, ifUnprovisioned_open mark, Items.missingKey_eq_none held]
    exact exec_of_message m len rfl does

end Sys2Proof.Machine
end

section
namespace Sys2Proof.Machine

section
variable {l : Log} {r : Report} {front : List LogRecord} {n : LogRecord} {now : Quad}

/-! ## The lowest severity of a list (R151, R156) -/

theorem Severity.byteCode_inj {a b : Severity} (h : a.byteCode = b.byteCode) : a = b := by
  cases a <;> cases b <;> simp_all [Severity.byteCode]

theorem lowestSeverity_le {records : List LogRecord} {x : LogRecord} (h : x ∈ records) :
    (lowestSeverity records).byteCode ≤ x.severity.byteCode := by
  induction records with
  | nil => exact nomatch h
  | cons y rest ih =>
    rw [lowestSeverity]
    rcases List.mem_cons.1 h with rfl | h
    · split
      · exact le_rfl
      · omega
    · split
      · exact le_trans ‹_› (ih h)
      · exact ih h

/-- The lowest severity of a list that holds a record is that of one of them. -/
theorem exists_lowestSeverity {records : List LogRecord} (h : records ≠ []) :
    ∃ x ∈ records, x.severity = lowestSeverity records := by
  induction records with
  | nil => exact absurd rfl h
  | cons y rest ih =>
    rw [lowestSeverity]
    split
    · exact ⟨y, by simp, rfl⟩
    · rename_i above
      have more : rest ≠ [] := by
        rintro rfl
        cases hy : y.severity <;> simp [hy, lowestSeverity, Severity.byteCode] at above
      obtain ⟨x, hx, e⟩ := ih more
      exact ⟨x, by simp [hx], e⟩

theorem lowestSeverity_eq {records : List LogRecord} {old : LogRecord} (h : old ∈ records)
    (least : ∀ x ∈ records, old.severity.byteCode ≤ x.severity.byteCode) :
    lowestSeverity records = old.severity := by
  obtain ⟨x, hx, e⟩ := exists_lowestSeverity (List.ne_nil_of_mem h)
  exact Severity.byteCode_inj (le_antisymm (lowestSeverity_le h) (e ▸ least x hx))

/-- R156: the record removed is the first of its severity. -/
theorem removeOldest_eq {before after : List LogRecord} {old : LogRecord}
    (first : ∀ x ∈ before, x.severity ≠ old.severity) :
    removeOldest old.severity (before ++ old :: after) = before ++ after := by
  have none_ : ∀ x ∈ before, ¬ (x.severity == old.severity) = true := by simpa using first
  rw [removeOldest, List.eraseP_append_right _ none_, List.eraseP_cons_of_pos (by simp)]

theorem removeOldest_sublist (sv : Severity) (records : List LogRecord) : (removeOldest sv records).Sublist records :=
  List.eraseP_sublist

/-- R156: a list that holds a record loses one. -/
theorem length_removeOldest {records : List LogRecord} (h : records ≠ []) :
    (removeOldest (lowestSeverity records) records).length = records.length - 1 := by
  obtain ⟨x, hx, e⟩ := exists_lowestSeverity h
  exact List.length_eraseP_of_mem hx (by simp [e])

/-! ## Which case a record is (R154) -/

/-- R154 case 1. -/
theorem Log.coalescesWith_iff : l.coalescesWith r = true ↔ ∃ front n, l.records = front ++ [n] ∧
    r.kind.coalesces = true ∧ n.report.kind = r.kind ∧ (r.kind = .parityError ∨ n.report.key = r.key) := by
  unfold Log.coalescesWith
  rcases List.eq_nil_or_concat' l.records with empty | ⟨front, n, newest⟩
  · simp [empty]
  · simp [newest, and_assoc]

theorem Log.caseOf_eq_coalesced : l.caseOf r = .coalesced ↔ l.coalescesWith r = true := by
  unfold Log.caseOf
  split
  · simp [*]
  · split_ifs <;> simp [*]

/-- R153: a record is appended only while there is a number to give it. -/
theorem Log.nextSeq_le_of_appended (h : l.caseOf r = .appended) : l.nextSeq ≤ 4294967295 := by
  unfold Log.caseOf at h
  split at h
  · exact nomatch h
  · split at h
    · exact nomatch h
    · rename_i more
      simpa [Log.exhausted] using more

section
variable (other : l.coalescesWith r = false)
include other

/-- R154 case 2. -/
theorem Log.caseOf_exhausted (h : 4294967295 < l.nextSeq) : l.caseOf r = .discarded := by
  simp [Log.caseOf, other, Log.exhausted, h]

/-- R154 case 3. -/
theorem Log.caseOf_room (more : l.nextSeq ≤ 4294967295) (h : l.records.length < 64) : l.caseOf r = .appended := by
  simp [Log.caseOf, other, Log.exhausted, Nat.not_lt.2 more, Config.logCapacity, h]

/-- R154 case 4, R156. -/
theorem Log.caseOf_full (more : l.nextSeq ≤ 4294967295) (h : l.records.length = 64) : l.caseOf r =
    if (lowestSeverity l.records).byteCode ≤ r.kind.severity.byteCode then .appended else .discarded := by
  simp [Log.caseOf, other, Log.exhausted, Nat.not_lt.2 more, Config.logCapacity, h]

end

/-! ## The log after each case (R155 to R157) -/

@[simp] theorem LogRecord.coalesce_sequence (now : Quad) (r : Report) (n : LogRecord) :
    (n.coalesce now r).sequence = n.sequence := rfl

@[simp] theorem LogRecord.coalesce_severity (now : Quad) (r : Report) (n : LogRecord) :
    (n.coalesce now r).severity = n.severity := rfl

theorem Log.take_coalesced (h : l.caseOf r = .coalesced) (newest : l.records = front ++ [n]) :
    l.take now r = { l with records := front ++ [n.coalesce now r] } := by
  simp [Log.take, h, newest]

theorem Log.take_discarded (h : l.caseOf r = .discarded) : l.take now r = l.discard := by simp [Log.take, h]

theorem Log.take_appended (h : l.caseOf r = .appended) : l.take now r =
    l.append now r
      (if l.records.length < 64 then l.records else removeOldest (lowestSeverity l.records) l.records) := by
  simp only [Log.take, h, Config.logCapacity]
  exact (apply_ite (Log.append now r · l) _ _ _).symm

end
end Sys2Proof.Machine
end

section
namespace Sys2Proof.Machine

/-! ## The law of the log (R150 to R158) -/

section
variable {l : Log}

/-- R155: the record merged keeps its number and its kind, one that coalesces. -/
theorem Log.Law.coalesced {front : List LogRecord} {n : LogRecord} (h : l.Law) (newest : l.records = front ++ [n])
    (kind : n.report.kind.coalesces = true) (now : Quad) (r : Report) :
    Log.Law { l with records := front ++ [n.coalesce now r] } := by
  obtain ⟨length, order, fields, first, last, dropped, alarm⟩ := h
  rw [newest] at length order fields alarm
  obtain ⟨low, below, -⟩ := fields n (by simp)
  refine ⟨by simpa using length, ?_, fun x hx => ?_, first, last, dropped, by simpa using alarm⟩
  · simpa [List.pairwise_append] using order
  · rcases List.mem_append.1 hx with old | new
    · exact fields x (List.mem_append_left _ old)
    · obtain rfl := List.mem_singleton.1 new
      exact ⟨low, below, by simp [LogRecord.coalesce], Nat.min_le_right ..,
        fun e => absurd (kind.symm.trans e) (by decide)⟩

/-- R157: the dropped tally saturates. -/
theorem Log.Law.discard (h : l.Law) : l.discard.Law := by
  obtain ⟨length, order, fields, first, last, -, alarm⟩ := h
  exact ⟨length, order, fields, first, last, Nat.min_le_right .., alarm⟩

/-- R153: a record appended to what is left of the list takes a number above all in it. -/
theorem Log.Law.append {base : List LogRecord} (h : l.Law) (left : base.Sublist l.records) (room : base.length < 64)
    (more : l.nextSeq ≤ 4294967295) (now : Quad) (r : Report) : (l.append now r base).Law := by
  obtain ⟨-, order, fields, first, -, dropped, -⟩ := h
  refine ⟨by simpa [Log.append] using room, ?_, fun x hx => ?_, Nat.le_add_left .., Nat.add_le_add_right more 1,
    dropped, rfl⟩
  · refine List.pairwise_append.2 ⟨order.sublist left, List.pairwise_singleton .., fun a ha b hb => ?_⟩
    obtain rfl := List.mem_singleton.1 hb
    obtain ⟨-, below, -⟩ := fields a (left.subset ha)
    exact below
  · rcases List.mem_append.1 hx with old | new
    · obtain ⟨low, below, repeats⟩ := fields x (left.subset old)
      exact ⟨low, Nat.lt_succ_of_lt below, repeats⟩
    · obtain rfl := List.mem_singleton.1 new
      exact ⟨first, Nat.lt_succ_self _, le_rfl, by simp [Log.stamp], fun _ => rfl⟩

/-- R160: the records left by a release. -/
theorem Log.Law.release (h : l.Law) (count : Nat) : (l.release count).Law := by
  obtain ⟨length, order, fields, first, last, dropped, -⟩ := h
  have left := List.drop_sublist count l.records
  exact ⟨left.length_le.trans length, order.sublist left, fun x hx => fields x (left.subset hx), first, last, dropped,
    rfl⟩

/-- R154: each case that a record can be keeps the law. -/
theorem Log.Law.take (h : l.Law) (now : Quad) (r : Report) : (l.take now r).Law := by
  cases e : l.caseOf r with
  | coalesced =>
    obtain ⟨front, n, newest, kind, same, -⟩ := Log.coalescesWith_iff.1 (Log.caseOf_eq_coalesced.1 e)
    rw [Log.take_coalesced e newest]
    exact h.coalesced newest (same ▸ kind) now r
  | discarded =>
    rw [Log.take_discarded e]
    exact h.discard
  | appended =>
    have more := Log.nextSeq_le_of_appended e
    rw [Log.take_appended e]
    split
    · exact h.append (List.Sublist.refl _) ‹_› more now r
    · rename_i full
      have nonempty : l.records ≠ [] := fun empty => full (by simp [empty])
      refine h.append (removeOldest_sublist ..) ?_ more now r
      rw [length_removeOldest nonempty]
      have length := h.1
      omega

end

/-! ## The law of the write queue (R191) -/

section
variable {st : Store}

/-- R191: a write that joins the queue brings no second entry of its item. -/
theorem nodup_enqueueItem {q : List ItemWrite} (h : (q.map ItemWrite.item).Nodup) (w : ItemWrite) :
    ((enqueueItem w q).map ItemWrite.item).Nodup := by
  by_cases queued : ∃ x ∈ q, x.item = w.item
  · have items : (q.map fun x => if x.item = w.item then w else x).map ItemWrite.item = q.map ItemWrite.item := by
      rw [List.map_map]
      refine List.map_congr_left fun x _ => ?_
      by_cases same : x.item = w.item <;> simp [same]
    rw [enqueueItem, if_pos (by simpa using queued), items]
    exact h
  · have new : ∀ x ∈ q, x.item ≠ w.item := fun x hx e => queued ⟨x, hx, e⟩
    rw [enqueueItem_new new, List.map_append]
    refine List.nodup_append.2 ⟨h, List.nodup_singleton _, ?_⟩
    simpa using new

/-- R191: a write queued while none is in flight starts at once. -/
theorem Store.Law.queueItem (h : st.Law) (w : ItemWrite) : (st.queueItem w).Law := by
  obtain ⟨distinct, waits⟩ := h
  by_cases idle : st.inFlight = none
  · simp [Store.Law, Store.queueItem, enqueueItem, Store.startNext, idle, waits idle]
  · rw [Store.queueItem_busy idle]
    exact ⟨nodup_enqueueItem distinct w, fun e => absurd e idle⟩

/-- R43: the items of an apply are queued one after another. -/
theorem Store.Law.queueItems (h : st.Law) (ws : List ItemWrite) : (ws.foldl (fun q w => q.queueItem w) st).Law := by
  induction ws generalizing st with
  | nil => exact h
  | cons w rest ih => exact ih (h.queueItem w)

/-- R191: as a write completes the oldest entry starts, where one waits. -/
theorem Store.Law.complete (h : st.Law) : st.complete.Law := by
  cases flight : st.inFlight with
  | none =>
    rw [Store.complete, flight]
    exact h
  | some w =>
    rw [Store.complete_eq flight]
    refine ⟨h.1.sublist ((List.tail_sublist _).map _), fun idle => ?_⟩
    rw [List.head?_eq_none_iff.1 idle]
    rfl

end
end Sys2Proof.Machine
end

section
namespace Sys2Proof.Machine

/-! ## What keeps the law of the log and that of the write queue -/

/-- The log and the write queue meet their laws. -/
structure State.RecordLaws (s : State) : Prop where
  log : s.log.Law
  store : s.store.Law

section
variable {s t : State} {n : Fin 8}

namespace State.RecordLaws

/-- Each operation of a walk keeps the laws. -/
theorem forSlots {f : Fin 4 → State → State} (hf : ∀ i (s : State), s.RecordLaws → (f i s).RecordLaws)
    (h : s.RecordLaws) : (Machine.forSlots f s).RecordLaws := forSlots_induct State.RecordLaws f hf s h

theorem forCells {f : Fin 8 → State → State} (hf : ∀ n (s : State), s.RecordLaws → (f n s).RecordLaws)
    (h : s.RecordLaws) : (Machine.forCells f s).RecordLaws := forCells_induct State.RecordLaws f hf s h

variable (h : s.RecordLaws)
include h

/-! ### The operations that write to the log or to the store, and those that do not -/

/-- An operation that leaves the log and the store. -/
theorem aside (log : t.log = s.log) (store : t.store = s.store) : t.RecordLaws := by
  obtain ⟨logLaw, storeLaw⟩ := h
  rw [← log] at logLaw
  rw [← store] at storeLaw
  exact ⟨logLaw, storeLaw⟩

theorem ite {c : Prop} [Decidable c] (k : t.RecordLaws) : (if c then t else s).RecordLaws := by
  split
  · exact k
  · exact h

theorem queueItem (w : ItemWrite) : (s.queueItem w).RecordLaws := ⟨h.log, h.store.queueItem w⟩

theorem takeRecord (r : Report) : (s.takeRecord r).RecordLaws where
  log := by
    rw [State.takeRecord_log]
    exact h.log.take s.time.seconds r
  store := by
    rw [State.takeRecord_store]
    split
    · exact h.store.queueItem _
    · exact h.store

theorem releaseLog (i : Fin 4) (g : Grant) (count : Nat) : (s.releaseLog i g count).RecordLaws where
  log := by
    rw [State.releaseLog_log]
    exact (h.log.release _).take s.time.seconds _
  store := by
    rw [State.releaseLog_store]
    split
    · exact h.store.queueItem _
    · exact h.store

/-! ### Slots, charges, the score and lockdown (R55, R64 to R70, R122, R125) -/

theorem alertCause : s.alertCause.RecordLaws := h.aside rfl rfl

theorem resetRequestCause : s.resetRequestCause.RecordLaws := h.aside rfl rfl

theorem setSlot (i : Fin 4) (x : Slot) : (s.setSlot i x).RecordLaws := h.aside rfl rfl

theorem forgetCharge (i : Fin 4) : (s.forgetCharge i).RecordLaws := h.aside rfl rfl

theorem reportSlot (i : Fin 4) : (s.reportSlot i).RecordLaws := h.aside rfl rfl

theorem freeSlot (i : Fin 4) : (s.freeSlot i).RecordLaws := ((h.setSlot i .free).forgetCharge i).reportSlot i

theorem closeSlot (i : Fin 4) (reason : Reason) : (s.closeSlot i reason).RecordLaws := by
  unfold State.closeSlot
  split
  · exact (((h.setSlot i .free).takeRecord _).forgetCharge i).reportSlot i
  · exact h

theorem endSlot (i : Fin 4) (reason : Reason) : (s.endSlot i reason).RecordLaws := by
  unfold State.endSlot
  split
  · exact h
  · exact h.freeSlot i
  · exact h.closeSlot i reason

theorem charge (i : Fin 4) : (s.charge i).RecordLaws := by
  unfold State.charge
  split
  · exact (h.setSlot i _).ite ((h.setSlot i _).closeSlot i _)
  · exact h

theorem chargeOpt (c : Option (Fin 4)) : (s.chargeOpt c).RecordLaws := by
  cases c with
  | none => exact h
  | some i => exact h.charge i

theorem lockdownSlot (i : Fin 4) : (s.lockdownSlot i).RecordLaws := h.ite (h.endSlot i .lockdown)

theorem enterLockdown (cause : Reason) : (s.enterLockdown cause).RecordLaws := by
  have marked : s.lockdownMarked.RecordLaws := ⟨h.log, h.store.queueItem (.lockdownMark true)⟩
  have freed := marked.forSlots fun i s (h : s.RecordLaws) => h.lockdownSlot i
  rw [State.enterLockdown_eq]
  exact (freed.takeRecord _).alertCause.resetRequestCause

theorem scoreIncrement (k : Nat) (cause : Reason) : (s.scoreIncrement k cause).RecordLaws := by
  have raised : ((s.raised k).alertCheck s.decision.score).RecordLaws :=
    h.aside (by simp [State.raised]) (by simp [State.raised])
  rw [State.scoreIncrement_eq]
  exact raised.ite (raised.enterLockdown cause)

/-- The record, the increment and the alert cause of a refusal or a regression. -/
theorem violation (r : Report) (k : Nat) (cause : Reason) :
    (((s.takeRecord r).scoreIncrement k cause).alertCause).RecordLaws :=
  ((h.takeRecord r).scoreIncrement k cause).alertCause

theorem endLockdown (i : Fin 4) (g : Grant) : (s.endLockdown i g).RecordLaws := by
  have unlocked : s.unlocked.RecordLaws := ⟨h.log, h.store.queueItem (.lockdownMark false)⟩
  rw [State.endLockdown_eq]
  exact unlocked.takeRecord _

/-! ### Evaluations (R76 to R80) -/

theorem modifyLive (n : Fin 8) (f : LiveState → LiveState) : (s.modifyLive n f).RecordLaws := h.aside rfl rfl

theorem startInternal (d : CellDef) (dir : Direction) (v : Nat) (op : Operation) :
    (s.startInternal n d dir v op).RecordLaws := h.aside rfl rfl

theorem startWrite (d : CellDef) (o : Origin) (v : Nat) (isSet : Bool) : (s.startWrite n d o v isSet).RecordLaws :=
  h.aside (by simp) (by simp)

theorem judgeByMode (d : CellDef) (o : Origin) (p : Nat) (v : LiveState) : (s.judgeByMode n d o p v).RecordLaws := by
  unfold State.judgeByMode
  split
  · exact h
  · split
    · exact h.violation _ _ _
    · split
      · exact h.startWrite ..
      · unfold State.rateRise
        split
        · exact (h.modifyLive n _).startWrite ..
        · have spent := h.modifyLive n fun x => { x with credit := x.credit - v.credit / 65536 * 65536 }
          have clamped := (spent.takeRecord
            (cellReport .counterClamped n none d.address p (some (v.shadow + v.credit / 65536)))).alertCause
          exact clamped.ite (clamped.startWrite ..)

theorem evaluate (n : Fin 8) (o : Origin) (p : Nat) : (s.evaluate n o p).RecordLaws := by
  unfold State.evaluate
  split
  · have bare := h.modifyLive n fun x => { x with half := none }
    exact (bare.judgeByMode ..).ite (((bare.chargeOpt _).takeRecord _).startWrite ..)
  · exact h

theorem evaluatePending (n : Fin 8) (o : Origin) : (s.evaluatePending n o).RecordLaws := by
  unfold State.evaluatePending
  split
  · exact h
  · split
    · exact h
    · exact h.evaluate ..

/-! ### Floors, ticks and the tearing of halves (R75, R90 to R92) -/

theorem settleFloor (n : Fin 8) : (s.settleFloor n).RecordLaws := by
  unfold State.settleFloor
  split
  · exact h
  · have settled := h.modifyLive n fun x => { x with floor := x.shadow, due := false }
    exact (settled.queueItem _).ite settled

theorem settle (n : Fin 8) : (s.settle n).RecordLaws := by
  have evaluated := h.evaluatePending n .ignition
  unfold State.settle
  split
  · exact h
  · exact h.ite ((evaluated.settleFloor n).ite evaluated)

theorem tickCell (n : Fin 8) : (s.tickCell n).RecordLaws := by
  have aged : ((s.accrueCell n).ageCell n).RecordLaws := h.aside (by simp) (by simp)
  have repaired : ((((s.accrueCell n).ageCell n).repairCell n).retryCell n).RecordLaws :=
    h.aside (by simp) (by simp)
  exact repaired.ite (aged.evaluatePending n .hold)

theorem tickGuard : s.tickGuard.RecordLaws := by
  have taken : (s.withTime s.time.takeGuardTick).RecordLaws := h.aside rfl rfl
  exact taken.forCells fun n s (h : s.RecordLaws) => h.tickCell n

theorem ignitionOffGuard : s.ignitionOffGuard.RecordLaws := by
  have taken : State.RecordLaws { s with ignition := { s.ignition with guardOffs := s.ignition.guardOffs - 1 } } :=
    h.aside rfl rfl
  have marked := taken.forCells (f := State.markDue) fun n s (h : s.RecordLaws) => h.modifyLive n _
  unfold State.ignitionOffGuard
  split
  · exact h
  · exact marked.forCells fun n s (h : s.RecordLaws) => h.settle n

theorem tearHalf (n : Fin 8) (d : CellDef) (reason : Reason) : (s.tearHalf n d reason).RecordLaws := by
  unfold State.tearHalf
  split
  · exact h
  · split
    · exact h
    · exact (h.modifyLive n _).takeRecord _

theorem tearForReset (n : Fin 8) : (s.tearForReset n).RecordLaws := by
  unfold State.tearForReset
  split
  · exact h
  · exact h.tearHalf ..

/-! ### Cycles at the processor port (R1 to R6, R47 to R63, R81 to R85) -/

theorem completeCycle (data : Option Word) : (s.completeCycle data).RecordLaws := h.aside (by simp) (by simp)

theorem keepRead (n : Fin 8) : (s.keepRead n).RecordLaws := h.aside (by simp) (by simp)

theorem releaseReads : s.releaseReads.RecordLaws := h.aside (by simp) (by simp)

theorem denyCycle (c : Cycle) (d : DecisionRecord) : (s.denyCycle c d).RecordLaws := by
  have completed := h.completeCycle (unservedData (some c.kind))
  rw [State.denyCycle, State.denial_eq]
  split
  · exact completed.violation _ _ _
  · exact (completed.takeRecord _).scoreIncrement _ _

theorem finishWrite (n : Fin 8) : (s.finishWrite n).RecordLaws := (h.completeCycle none).ite h

theorem setPending (n : Fin 8) (x : Half) (v : Word) : (s.setPending n x v).RecordLaws :=
  (h.modifyLive n _).completeCycle none

theorem takeHalf (n : Fin 8) (x : Half) (value : Word) (v : LiveState) : (s.takeHalf n x value v).RecordLaws := by
  unfold State.takeHalf
  split
  · exact h.setPending ..
  · exact ((h.evaluate ..).finishWrite n).ite (h.setPending ..)

theorem takeWrite (n : Fin 8) : (s.takeWrite n).RecordLaws := by
  unfold State.takeWrite
  split
  · exact h
  · split
    · split
      · exact (h.evaluate ..).finishWrite n
      · exact h.takeHalf ..
    · exact h.completeCycle none

theorem counterWrite (n : Fin 8) (c : Cycle) : (s.counterWrite n c).RecordLaws := by
  unfold State.counterWrite
  split
  · exact (h.violation _ _ _).completeCycle none
  · exact (h.takeWrite n).ite (h.aside rfl rfl)

theorem counterRead (n : Fin 8) (c : Cycle) (w : MatchedWindow) : (s.counterRead n c w).RecordLaws := by
  unfold State.counterRead
  split
  · exact h.completeCycle _
  · exact h.aside rfl rfl

theorem carryOut (c : Cycle) (d : DecisionRecord) : (s.carryOut c d).RecordLaws := by
  have charged : (s.chargePass c d).RecordLaws := h.ite (h.chargeOpt _)
  unfold State.carryOut
  split
  · exact charged.aside rfl rfl
  · exact h.denyCycle c d
  · exact h.denyCycle c d
  · exact h.aside rfl rfl
  · split
    · exact h
    · exact (h.counterRead ..).ite (h.counterWrite ..)

theorem takeCycle (l : CycleLines) : (s.takeCycle l).RecordLaws := by
  have failed (reason : Reason) : (s.parityFailure reason l).RecordLaws :=
    ((h.takeRecord _).alertCause).completeCycle _
  have decided (c : Cycle) : ((s.activate c).decideCycle c).RecordLaws := by
    have chosen : State.RecordLaws { s.activate c with
        decision := { s.decision with record := some ((s.activate c).decisionOf c) } } := h.aside rfl rfl
    exact chosen.carryOut ..
  unfold State.takeCycle
  split
  · exact failed _
  · split
    · exact failed _
    · exact h.completeCycle _
    · exact decided _

theorem takePresented : s.takePresented.RecordLaws := by
  have taken : State.RecordLaws { s with port := { s.port with presented := none } } := h.aside rfl rfl
  unfold State.takePresented
  split
  · exact h
  · exact taken.takeCycle _

theorem presentCycle (l : CycleLines) : (s.presentCycle l).RecordLaws := by
  unfold State.presentCycle
  split
  · exact h.takeCycle l
  · exact h.aside rfl rfl
  · exact h.aside rfl rfl
  · exact h

theorem leaveResetHeld : s.leaveResetHeld.RecordLaws := by
  have idle : State.RecordLaws { s with port := { s.port with state := .idle } } := h.aside rfl rfl
  exact h.ite idle.takePresented

theorem judgeFill (timedOut : Bool) (word : Word) : (s.judgeFill timedOut word).RecordLaws := by
  unfold State.judgeFill
  split
  · rename_i c d _ _
    have judged : State.RecordLaws
        { s with decision := { s.decision with record := some { d with fill := some .judged } } } := h.aside rfl rfl
    have written (r : Request) : (State.enqueueProcessor r
        { s with decision := { s.decision with record := some { d with fill := some .judged } } }).RecordLaws :=
      judged.aside rfl rfl
    simp only []
    split
    · exact judged.completeCycle none
    · split
      · exact written _
      · exact (judged.denyCycle c _).ite ((written _).chargeOpt _)
  · exact h

/-! ### The ends of operations (R80, R82, R88 to R101) -/

theorem takeWaiting (n : Fin 8) : (s.takeWaiting n).RecordLaws := by
  have left : State.RecordLaws { s with guard := { s.guard with waitingWrite := none } } := h.aside rfl rfl
  exact h.ite (left.takeWrite n)

theorem scanReadEnd (n : Fin 8) (d : CellDef) (r : TransferResult) : (s.scanReadEnd n d r).RecordLaws := by
  have live (v : LiveState) : (s.becomeLive n v).RecordLaws := h.aside rfl rfl
  unfold State.scanReadEnd
  simp only []
  split
  · exact live _
  · split
    · exact live _
    · exact ((live _).violation _ _ _).startInternal ..

theorem newReadEnd (n : Fin 8) (d : CellDef) (r : TransferResult) : (s.newReadEnd n d r).RecordLaws := by
  have live (v : LiveState) : (s.becomeLive n v).RecordLaws := h.aside rfl rfl
  unfold State.newReadEnd
  split
  · exact h.aside rfl rfl
  · exact (live _).queueItem _

theorem evaluationEnd (n : Fin 8) (v : Nat) (isSet : Bool) (r : TransferResult) :
    (s.evaluationEnd n v isSet r).RecordLaws := by
  have ended : (s.setOp n none).RecordLaws := h.aside rfl rfl
  unfold State.evaluationEnd
  simp only []
  split
  · exact ended
  · split
    · exact ended.modifyLive n _
    · exact (ended.modifyLive n _).ite ((ended.modifyLive n _).queueItem _)

theorem afterOp (n : Fin 8) : (s.afterOp n).RecordLaws := (h.takeWaiting n).settle n

theorem opEnd (n : Fin 8) (r : TransferResult) : (s.opEnd n r).RecordLaws := by
  have cleared : (s.clearOp n).RecordLaws := h.aside rfl rfl
  have taken := cleared.takeWaiting n
  have reread : (((s.clearOp n).takeWaiting n).startNewRead n).RecordLaws := taken.aside (by simp) (by simp)
  unfold State.opEnd
  split
  · exact taken.ite reread
  · split
    · exact (h.scanReadEnd ..).afterOp n
    · exact (h.newReadEnd ..).afterOp n
    · exact afterOp (h.aside (by simp) (by simp)) n
    · exact afterOp (h.aside (by simp) (by simp)) n
    · exact (h.evaluationEnd ..).afterOp n
    · exact h

/-! ### The memory port and the arbiter (R12 to R15, R20 to R24) -/

theorem completeIfActive (data : Option Word) : (s.completeIfActive data).RecordLaws := h.ite (h.completeCycle data)

theorem unlessDropped (x : Transfer) (k : t.RecordLaws) : (if x.dropped then s.releaseAbandoned else t).RecordLaws :=
  k.ite (h.aside (by simp) (by simp))

theorem deliver (x : Transfer) : (s.deliver x).RecordLaws := by
  unfold State.deliver
  split
  · exact h.opEnd ..
  · exact ((h.opEnd ..).completeIfActive _).leaveResetHeld
  · exact (h.completeIfActive _).leaveResetHeld
  · exact h.unlessDropped x (h.completeCycle _)
  · exact h.unlessDropped x (h.completeCycle _)
  · exact h.unlessDropped x (h.judgeFill ..)

theorem afterAccess (x : Transfer) : (s.afterAccess x).RecordLaws := by
  have freed : State.RecordLaws { s with mem := { s.mem with transfer := none } } := h.aside rfl rfl
  have reported : (State.reportTimeout x { s with mem := { s.mem with transfer := none } }).RecordLaws := by
    unfold State.reportTimeout
    split
    · exact freed
    · exact (freed.takeRecord _).alertCause
  have goesOn : State.RecordLaws { s with mem := { s.mem with transfer := some x } } := h.aside rfl rfl
  exact goesOn.ite (reported.deliver x)

theorem endAccess (data : Word) : (s.endAccess data).RecordLaws := by
  rcases s.endAccess_cases data with e | ⟨t, x, -, -, e⟩ <;> rw [e]
  · exact h
  · exact h.afterAccess x

theorem timeOutAccess : s.timeOutAccess.RecordLaws := by
  rcases s.timeOutAccess_cases with e | ⟨t, x, -, -, e⟩ <;> rw [e]
  · exact h
  · exact h.afterAccess x

theorem tellNotMade (r : Request) : (s.tellNotMade r).RecordLaws := by
  unfold State.tellNotMade
  split
  · exact h.opEnd ..
  · exact h

theorem serveWith (wide : Bool) (fuel : Nat) : (State.serveWith wide fuel s).RecordLaws := by
  induction fuel generalizing s with
  | zero => exact h
  | succ fuel ih =>
    rw [State.serveWith_succ]
    split
    · exact h
    · rename_i r rest _ _
      have left : State.RecordLaws { s with mem := { s.mem with queue := rest } } := h.aside rfl rfl
      have begun : (State.begin r wide { s with mem := { s.mem with queue := rest } }).RecordLaws := left.aside rfl rfl
      exact begun.ite (ih (left.tellNotMade r))
    · exact h.aside rfl rfl
    · exact h

theorem serve (wide : Bool) : (s.serve wide).RecordLaws := h.serveWith wide _

/-! ### Bus reset (R22, R92) -/

theorem abandon : s.abandon.RecordLaws := by
  have cut (p : ProcPort) (d : DecisionUnit) (g : CounterGuard) (m : MemPort) :
      State.RecordLaws { s with port := p, decision := d, guard := g, mem := m } := h.aside rfl rfl
  unfold State.abandon
  simp only []
  split
  · exact (cut ..).forCells fun n s (h : s.RecordLaws) => h.keepRead n
  · exact (cut ..).releaseReads

theorem portReset : s.portReset.RecordLaws := by
  unfold State.portReset
  split
  · exact h.abandon
  · exact h.aside rfl rfl
  · exact h

theorem assertReset : s.assertReset.RecordLaws := by
  have raised : State.RecordLaws { s with port := { s.port with busReset := true } } := h.aside rfl rfl
  exact raised.portReset.forCells fun n s (h : s.RecordLaws) => h.tearForReset n

/-! ### The tick of an apply (R43, R44, R97 to R101) -/

theorem absorbWaiting (n : Fin 8) : (s.absorbWaiting n).RecordLaws := by
  have left : State.RecordLaws { s with guard := { s.guard with waitingWrite := none } } := h.aside rfl rfl
  exact h.ite (left.completeCycle none)

theorem dropLive (n : Fin 8) : (s.setCell n (s.cell n).dropLive).RecordLaws := h.aside rfl rfl

theorem addCell (n : Fin 8) : (s.addCell n).RecordLaws := by
  have dropped := h.dropLive n
  exact dropped.ite (dropped.aside (by simp) (by simp))

theorem changeCell (n : Fin 8) (old new : Option CellDef) : (s.changeCell n old new).RecordLaws := by
  have absorbed (d : CellDef) : ((s.tearHalf n d .apply).absorbWaiting n).RecordLaws :=
    (h.tearHalf ..).absorbWaiting n
  unfold State.changeCell
  split
  · exact h.addCell n
  · exact ((absorbed _).dropLive n).queueItem _
  · exact (absorbed _).addCell n
  · exact h.modifyLive n _
  · exact h

theorem applyNow : s.applyNow.RecordLaws := by
  have replaced (n : Fin 8) (u : State) (k : u.RecordLaws) : (u.replaceDefn s.table.staged n).RecordLaws := by
    unfold State.replaceDefn
    split
    · exact k
    · exact k.aside rfl rfl
  have notified (n : Fin 8) (u : State) (k : u.RecordLaws) :
      (u.notifyCell s.table.staged s.guard.defns n).RecordLaws := by
    unfold State.notifyCell
    split
    · exact k
    · exact k.changeCell ..
  have applied := forCells (s := { s with table := s.table.applied }) replaced (h.aside rfl rfl)
  have queued : State.RecordLaws { Machine.forCells (State.replaceDefn s.table.staged)
      { s with table := s.table.applied } with
      store := s.table.staged.writes.foldl (fun q w => q.queueItem w) (Machine.forCells
        (State.replaceDefn s.table.staged) { s with table := s.table.applied }).store } :=
    ⟨applied.log, applied.store.queueItems _⟩
  have recorded := queued.takeRecord (configAppliedReport s.table.applyingSlot s.table.staged.writes.length)
  exact forCells notified (recorded.aside rfl rfl)

end State.RecordLaws
end
end Sys2Proof.Machine
end

section
namespace Sys2Proof.Machine

section
variable {s t : State}

namespace State.RecordLaws

/-! ### The grant table (R109 to R124) -/

section
variable (h : s.RecordLaws)
include h

theorem acceptRequest (i : Fin 4) (g : Grant) : (s.acceptRequest i g).RecordLaws :=
  ⟨h.log, h.store.queueItem (.challengeCounter s.grants.nextChallenge.counter)⟩

theorem openSlot (i : Fin 4) (g : Grant) : (s.openSlot i g).RecordLaws := by
  have opened := h.setSlot i (.opened g 0 s.time.seconds)
  have cleared : ((s.setSlot i (.opened g 0 s.time.seconds)).clearFailed).RecordLaws :=
    opened.ite ⟨h.log, h.store.queueItem (.failedCount 0)⟩
  exact (cleared.takeRecord _).reportSlot i

theorem refuseProof (i : Fin 4) (g : Grant) : (s.refuseProof i g).RecordLaws := by
  have counted : ((s.freeSlot i).countFailure).RecordLaws :=
    ⟨h.log, h.store.queueItem (.failedCount (BitVec.ofNat 8 (min (s.grants.failed + 1) 255)))⟩
  exact (counted.takeRecord _).scoreIncrement ..

theorem settleProof (p : ProofInFlight) : (s.settleProof p).1.RecordLaws := by
  unfold State.settleProof
  split
  · split
    · split
      · exact h.openSlot ..
      · exact h.refuseProof ..
    · exact h
  · exact h

theorem completeCommand (a : Answer) : (s.completeCommand a).RecordLaws := h.aside rfl rfl

theorem takeResult (p : ProofInFlight) : (s.takeResult p).RecordLaws := by
  have stopped : State.RecordLaws { s with engine := none } := h.aside rfl rfl
  have settled := stopped.settleProof p
  exact settled.ite (settled.completeCommand _)

theorem secondSlot (i : Fin 4) : (s.secondSlot i).RecordLaws := by
  unfold State.secondSlot
  split
  · exact h
  · exact (h.setSlot ..).ite (h.freeSlot i)
  · exact (h.setSlot ..).ite (h.closeSlot ..)

theorem backoffStep : s.backoffStep.RecordLaws := h.aside rfl rfl

theorem grantSecond : s.grantSecond.RecordLaws := by
  have taken : (s.withTime s.time.takeGrantSecond).RecordLaws := h.aside rfl rfl
  have walked := taken.forSlots fun i s (h : s.RecordLaws) => h.secondSlot i
  exact walked.backoffStep

theorem ignitionOffSlot (i : Fin 4) : (s.ignitionOffSlot i).RecordLaws := by
  unfold State.ignitionOffSlot
  split
  · exact h
  · exact (h.endSlot ..).ite h

theorem decayScore : s.decayScore.RecordLaws := h.aside rfl rfl

/-! ### Start-up (R164, R195) -/

/-- R164: the load reads the store, and EVIDENCE-LOST is a record like any other. -/
theorem finishLoad : s.finishLoad.RecordLaws := by
  obtain ⟨-, log, -, store⟩ := s.loadedGrants_out
  have marked : State.RecordLaws { s.loadedGrants with
      log := { s.loadedGrants.log with markCopy := s.loadedGrants.store.held.logMark.getD false } } := by
    refine ⟨?_, ?_⟩
    · rw [log]
      exact h.log
    · rw [store]
      exact h.store
  have checked : s.loadedGrants.evidenceCheck.RecordLaws := marked.ite (marked.takeRecord _)
  have scanned (n : Fin 8) (u : State) (k : u.RecordLaws) : (u.scanCell n).RecordLaws := by
    unfold State.scanCell
    split
    · exact k
    · exact k.aside rfl rfl
  have loaded : s.loadedPart.RecordLaws := checked.aside rfl rfl
  rw [State.finishLoad_eq]
  exact loaded.forCells scanned

theorem openPart : s.openPart.RecordLaws := by
  have running : State.RecordLaws { s with start := { s.start with phase := .running } } := h.aside rfl rfl
  have opened {u : State} (k : u.RecordLaws) : u.openPort.RecordLaws := by
    have idle : State.RecordLaws { u with port := { u.port with state := .idle } } := k.aside rfl rfl
    exact idle.takePresented.ite (k.aside rfl rfl)
  exact (opened running).aside rfl rfl

end

/-- R190: power-on reset empties the log and the write queue, and the power-on count is written. -/
theorem powerOnReset (strap : Bool) (s : State) : ∀ t, execPowerOnReset strap s = .next t → t.RecordLaws := by
  rintro t ⟨⟩
  refine ⟨by simp [Log.Law, State.fresh], ?_⟩
  exact Store.Law.queueItem (st := { stored := s.store.stored, held := .blank, queue := [], inFlight := none })
    ⟨List.nodup_nil, fun _ => rfl⟩ _

end State.RecordLaws

/-! ## The commands of the link (section 6.4) -/

/-- What a block does with a message keeps the laws. -/
def Body.KeepsRecords (body : Body) : Prop := ∀ (p : List Byte) (s : State), s.RecordLaws → (body p s).1.RecordLaws

/-- A command row keeps the laws where its block does. -/
theorem Body.KeepsRecords.run {body : Body} (hb : body.KeepsRecords) (code : Byte) (size : Nat) (h : s.RecordLaws) :
    (s.runCommand code size body).RecordLaws := by
  rcases s.runCommand_cases code size body with e | ⟨a, e⟩ | ⟨p, -, -, e⟩ <;> rw [e]
  · exact h
  · exact h.completeCommand a
  · unfold State.finish
    split
    · exact hb p s h
    · exact (hb p s h).completeCommand _

/-- A block that answers without an effect. -/
theorem Body.keepsRecords_of_eq {body : Body} (he : ∀ p s, (body p s).1 = s) : body.KeepsRecords := fun p s h => by
  rw [he]
  exact h

theorem Body.keepsRecords_requestGrant : Body.KeepsRecords bodyRequestGrant := fun p s h => by
  unfold bodyRequestGrant
  split
  · exact h
  · exact h.acceptRequest ..

theorem Body.keepsRecords_proveGrant : Body.KeepsRecords bodyProveGrant := fun p s h => by
  unfold bodyProveGrant
  split
  · exact h
  · split
    · exact h.aside rfl rfl
    · exact h

theorem Body.keepsRecords_closeGrant : Body.KeepsRecords bodyCloseGrant := fun p s h => by
  unfold bodyCloseGrant
  split
  · exact h
  · split
    · exact h
    · split
      · exact h.endSlot ..
      · exact h

theorem Body.keepsRecords_releaseLog : Body.KeepsRecords bodyReleaseLog := fun p s h => by
  unfold bodyReleaseLog
  split
  · exact h
  · split
    · exact h
    · split
      · exact h.releaseLog ..
      · exact h

theorem State.RecordLaws.stage (h : s.RecordLaws) (p : List Byte) (checks : List (Nat × Bool))
    (write : Staged → Staged) : (s.stage p checks write).1.RecordLaws := by
  unfold State.stage
  split
  · exact h
  · split
    · exact h
    · split
      · exact h
      · exact h.aside rfl rfl

theorem Body.keepsRecords_applyStaged : Body.KeepsRecords State.applyStaged := fun p s h => by
  unfold State.applyStaged
  split
  · exact h
  · split
    · exact h
    · split
      · exact h
      · split
        · exact h
        · exact h.aside rfl rfl

theorem Body.keepsRecords_resetEcu : Body.KeepsRecords bodyResetEcu := fun p s h => by
  unfold bodyResetEcu
  split
  · exact h
  · split
    · exact h
    · exact h.resetRequestCause

theorem Body.keepsRecords_unlock : Body.KeepsRecords bodyUnlock := fun p s h => by
  unfold bodyUnlock
  split
  · exact h
  · split
    · exact h
    · split
      · exact h.endLockdown ..
      · exact h

theorem Body.KeepsRecords.ifUnprovisioned {body : Body} (hb : body.KeepsRecords) :
    Body.KeepsRecords (Machine.ifUnprovisioned body) := fun p s h => by
  unfold Machine.ifUnprovisioned
  split
  · exact h
  · exact hb p s h

theorem Body.keepsRecords_provisionKey : Body.KeepsRecords bodyProvisionKey :=
  .ifUnprovisioned fun p s h => by
    split
    · exact h
    · exact h.queueItem _

theorem Body.keepsRecords_provisionIdentity : Body.KeepsRecords bodyProvisionIdentity :=
  .ifUnprovisioned fun p s h => by
    split
    · exact h
    · exact ⟨h.log, (h.store.queueItem _).queueItem _⟩

theorem Body.keepsRecords_finishProvisioning : Body.KeepsRecords bodyFinishProvisioning :=
  .ifUnprovisioned fun p s h => by
    split
    · exact h
    · exact h.queueItem _

theorem Body.keepsRecords_readLog : Body.KeepsRecords bodyReadLog :=
  Body.keepsRecords_of_eq fun p s => by
    unfold bodyReadLog
    split <;> rfl

theorem Body.keepsRecords_readCell : Body.KeepsRecords bodyReadCell :=
  Body.keepsRecords_of_eq fun p s => by
    unfold bodyReadCell
    split <;> rfl

theorem Body.keepsRecords_readTable : Body.KeepsRecords bodyReadTable :=
  Body.keepsRecords_of_eq fun p s => by
    unfold bodyReadTable
    split <;> rfl

/-! ## Every command keeps the laws -/

theorem State.RecordLaws.next (h : t.RecordLaws) :
    ∀ u, (Host.Outcome.next t : Host.Outcome State Fault Refusal) = .next u → u.RecordLaws := by
  rintro u ⟨⟩
  exact h

/-- R43: the tick of an apply. -/
theorem State.RecordLaws.applyTick (h : s.RecordLaws) (wide : Bool) :
    ∀ t, execApplyTick wide s = .next t → t.RecordLaws := by
  have ticked : (s.withTime s.time.takeTableTick).RecordLaws := h.aside rfl rfl
  have turned {u : State} (k : u.RecordLaws) : u.divisorTick.RecordLaws := k.ite (k.aside rfl rfl)
  exact State.RecordLaws.next ((ticked.ite (turned ticked.applyNow)).serve wide)

theorem State.RecordLaws.exec (h : s.RecordLaws) (i : Instr) : ∀ t, exec i s = .next t → t.RecordLaws := by
  have aside {t : State} (log : t.log = s.log) (store : t.store = s.store) := (h.aside log store).next
  have message (code : Byte) (size : Nat) {body : Body} (hb : body.KeepsRecords) := (hb.run code size h).next
  have reports (code : Byte) (size : Nat) {body : Body} (he : ∀ p s, (body p s).1 = s) :=
    message code size (Body.keepsRecords_of_eq he)
  have second (c : Prop) [Decidable c] := (h.ite (c := c) h.grantSecond).next
  cases i with
  | processorCycle lines wide => exact ((h.presentCycle lines).serve wide).next
  | accessEnd data wide => exact ((h.endAccess data).serve wide).next
  | accessTimeout wide => exact (h.timeOutAccess.serve wide).next
  | counterTick wide => exact (h.tickGuard.serve wide).next
  | holdExpiry cell wide => exact ((h.ite h.tickGuard).serve wide).next
  | applyTick wide => exact h.applyTick wide
  | grantTableSecond => exact h.grantSecond.next
  | challengeExpiry slot => exact second _
  | lifetimeExpired slot => exact second _
  | backoffEnd => exact second _
  | decayCount =>
    have ticked : (s.withTime s.time.takeDecisionSecond).RecordLaws := h.aside rfl rfl
    have counted : State.RecordLaws { s.withTime s.time.takeDecisionSecond with
        decision := { s.decision with decayCount := s.decision.decayCount + 1 } } := ticked.aside rfl rfl
    exact (counted.ite ticked.decayScore).next
  | scoreDecay =>
    have ticked : (s.withTime s.time.takeDecisionSecond).RecordLaws := h.aside rfl rfl
    exact (h.ite ticked.decayScore).next
  | lampStep step =>
    have shown : State.RecordLaws
        { s.withTime s.time.takeLampStep with out := s.out.takeLampStep s.table.settings step } := h.aside rfl rfl
    exact (h.ite shown).next
  | ignitionSample line => exact aside rfl rfl
  | ignitionOffGrantTable =>
    have taken : State.RecordLaws { s with ignition := { s.ignition with grantOffs := s.ignition.grantOffs - 1 } } :=
      h.aside rfl rfl
    exact ((taken.forSlots fun i s (h : s.RecordLaws) => h.ignitionOffSlot i).ite h).next
  | ignitionOffCounterGuard wide => exact (h.ignitionOffGuard.serve wide).next
  | ignitionMirror on =>
    have taken : State.RecordLaws { s with
        ignition := { s.ignition with mirrorEvents := s.ignition.mirrorEvents.tail }
        out := s.out.takeIgnition s.table.settings on } := h.aside rfl rfl
    exact (h.ite taken).next
  | alertPulseEnd => exact aside rfl rfl
  | alertGapEnd => exact aside rfl rfl
  | resetRequestPulseEnd => exact aside rfl rfl
  | resetRequestGapEnd => exact aside rfl rfl
  | logRecord report => exact (h.takeRecord report).next
  | storeWriteComplete =>
    have completed : State.RecordLaws { s with store := s.store.complete } := ⟨h.log, h.store.complete⟩
    have applied : State.RecordLaws { s with
        store := s.store.complete, table := { s.table with apply := .idle, applyItems := [] } } :=
      completed.aside rfl rfl
    exact (completed.ite applied).next
  | powerOnReset strap => exact State.RecordLaws.powerOnReset strap s
  | scanEnd wide => exact (h.ite (h.openPart.serve wide)).next
  | busResetAssert wide => exact (h.assertReset.serve wide).next
  | busResetDeassert wide =>
    have released : State.RecordLaws { s with port := { s.port with busReset := false } } := h.aside rfl rfl
    exact (released.leaveResetHeld.serve wide).next
  | gapTimeout => exact aside rfl rfl
  | linkOff => exact aside rfl rfl
  | replySent => exact aside rfl rfl
  | lengthError =>
    refine State.RecordLaws.next ?_
    split
    · exact h.completeCommand _
    · exact h
  | unknown =>
    refine State.RecordLaws.next ?_
    split
    · exact h
    · split
      · exact h
      · split <;> exact h.completeCommand _
  | identify => exact reports _ _ fun _ _ => rfl
  | status => exact reports _ _ fun _ _ => rfl
  | requestGrant => exact message _ _ Body.keepsRecords_requestGrant
  | proveGrant => exact message _ _ Body.keepsRecords_proveGrant
  | proofResult =>
    refine State.RecordLaws.next ?_
    split
    · exact h
    · exact h.takeResult _
  | closeGrant => exact message _ _ Body.keepsRecords_closeGrant
  | listGrants => exact reports _ _ fun _ _ => rfl
  | readLog => exact message _ _ Body.keepsRecords_readLog
  | releaseLog => exact message _ _ Body.keepsRecords_releaseLog
  | readCell => exact message _ _ Body.keepsRecords_readCell
  | readTable => exact message _ _ Body.keepsRecords_readTable
  | stageWindow => exact message _ _ fun _ _ h => h.stage ..
  | stageCell => exact message _ _ fun _ _ h => h.stage ..
  | stageSettings => exact message _ _ fun _ _ h => h.stage ..
  | applyStaged => exact message _ _ Body.keepsRecords_applyStaged
  | discardStaged => exact message _ _ fun _ _ h => h.stage ..
  | resetEcu => exact message _ _ Body.keepsRecords_resetEcu
  | unlock => exact message _ _ Body.keepsRecords_unlock
  | provisionKey => exact message _ _ Body.keepsRecords_provisionKey
  | provisionIdentity => exact message _ _ Body.keepsRecords_provisionIdentity
  | finishProvisioning => exact message _ _ Body.keepsRecords_finishProvisioning
  | frameArrival frame => exact aside rfl rfl
  | startBitConfirmed fall => exact aside rfl rfl
  | storeLoadEnd wide => exact (h.ite (h.finishLoad.serve wide)).next

end

/-- Settles O10: a step is a guard-clock period or one command, and all that either does to the log and to the write
queue is to take a record, release some, queue an item, complete a write, load the store or reset both, each of which
keeps the laws. -/
theorem logAndStoreLawsKept : Obligations.LogAndStoreLawsKept := by
  rintro s t ⟨log, store⟩ stepped
  have h : s.RecordLaws := ⟨log, store⟩
  have kept : t.RecordLaws := by
    unfold step at stepped
    split at stepped
    · obtain ⟨⟩ := stepped
      exact h.aside rfl rfl
    · rename_i c rest _
      have taken : State.RecordLaws { s with pending := rest } := h.aside rfl rfl
      exact taken.exec c t stepped
  exact ⟨kept.log, kept.store⟩

end Sys2Proof.Machine
end

section
namespace Sys2Proof.Machine

section
variable {s : State} {r : Report}

/-! ## The kinds and their severities (R151) -/

theorem Severity.byteCode_kind (x : LogRecord) : x.severity.byteCode = (Layout.kindCode x.report.kind).2 :=
  Layout.severity_eq _

/-- R151: the six kinds that coalesce. -/
theorem RecordKind.coalesces_iff {k : RecordKind} : k.coalesces = true ↔
    k ∈ [RecordKind.writeDenied, .fetchDenied, .readDenied, .counterClamped, .deviceTimeout, .parityError] := by
  cases k <;> decide

/-- R155: a record of the same kind brings all but the key. -/
theorem LogRecord.coalesce_eq {n : LogRecord} (kind : n.report.kind = r.kind) (now : Quad) : n.coalesce now r =
    { n with seconds := now, repeats := min (n.repeats + 1) 65535, report := { r with key := n.report.key } } := by
  simp [LogRecord.coalesce, kind]

/-! ## The log and the store after a record, case by case (R154 to R157, R162) -/

/-- R155: a record that coalesces leaves the mark copy and the store. -/
theorem State.takeRecord_coalesced {front : List LogRecord} {n : LogRecord} (h : s.log.coalescesWith r = true)
    (newest : s.log.records = front ++ [n]) : (s.takeRecord r).store = s.store ∧
      (s.takeRecord r).log = { s.log with records := front ++ [n.coalesce s.time.seconds r] } := by
  have kind := Log.caseOf_eq_coalesced.2 h
  rw [State.takeRecord_store, State.takeRecord_log, Log.take_coalesced kind newest]
  simp [kind]

/-- R157: a record that is dropped leaves all but the dropped tally. -/
theorem State.takeRecord_discarded (h : s.log.caseOf r = .discarded) : (s.takeRecord r).store = s.store ∧
    (s.takeRecord r).log = { s.log with dropped := min (s.log.dropped + 1) 65535 } := by
  rw [State.takeRecord_store, State.takeRecord_log, Log.take_discarded h]
  simp [h, Log.discard]

/-- The record joins what is kept of the list at the newest end, with the mark and the alarm indication that it brings
(R153, R158, R162). -/
def State.Joins (s : State) (r : Report) (kept : List LogRecord) (t : State) : Prop :=
  t.log =
      { records := kept ++ [{ sequence := s.log.nextSeq, seconds := s.time.seconds, report := r, repeats := 1 }]
        nextSeq := s.log.nextSeq + 1
        dropped := s.log.dropped
        markCopy := s.log.markCopy || decide (r.kind ≠ .logReleased)
        alarm := t.log.alarm } ∧
    (t.log.alarm = true ↔
      (Layout.kindCode r.kind).2 = 3 ∨ ∃ x ∈ kept, (Layout.kindCode x.report.kind).2 = 3) ∧
    t.store = if s.log.markCopy = false ∧ r.kind ≠ .logReleased then s.store.queueItem (.logMark true) else s.store

theorem State.takeRecord_joins {kept : List LogRecord} (h : s.log.caseOf r = .appended)
    (appends : s.log.take s.time.seconds r = s.log.append s.time.seconds r kept) : s.Joins r kept (s.takeRecord r) := by
  have log := State.takeRecord_log r s
  have store := State.takeRecord_store r s
  rw [appends] at log
  simp only [h, true_and] at log store
  refine ⟨?_, ?_, ?_⟩
  · rw [log]
    rfl
  · rw [log]
    refine (any_alarm_iff (kept ++ [s.log.stamp s.time.seconds r])).trans ?_
    simp [Log.stamp, or_and_right, exists_or, or_comm]
  · rw [store]
    simp only [and_comm]

/-- R158: the output unit is told the indication, and is left alone where it already shows it. -/
theorem State.takeRecord_alarmMirror (r : Report) (s : State) :
    (s.takeRecord r).out.alarmMirror = (s.takeRecord r).log.alarm := by
  rw [State.takeRecord_out, OutputUnit.reportAlarm_eq]

theorem State.takeRecord_out_same (h : s.out.alarmMirror = (s.takeRecord r).log.alarm) :
    (s.takeRecord r).out = s.out := by
  rw [State.takeRecord_out]
  exact if_pos h

/-- R154 case 1, by the kinds listed in R151. -/
theorem Log.coalescesWith_iff_listed {l : Log} : l.coalescesWith r = true ↔ ∃ front n, l.records = front ++ [n] ∧
    r.kind ∈ [RecordKind.writeDenied, .fetchDenied, .readDenied, .counterClamped, .deviceTimeout, .parityError] ∧
    n.report.kind = r.kind ∧ (r.kind = .parityError ∨ n.report.key = r.key) := by
  simp only [Log.coalescesWith_iff, RecordKind.coalesces_iff]

end

/-- Settles O55: the record is the first case of R154 that applies, and the log and the store after each are those of
R155, R157 and R153; in a full list the record that goes is the oldest of the lowest severity (R156). -/
theorem logTakesARecord : Obligations.LogTakesARecord := by
  intro r s
  refine ⟨s.takeRecord r, rfl, ?_⟩
  intro rank
  refine ⟨State.takeRecord_eq r s, State.takeRecord_alarmMirror r s, State.takeRecord_out_same, ?_⟩
  intro merges dropped joins
  have other (no : ¬ merges) : s.log.coalescesWith r = false :=
    Bool.eq_false_iff.2 fun h => no (Log.coalescesWith_iff_listed.1 h)
  refine ⟨fun front n yes newest => ?_, fun no exhausted => ?_, fun no more room => ?_,
    fun before after old no more full split least first => ?_⟩
  · have own := Log.coalescesWith_iff_listed.2 yes
    obtain ⟨front', n', newest', -, kind, -⟩ := yes
    obtain ⟨rfl, e⟩ := List.append_inj' (newest.symm.trans newest') rfl
    obtain rfl := List.singleton_inj.1 e
    obtain ⟨store, log⟩ := State.takeRecord_coalesced own newest
    refine ⟨store, ?_⟩
    rw [log, LogRecord.coalesce_eq kind]
  · exact State.takeRecord_discarded (Log.caseOf_exhausted (other no) exhausted)
  · have case_ := Log.caseOf_room (other no) more room
    exact State.takeRecord_joins case_ (by rw [Log.take_appended case_, if_pos room])
  · have case_ := Log.caseOf_full (other no) more full
    have lowest : lowestSeverity s.log.records = old.severity :=
      lowestSeverity_eq (by simp [split]) fun x hx => by
        simpa only [Severity.byteCode_kind] using least x hx
    have removed : removeOldest (lowestSeverity s.log.records) s.log.records = before ++ after := by
      rw [lowest, split]
      refine removeOldest_eq fun x hx e => first x hx ?_
      simp only [rank, ← Severity.byteCode_kind, e]
    rw [lowest, Severity.byteCode_kind, Layout.severity_eq] at case_
    refine ⟨fun above => ?_, fun below => ?_⟩
    · rw [if_pos above] at case_
      exact State.takeRecord_joins case_ (by rw [Log.take_appended case_, if_neg (by omega), removed])
    · rw [if_neg (Nat.not_le.2 below)] at case_
      exact State.takeRecord_discarded case_

end Sys2Proof.Machine
end

section
namespace Sys2Proof.Machine

/-! ## The sample history (R173, R174) -/

section
variable {line : Bool} {history : List Bool}

theorem pushSample_short (h : history.length < 4) : pushSample line history = history ++ [line] := by
  rw [pushSample, List.length_append, List.length_singleton, Nat.sub_eq_zero_of_le h, List.drop_zero]

theorem pushSample_full {oldest : Bool} (h : history.length = 3) :
    pushSample line (oldest :: history) = history ++ [line] := by
  simp [pushSample, h]

variable {f : IgnitionFilter}

@[simp] theorem IgnitionFilter.sample_history (line : Bool) (f : IgnitionFilter) :
    (f.sample line).history = pushSample line f.history := by
  obtain ⟨-, -, e⟩ | ⟨-, e⟩ := f.sample_cases line
  · rw [e, IgnitionFilter.change]
  · rw [e]

/-- R174, R177: the level changes, and the event is issued to the blocks that take it. -/
theorem IgnitionFilter.sample_changes (same : pushSample line f.history = [line, line, line, line])
    (other : line ≠ f.level) : f.sample line =
      { history := pushSample line f.history, level := line
        grantOffs := f.grantOffs + if line then 0 else 1, guardOffs := f.guardOffs + if line then 0 else 1
        mirrorEvents := f.mirrorEvents ++ [line] } := by
  obtain ⟨-, -, e⟩ | ⟨no, -⟩ := f.sample_cases line
  · rw [e]
    cases line <;> rfl
  · exact absurd ⟨same, other⟩ no

theorem IgnitionFilter.sample_stays (h : pushSample line f.history ≠ [line, line, line, line] ∨ line = f.level) :
    f.sample line = { f with history := pushSample line f.history } := by
  obtain ⟨same, other, -⟩ | ⟨-, e⟩ := f.sample_cases line
  · exact absurd same (h.resolve_right other)
  · exact e

end

/-! ## Periods of the timebase clock (R168 to R170) -/

theorem lampStepNumber_mul (n : Fin 32) : lampStepNumber (1024 * n.val) = n := by
  simp [lampStepNumber]

theorem tickNumber_mul (n : Fin 8) : tickNumber (4096 * n.val) = n := by
  simp [tickNumber]

theorem lampStepNumber_mod (c : Nat) : lampStepNumber (c % 32768) = Fin.ofNat 32 (c / 1024) :=
  Fin.ext (show c % (1024 * 32) / 1024 % 32 = c / 1024 % 32 by
    rw [Nat.mod_mul_right_div_self, Nat.mod_mod])

theorem tickNumber_mod (c : Nat) : tickNumber (c % 32768) = Fin.ofNat 8 (c / 4096) :=
  Fin.ext (show c % (4096 * 8) / 4096 % 8 = c / 4096 % 8 by
    rw [Nat.mod_mul_right_div_self, Nat.mod_mod])

section
variable {t : Timebase} {c : Nat}

theorem Timebase.period_periodCount (h : t.periodCount ≤ 32767) :
    t.period.periodCount = if t.periodCount = 32767 then 0 else t.periodCount + 1 := by
  have count : t.period.periodCount = (t.periodCount + 1) % 32768 := rfl
  rw [count]
  split <;> omega

/-- R168, R169: the events of a period are those of the count it reaches. -/
theorem Timebase.period_eq (hc : t.period.periodCount = c) : t.period =
    { periodCount := c
      seconds := if c = 0 then t.seconds + 1 else t.seconds
      samples := if 128 ∣ c then t.samples + 1 else t.samples
      lampSteps := if 1024 ∣ c then t.lampSteps ++ [lampStepNumber c] else t.lampSteps
      guardTicks := if 4096 ∣ c then t.guardTicks ++ [tickNumber c] else t.guardTicks
      tableTicks := if 4096 ∣ c then t.tableTicks ++ [tickNumber c] else t.tableTicks
      grantSeconds := if c = 0 then t.grantSeconds + 1 else t.grantSeconds
      decisionSeconds := if c = 0 then t.decisionSeconds + 1 else t.decisionSeconds } := by
  simp only [← hc, Timebase.period, Nat.dvd_iff_mod_eq_zero]

end

/-- Time passing over no period leaves the timebase as it is. -/
theorem Timebase.elapse_zero {t : Timebase} (h : t.periodCount ≤ 32767) : t.elapse 0 = t := by
  simp [Timebase.elapse, Nat.mod_eq_of_lt (Nat.lt_succ_of_le h)]

theorem Timebase.elapse_succ (n : Nat) (t : Timebase) : t.elapse (n + 1) = (t.elapse n).period := by
  have count : (t.elapse n).period.periodCount = (t.periodCount + (n + 1)) % 32768 := Nat.mod_add_mod ..
  have multiple {k : Nat} (hk : k ∣ 32768) : k ∣ (t.periodCount + (n + 1)) % 32768 ↔ k ∣ t.periodCount + (n + 1) :=
    Nat.dvd_mod_iff hk
  rw [Timebase.period_eq count]
  simp only [Timebase.elapse, passes_succ, passed_succ, multiple (show 128 ∣ 32768 by decide),
    multiple (show 1024 ∣ 32768 by decide), multiple (show 4096 ∣ 32768 by decide), ← Nat.dvd_iff_mod_eq_zero,
    lampStepNumber_mod, tickNumber_mod, Nat.add_assoc]
  congr 1 <;> split <;> simp [BitVec.ofNat_add, BitVec.add_assoc]

/-! ## The event that a block awaits (R171, log entry 1) -/

theorem passed_to_next (k a : Nat) (hk : 0 < k) : passed k a (k - a % k) = [a / k + 1] := by
  simp [passed, passes_to_next k a hk]

section
variable {t : Timebase}

theorem Timebase.toNext_samples (h : t.samples = 0) : (t.toNext 128).samples = 1 := by
  simp [toNext, elapse, passes_to_next, h]

theorem Timebase.toNext_lampSteps (h : t.lampSteps = []) :
    (t.toNext 1024).lampSteps = [Fin.ofNat 32 (t.periodCount / 1024 + 1)] := by
  simp [toNext, elapse, passed_to_next, h]

theorem Timebase.toNext_guardTicks (h : t.guardTicks = []) :
    (t.toNext 4096).guardTicks = [Fin.ofNat 8 (t.periodCount / 4096 + 1)] := by
  simp [toNext, elapse, passed_to_next, h]

theorem Timebase.toNext_tableTicks (h : t.tableTicks = []) :
    (t.toNext 4096).tableTicks = [Fin.ofNat 8 (t.periodCount / 4096 + 1)] := by
  simp [toNext, elapse, passed_to_next, h]

theorem Timebase.toNext_grantSeconds (h : t.grantSeconds = 0) : (t.toNext 32768).grantSeconds = 1 := by
  simp [toNext, elapse, passes_to_next, h]

theorem Timebase.toNext_decisionSeconds (h : t.decisionSeconds = 0) : (t.toNext 32768).decisionSeconds = 1 := by
  simp [toNext, elapse, passes_to_next, h]

/-! ### The taking of it, block by block -/

theorem Timebase.takeSample_awaited (h : t.samples = 0) : t.takeSample = { t.toNext 128 with samples := 0 } := by
  rw [takeSample, awaitSample, if_pos h, toNext_samples h]

theorem Timebase.takeLampStep_awaited (h : t.lampSteps = []) :
    t.takeLampStep = { t.toNext 1024 with lampSteps := [] } := by
  rw [takeLampStep, awaitLampStep, if_pos h, toNext_lampSteps h, List.tail_cons]

theorem Timebase.nextLampStep_awaited (h : t.lampSteps = []) :
    t.nextLampStep.val = (t.periodCount / 1024 + 1) % 32 := by
  rw [nextLampStep, awaitLampStep, if_pos h, toNext_lampSteps h]
  rfl

theorem Timebase.takeGuardTick_awaited (h : t.guardTicks = []) :
    t.takeGuardTick = { t.toNext 4096 with guardTicks := [] } := by
  rw [takeGuardTick, awaitGuardTick, if_pos h, toNext_guardTicks h, List.tail_cons]

theorem Timebase.takeTableTick_awaited (h : t.tableTicks = []) :
    t.takeTableTick = { t.toNext 4096 with tableTicks := [] } := by
  rw [takeTableTick, awaitTableTick, if_pos h, toNext_tableTicks h, List.tail_cons]

theorem Timebase.takeGrantSecond_awaited (h : t.grantSeconds = 0) :
    t.takeGrantSecond = { t.toNext 32768 with grantSeconds := 0 } := by
  rw [takeGrantSecond, awaitGrantSecond, if_pos h, toNext_grantSeconds h]

theorem Timebase.takeDecisionSecond_awaited (h : t.decisionSeconds = 0) :
    t.takeDecisionSecond = { t.toNext 32768 with decisionSeconds := 0 } := by
  rw [takeDecisionSecond, awaitDecisionSecond, if_pos h, toNext_decisionSeconds h]

end

theorem exec_ignitionSample (line : Bool) (s : State) : exec (.ignitionSample line) s =
    .next { s with ignition := s.ignition.sample line, time := s.time.takeSample } := rfl

/-- Settles O54: the sample joins the history and the level changes or stays; a period by the count it reaches, and `n`
periods as `n` single ones; and each block with an event issued to it, and awaiting the next. -/
theorem ignitionSampleIsFiltered : Obligations.IgnitionSampleIsFiltered := by
  refine ⟨fun line s => ⟨s.ignition.sample line, exec_ignitionSample line s, ?_⟩, fun t range => ?_,
    Timebase.elapse_succ, fun t => ?_⟩
  · rw [IgnitionFilter.sample_history]
    exact ⟨pushSample_short, fun oldest rest full three => full ▸ pushSample_full three,
      IgnitionFilter.sample_changes, IgnitionFilter.sample_stays⟩
  · intro c u
    have count : u.periodCount = c := Timebase.period_periodCount range
    rw [show u = _ from Timebase.period_eq count]
    refine ⟨rfl, fun h => if_pos h, fun h => if_neg h, fun n h => ?_, fun h => if_neg h, fun n h => ?_,
      fun h => ⟨if_neg h, if_neg h⟩, fun h => ⟨if_pos h, if_pos h, if_pos h⟩,
      fun h => ⟨if_neg h, if_neg h, if_neg h⟩, Timebase.elapse_zero range⟩
    · simp only [h, Nat.dvd_mul_right, if_true, lampStepNumber_mul]
    · simp only [h, Nat.dvd_mul_right, if_true, tickNumber_mul, and_self]
  · refine ⟨fun h => ?_, Timebase.takeSample_awaited, fun n rest h => ?_,
      fun h => ⟨Timebase.nextLampStep_awaited h, Timebase.takeLampStep_awaited h⟩, fun n rest h => ?_,
      fun h => ⟨if_pos h, Timebase.takeGuardTick_awaited h⟩, fun n rest h => ?_, Timebase.takeTableTick_awaited,
      fun h => ?_, fun h => ⟨if_pos h, Timebase.takeGrantSecond_awaited h⟩, fun h => ?_,
      Timebase.takeDecisionSecond_awaited⟩
    · rw [Timebase.takeSample, Timebase.awaitSample, if_neg h]
    · simp [Timebase.nextLampStep, Timebase.takeLampStep, Timebase.awaitLampStep, h]
    · simp [Timebase.takeGuardTick, Timebase.awaitGuardTick, h]
    · simp [Timebase.takeTableTick, Timebase.awaitTableTick, h]
    · rw [Timebase.takeGrantSecond, Timebase.awaitGrantSecond, if_neg h]
      exact ⟨rfl, rfl⟩
    · rw [Timebase.takeDecisionSecond, Timebase.awaitDecisionSecond, if_neg h]

end Sys2Proof.Machine
end

section
namespace Sys2Proof.Machine

/-! ## The patterns and the lit states (R185 to R188) -/

/-- R185: a SLOW lamp is lit in the first half of the lamp steps. -/
theorem LampPattern.litAt_slow {n : Fin 32} : LampPattern.slow.litAt n = true ↔ n.val ≤ 15 := by
  simp [LampPattern.litAt, Nat.lt_succ_iff]

/-- R185: a FAST lamp is lit in four lamp steps of each eight. -/
theorem LampPattern.litAt_fast : ∀ {n : Fin 32}, LampPattern.fast.litAt n = true ↔
    n.val ∈ [0, 1, 2, 3, 8, 9, 10, 11, 16, 17, 18, 19, 24, 25, 26, 27] := by decide

section
variable {st : Settings} {o : OutputUnit}

theorem OutputUnit.mem_slotMirror {m : SlotMirror} : m ∈ o.slotMirror.toList ↔ ∃ i : Fin 4, o.slotMirror[i] = m := by
  simp [Vector.mem_toList_iff, Vector.mem_iff_getElem, Fin.exists_iff]

theorem OutputUnit.anyOpen_iff : o.anyOpen = true ↔ ∃ i : Fin 4, o.slotMirror[i] = .opened := by
  rw [OutputUnit.anyOpen, decide_eq_true_iff, OutputUnit.mem_slotMirror]

theorem OutputUnit.workshopPattern_steady :
    o.workshopPattern = .steady ↔ ∃ i : Fin 4, o.slotMirror[i] = .opened := by
  rw [← OutputUnit.mem_slotMirror, OutputUnit.workshopPattern]
  split
  · simp [*]
  · split <;> simp [*]

theorem OutputUnit.workshopPattern_slow : o.workshopPattern = .slow ↔
    (∀ i : Fin 4, o.slotMirror[i] ≠ .opened) ∧ ∃ i : Fin 4, o.slotMirror[i] = .challenged := by
  rw [← OutputUnit.mem_slotMirror, ← not_exists, ← OutputUnit.mem_slotMirror, OutputUnit.workshopPattern]
  split
  · simp [*]
  · split <;> simp [*]

theorem OutputUnit.workshopPattern_off : o.workshopPattern = .off ↔ ∀ i : Fin 4, o.slotMirror[i] = .free := by
  have free_iff (m : SlotMirror) : m = .free ↔ m ≠ .opened ∧ m ≠ .challenged := by cases m <;> decide
  simp only [free_iff, forall_and, ne_eq, ← not_exists]
  rw [← OutputUnit.mem_slotMirror, ← OutputUnit.mem_slotMirror, OutputUnit.workshopPattern]
  split
  · simp [*]
  · split <;> simp [*]

theorem OutputUnit.workshopPattern_ne_fast : o.workshopPattern ≠ .fast := by
  rw [OutputUnit.workshopPattern]
  split
  · decide
  · split <;> decide

/-! ## An evaluation of the lamps -/

theorem OutputUnit.evaluate_eq : o.evaluate st = { o with
    workshopLamp := (o.evaluate st).workshopLamp, tamperLamp := (o.evaluate st).tamperLamp } := rfl

/-- R189: the level of a driven lamp is high where its lit state and the polarity agree. -/
theorem driverLevel_eq (driven lit : Bool) (polarity : LampPolarity) : driverLevel driven lit polarity =
    if driven = false then .released
    else if (lit = true ∧ polarity = .activeHigh) ∨ (lit = false ∧ polarity = .activeLow) then .high
    else .low := by
  cases driven with
  | false => rfl
  | true =>
    cases polarity with
    | activeHigh => cases lit <;> rfl
    | activeLow => cases lit <;> rfl

theorem OutputUnit.evaluate_workshopPattern (h : o.started = true) :
    (o.evaluate st).workshopLamp.pattern = o.workshopPattern := if_pos h

theorem OutputUnit.evaluate_tamperPattern (h : o.started = true) :
    (o.evaluate st).tamperLamp.pattern = o.tamperPattern st.alertThreshold := if_pos h

theorem OutputUnit.evaluate_workshopLit :
    (o.evaluate st).workshopLamp.lit = (o.evaluate st).workshopLamp.pattern.litAt o.lampStep := rfl

/-- R188: with both lamps SLOW the tamper lamp takes the opposite phase. -/
theorem OutputUnit.evaluate_tamperLit : (o.evaluate st).tamperLamp.lit =
    if (o.evaluate st).workshopLamp.pattern = .slow ∧ (o.evaluate st).tamperLamp.pattern = .slow then
      !((o.evaluate st).tamperLamp.pattern.litAt o.lampStep)
    else (o.evaluate st).tamperLamp.pattern.litAt o.lampStep := rfl

theorem OutputUnit.evaluate_workshopLit_iff (h : o.started = true) : (o.evaluate st).workshopLamp.lit = true ↔
    (o.evaluate st).workshopLamp.pattern = .steady ∨
      ((o.evaluate st).workshopLamp.pattern = .slow ∧ o.lampStep.val ≤ 15) := by
  have notFast : (o.evaluate st).workshopLamp.pattern ≠ .fast :=
    OutputUnit.evaluate_workshopPattern h ▸ OutputUnit.workshopPattern_ne_fast
  rw [OutputUnit.evaluate_workshopLit]
  cases p : (o.evaluate st).workshopLamp.pattern with
  | off => simp [LampPattern.litAt]
  | steady => simp [LampPattern.litAt]
  | slow => simp [LampPattern.litAt_slow]
  | fast => exact absurd p notFast

theorem OutputUnit.evaluate_tamperLit_iff : (o.evaluate st).tamperLamp.lit = true ↔
    (o.evaluate st).tamperLamp.pattern = .steady ∨
      ((o.evaluate st).tamperLamp.pattern = .fast ∧
        o.lampStep.val ∈ [0, 1, 2, 3, 8, 9, 10, 11, 16, 17, 18, 19, 24, 25, 26, 27]) ∨
      ((o.evaluate st).tamperLamp.pattern = .slow ∧
        if (o.evaluate st).workshopLamp.pattern = .slow then 16 ≤ o.lampStep.val else o.lampStep.val ≤ 15) := by
  rw [OutputUnit.evaluate_tamperLit]
  cases (o.evaluate st).tamperLamp.pattern with
  | off => simp [LampPattern.litAt]
  | steady => simp [LampPattern.litAt]
  | slow =>
    by_cases both : (o.evaluate st).workshopLamp.pattern = .slow
    · simp [both, ← Bool.not_eq_true, LampPattern.litAt_slow, Nat.succ_le_iff]
    · simp [both, LampPattern.litAt_slow]
  | fast => simp only [LampPattern.litAt_fast, reduceCtorEq, and_false, if_false, false_or, false_and, or_false, true_and]

theorem OutputUnit.evaluate_drivers (h : o.started = true) :
    (o.evaluate st).workshopLamp.driver =
        driverLevel o.ignitionMirror (o.evaluate st).workshopLamp.lit st.polarity ∧
      (o.evaluate st).tamperLamp.driver =
        driverLevel o.ignitionMirror (o.evaluate st).tamperLamp.lit st.polarity := by
  have driven : o.driven = o.ignitionMirror := by rw [OutputUnit.driven, h, Bool.true_and]
  rw [← driven]
  exact ⟨rfl, rfl⟩

end

/-! ## The events at the output unit (R170, R177, R185) -/

section
variable {s : State}

theorem exec_lampStep_other {n : Fin 32} (h : n ≠ s.time.nextLampStep) : exec (.lampStep n) s = .next s :=
  congrArg _ (if_neg h)

theorem exec_lampStep_issued {n : Fin 32} (h : n = s.time.nextLampStep) : exec (.lampStep n) s =
    .next { s with
      time := s.time.takeLampStep, out := OutputUnit.evaluate s.table.settings { s.out with lampStep := n } } :=
  congrArg _ (if_pos h)

theorem exec_ignitionMirror_other {on : Bool} (h : s.ignition.mirrorEvents.head? ≠ some on) :
    exec (.ignitionMirror on) s = .next s := congrArg _ (if_neg h)

theorem exec_ignitionMirror_issued {on : Bool} {rest : List Bool} (h : s.ignition.mirrorEvents = on :: rest) :
    exec (.ignitionMirror on) s = .next { s with
      ignition := { s.ignition with mirrorEvents := rest }, out := s.out.takeIgnition s.table.settings on } := by
  have oldest : s.ignition.mirrorEvents.head? = some on := by rw [h, List.head?_cons]
  refine (congrArg _ (if_pos oldest)).trans ?_
  rw [h, List.tail_cons]

end

/-- Settles O52: one evaluation is what R185 to R189 say, and the lamp step and each report that changes a mirror are an
evaluation with the input changed. -/
theorem lampsAreEvaluated : Obligations.LampsAreEvaluated := by
  intro s st driver evaluated reports
  have shown (u : OutputUnit) : evaluated u (u.evaluate st) := by
    refine ⟨OutputUnit.evaluate_eq, OutputUnit.evaluate_dark, fun started => ?_⟩
    obtain ⟨workshop, tamper⟩ := OutputUnit.evaluate_drivers (st := st) started
    have pattern := OutputUnit.evaluate_workshopPattern (st := st) started
    exact ⟨by rw [pattern, OutputUnit.workshopPattern_steady], by rw [pattern, OutputUnit.workshopPattern_slow],
      by rw [pattern, OutputUnit.workshopPattern_off], OutputUnit.evaluate_tamperPattern started,
      OutputUnit.evaluate_workshopLit_iff started, OutputUnit.evaluate_tamperLit_iff,
      workshop.trans (driverLevel_eq ..), tamper.trans (driverLevel_eq ..)⟩
  have reported {t : State} {same : Prop} [Decidable same] {u : OutputUnit}
      (h : t = { s with out := if same then s.out else u.evaluate st }) : reports t (¬ same) u :=
    ⟨fun changed => ⟨u.evaluate st, by rw [h, if_neg changed], shown u⟩,
      fun still => by rw [h, if_pos (not_not.1 still)]⟩
  refine ⟨fun n => exec_lampStep_other, fun n issued => ⟨_, exec_lampStep_issued issued, shown _⟩,
    fun i => ⟨_, _, rfl, shown _, rfl, OutputUnit.anyOpen_iff⟩, reported rfl, reported rfl, reported rfl,
    fun on => ⟨exec_ignitionMirror_other, fun rest oldest => ?_⟩⟩
  rw [exec_ignitionMirror_issued oldest, OutputUnit.takeIgnition, OutputUnit.setDrivers, driverLevel_eq, driverLevel_eq]
  rfl

end Sys2Proof.Machine
end

section
namespace Sys2Proof.Machine

/-! ## The pulse channels (R180, R182, R183) -/

section
variable {started : Bool} {c : Channel} {limit : Nat}

/-- R180, R183: a cause, by whether start-up has ended and by the phase it finds. -/
theorem Channel.signal_eq : c.signal started =
    if started = false then { c with held := true }
    else
      match c.phase with
      | .idle => { c with phase := .driving, count := 0 }
      | .driving => c
      | .gap => { c with held := true } := by
  cases started <;> rfl

/-- R180: the end of a pulse begins the gap. -/
theorem Channel.pulseEnd_eq : c.pulseEnd = if c.phase = .driving then { c with phase := .gap, count := 0 } else c := by
  unfold Channel.pulseEnd
  cases c.phase <;> rfl

/-- R180: the end of a gap starts the pulse of a held cause. -/
theorem Channel.gapEnd_eq : c.gapEnd =
    if c.phase = .gap then { phase := if c.held then .driving else .idle, count := 0, held := false } else c := by
  unfold Channel.gapEnd
  cases c.phase with
  | idle => rfl
  | driving => rfl
  | gap => cases c.held <;> rfl

theorem Channel.period_idle (h : c.phase = .idle) : c.period limit = c := by rw [Channel.period, h]

theorem Channel.period_counts (h : c.phase ≠ .idle) (below : c.count + 1 < limit) :
    c.period limit = { c with count := c.count + 1 } := by
  cases phase : c.phase with
  | idle => exact absurd phase h
  | driving => simp only [Channel.period, phase, if_neg (Nat.not_le.2 below)]
  | gap => simp only [Channel.period, phase, if_neg (Nat.not_le.2 below)]

theorem Channel.period_pulseEnds (h : c.phase = .driving) (reached : limit ≤ c.count + 1) :
    c.period limit = { c with phase := .gap, count := 0 } := by
  simp only [Channel.period, h, if_pos reached, Channel.pulseEnd_eq, if_true]

theorem Channel.period_gapEnds (h : c.phase = .gap) (reached : limit ≤ c.count + 1) :
    c.period limit = { phase := if c.held then .driving else .idle, count := 0, held := false } := by
  simp only [Channel.period, h, if_pos reached, Channel.gapEnd_eq, if_true]

end

/-- Settles O53: a cause, a period and the end of a pulse or a gap, each by the phase of the channel; a row that finds no
pulse, or no gap, to end leaves the channel as it is (log entry 3). -/
theorem pulseChannels : Obligations.PulseChannels := by
  refine ⟨fun started c limit => ⟨Channel.signal_eq, Channel.period_idle, Channel.period_counts,
    Channel.period_pulseEnds, Channel.period_gapEnds⟩, fun s => ?_⟩
  intro pulse gap
  have atPulse (c : Channel) : c.pulseEnd = pulse c := Channel.pulseEnd_eq
  have atGap (c : Channel) : c.gapEnd = gap c := Channel.gapEnd_eq
  rw [← atPulse, ← atPulse, ← atGap, ← atGap]
  exact ⟨rfl, rfl, rfl, rfl⟩

end Sys2Proof.Machine
end

section
namespace Sys2Proof.Machine

/-! ## What the laws of the outputs read (R184 to R189) -/

/-- The output unit, and what its mirrors are to agree with. -/
structure Display where
  out : OutputUnit
  slots : Vector SlotMirror 4
  lockdown : Bool
  score : Nat
  alarm : Bool

/-- R184: each mirror agrees with its owner, and the workshop-active level with the slot mirror. -/
structure Display.Agrees (d : Display) : Prop where
  slots : d.out.slotMirror = d.slots
  active : d.out.workshopActive = d.out.anyOpen
  lockdown : d.out.lockdownMirror = d.lockdown
  score : d.out.scoreMirror = d.score
  alarm : d.out.alarmMirror = d.alarm

/-- R185 to R189: what the law of the lamps says of the output unit, the only block it reads. -/
def OutputUnit.LampsShow (o : OutputUnit) : Prop :=
  (o.started = false → o.LampsDark) ∧ (o.started = true → o.PatternsShow ∧ o.LampsLit)

/-- What the law of R184 reads of the output unit. -/
def OutputUnit.mirrors (o : OutputUnit) : Vector SlotMirror 4 × Bool × Bool × Nat × Bool :=
  (o.slotMirror, o.workshopActive, o.lockdownMirror, o.scoreMirror, o.alarmMirror)

/-- All that the two laws read of a state. -/
def State.display (s : State) : Display where
  out := s.out
  slots := s.grants.slots.map Slot.mirror
  lockdown := s.decision.lockdown
  score := s.decision.score
  alarm := s.log.alarm

theorem State.lampLaw_iff {s : State} : s.LampLaw ↔ s.display.out.LampsShow := Iff.rfl

theorem State.outputLaw_iff {s : State} : s.OutputLaw ↔ s.display.Agrees := by
  have slots : (∀ i : Fin 4, s.out.slotMirror[i] = (s.grants.slots[i]).mirror) ↔
      s.out.slotMirror = s.grants.slots.map Slot.mirror := by
    rw [Vector.ext_iff]
    simp [Fin.forall_iff]
  have active : (s.out.workshopActive = true ↔ ∃ i : Fin 4, s.out.slotMirror[i] = .opened) ↔
      s.out.workshopActive = s.out.anyOpen := by
    rw [← OutputUnit.anyOpen_iff, ← Bool.eq_iff_iff]
  constructor
  · rintro ⟨hslots, hactive, lockdown, score, alarm⟩
    exact ⟨slots.1 hslots, active.1 hactive, lockdown, score, alarm⟩
  · rintro ⟨hslots, hactive, lockdown, score, alarm⟩
    exact ⟨slots.2 hslots, active.2 hactive, lockdown, score, alarm⟩

/-! ## The lamps after an evaluation and after an ignition event (R185 to R189) -/

section
variable {st : Settings} {o : OutputUnit}

theorem driverLevel_released {driven lit : Bool} {polarity : LampPolarity} :
    driverLevel driven lit polarity = .released ↔ driven = false := by
  rw [driverLevel_eq]
  cases driven with
  | false => simp
  | true =>
    simp only [Bool.true_eq_false, if_false, iff_false]
    split <;> exact nofun

/-- R186, R187: an evaluation shows the patterns of the mirrors as they stand. -/
theorem OutputUnit.evaluate_patternsShow (h : o.started = true) : (o.evaluate st).PatternsShow := by
  have workshop : o.workshopPattern =
      if ∃ i : Fin 4, o.slotMirror[i] = .opened then .steady
      else if ∃ i : Fin 4, o.slotMirror[i] = .challenged then .slow else .off := by
    simp only [OutputUnit.workshopPattern, OutputUnit.mem_slotMirror]
  have tamper := OutputUnit.evaluate_tamperPattern (st := st) h
  refine ⟨(OutputUnit.evaluate_workshopPattern h).trans workshop, fun locked => ?_, fun normal alarm => ?_,
    fun normal quiet => ?_⟩
  · exact tamper.trans (if_pos locked)
  · have normal : o.lockdownMirror = false := normal
    have alarm : o.alarmMirror = true := alarm
    simp [tamper, OutputUnit.tamperPattern, normal, alarm]
  · have normal : o.lockdownMirror = false := normal
    have quiet : o.alarmMirror = false := quiet
    rw [tamper, OutputUnit.tamperPattern, normal, quiet]
    simp only [Bool.false_eq_true, if_false]
    split
    · exact .inl rfl
    · exact .inr rfl

theorem OutputUnit.evaluate_lampsLit (h : o.started = true) : (o.evaluate st).LampsLit := by
  obtain ⟨workshop, tamper⟩ := OutputUnit.evaluate_drivers (st := st) h
  exact ⟨OutputUnit.evaluate_workshopLit_iff h, OutputUnit.evaluate_tamperLit_iff,
    by rw [workshop]; exact driverLevel_released, by rw [tamper]; exact driverLevel_released⟩

/-- R185: an evaluation brings both lamps up to date, whatever they showed. -/
theorem OutputUnit.evaluate_lampsShow : (o.evaluate st).LampsShow :=
  ⟨OutputUnit.evaluate_dark, fun started =>
    ⟨OutputUnit.evaluate_patternsShow started, OutputUnit.evaluate_lampsLit started⟩⟩

/-- R189: an ignition event drives or releases the drivers, and leaves what the lamps show. -/
theorem OutputUnit.LampsShow.takeIgnition (h : o.LampsShow) (on : Bool) : (o.takeIgnition st on).LampsShow := by
  refine ⟨fun dark => ?_, fun started => ?_⟩
  · have dark : o.started = false := dark
    obtain ⟨workshop, tamper⟩ := h.1 dark
    simp [OutputUnit.takeIgnition, OutputUnit.setDrivers, OutputUnit.driven, dark, workshop, tamper, Lamp.dark,
      driverLevel]
  · have started : o.started = true := started
    have driven : OutputUnit.driven { o with ignitionMirror := on } = on := by
      rw [OutputUnit.driven, started, Bool.true_and]
    obtain ⟨patterns, workshop, tamper, -, -⟩ := h.2 started
    have released (lit : Bool) : driverLevel (OutputUnit.driven { o with ignitionMirror := on }) lit st.polarity =
        .released ↔ on = false := by
      rw [driven]
      exact driverLevel_released
    exact ⟨patterns, workshop, tamper, released _, released _⟩

theorem OutputUnit.LampsShow.unlessSame (h : o.LampsShow) {u : OutputUnit} {same : Prop} [Decidable same] :
    (if same then o else u.evaluate st).LampsShow := by
  split
  · exact h
  · exact OutputUnit.evaluate_lampsShow

theorem OutputUnit.reportScore_eq (n : Nat) : o.reportScore st n = { o with
    scoreMirror := n, workshopLamp := (o.reportScore st n).workshopLamp
    tamperLamp := (o.reportScore st n).tamperLamp } := by
  unfold OutputUnit.reportScore
  split
  · rename_i h
    rw [← h]
  · rfl

end

/-! ## The laws passed on from one state to another -/

/-- The laws of the outputs hold of a state, each where it held of an earlier one, `s₀`. -/
structure State.OutputsFrom (s s₀ : State) : Prop where
  agrees : s₀.display.Agrees → s.display.Agrees
  lamps : s₀.display.out.LampsShow → s.display.out.LampsShow

section
variable {s₀ s t : State}

theorem State.display_setSlot (i : Fin 4) (x : Slot) (s : State) :
    (s.setSlot i x).display = { s.display with slots := s.display.slots.set i x.mirror } := by
  simp [State.display, Vector.map_set]

theorem State.clearFailed_setSlot (i : Fin 4) (x : Slot) (s : State) :
    (s.setSlot i x).clearFailed = s.clearFailed.setSlot i x := by
  by_cases failed : 0 < s.grants.failed
  · have counted : 0 < (s.setSlot i x).grants.failed := failed
    rw [State.clearFailed, if_pos counted, State.clearFailed, if_pos failed]
    rfl
  · have counted : ¬ 0 < (s.setSlot i x).grants.failed := failed
    rw [State.clearFailed, if_neg counted, State.clearFailed, if_neg failed]

namespace State.OutputsFrom

theorem refl (s : State) : s.OutputsFrom s := ⟨id, id⟩

/-- Each operation of a walk passes the laws on. -/
theorem forSlots {f : Fin 4 → State → State} (hf : ∀ i (s : State), s.OutputsFrom s₀ → (f i s).OutputsFrom s₀)
    (h : s.OutputsFrom s₀) : (Machine.forSlots f s).OutputsFrom s₀ :=
  forSlots_induct (State.OutputsFrom · s₀) f hf s h

theorem forCells {f : Fin 8 → State → State} (hf : ∀ n (s : State), s.OutputsFrom s₀ → (f n s).OutputsFrom s₀)
    (h : s.OutputsFrom s₀) : (Machine.forCells f s).OutputsFrom s₀ :=
  forCells_induct (State.OutputsFrom · s₀) f hf s h

variable (h : s.OutputsFrom s₀)
include h

/-- An operation that leaves what the laws read. -/
theorem aside (same : t.display = s.display) : t.OutputsFrom s₀ where
  agrees hr := same ▸ h.agrees hr
  lamps hr := same ▸ h.lamps hr

theorem ite {c : Prop} [Decidable c] (k : t.OutputsFrom s₀) : (if c then t else s).OutputsFrom s₀ := by
  split
  · exact k
  · exact h

/-! ### An owner changes and reports -/

/-- R158: the alarm indication, whatever it has become. -/
theorem reportAlarm (rest : t.display = { s.display with alarm := t.log.alarm }) : t.reportAlarm.OutputsFrom s₀ := by
  have shown : t.reportAlarm.display =
      { t.display with out := t.display.out.reportAlarm t.table.settings t.log.alarm } := rfl
  rw [rest] at shown
  refine ⟨fun hr => ?_, fun hr => ?_⟩
  · obtain ⟨slots, active, lockdown, score, -⟩ := h.agrees hr
    rw [shown, OutputUnit.reportAlarm_eq]
    exact ⟨slots, active, lockdown, score, rfl⟩
  · rw [shown]
    exact (h.lamps hr).unlessSame

/-- R69, R70, R185: the lockdown state. -/
theorem reportLockdown (rest : t.display = { s.display with lockdown := t.decision.lockdown }) :
    t.reportLockdown.OutputsFrom s₀ := by
  have shown : t.reportLockdown.display =
      { t.display with out := t.display.out.reportLockdown t.table.settings t.decision.lockdown } := rfl
  rw [rest] at shown
  refine ⟨fun hr => ?_, fun hr => ?_⟩
  · obtain ⟨slots, active, -, score, alarm⟩ := h.agrees hr
    rw [shown, OutputUnit.reportLockdown_eq]
    exact ⟨slots, active, rfl, score, alarm⟩
  · rw [shown]
    exact (h.lamps hr).unlessSame

/-- R64, R66, R185: the score. -/
theorem reportScore (rest : t.display = { s.display with score := t.decision.score }) :
    t.reportScore.OutputsFrom s₀ := by
  have shown : t.reportScore.display =
      { t.display with out := t.display.out.reportScore t.table.settings t.decision.score } := rfl
  rw [rest] at shown
  refine ⟨fun hr => ?_, fun hr => ?_⟩
  · obtain ⟨slots, active, lockdown, -, alarm⟩ := h.agrees hr
    rw [shown, OutputUnit.reportScore_eq]
    exact ⟨slots, active, lockdown, rfl, alarm⟩
  · rw [shown]
    exact (h.lamps hr).unlessSame

/-- R107, R184: one slot, and with it the workshop-active level. -/
theorem reportSlot {i : Fin 4} {x : Slot} (rest : t.display = (s.setSlot i x).display) :
    (t.reportSlot i).OutputsFrom s₀ := by
  have shown : (t.reportSlot i).display =
      { t.display with out := t.display.out.reportSlot t.table.settings i (t.grants.slots[i]).mirror } := rfl
  have mirror : (t.grants.slots[i]).mirror = x.mirror := by
    have slots := congrArg (fun d => d.slots[i]) rest
    simpa [State.display] using slots
  rw [mirror, rest, State.display_setSlot] at shown
  refine ⟨fun hr => ?_, fun hr => ?_⟩
  · obtain ⟨slots, active, lockdown, score, alarm⟩ := h.agrees hr
    rw [shown]
    exact ⟨congrArg (fun v => v.set i x.mirror) slots, rfl, lockdown, score, alarm⟩
  · rw [shown]
    exact OutputUnit.evaluate_lampsShow

/-! ### The output unit's own events -/

/-- An event that leaves the mirrors and the workshop-active level. -/
theorem setOut {o : OutputUnit} (mirrors : o.mirrors = s.out.mirrors) (lamps : s.out.LampsShow → o.LampsShow) :
    State.OutputsFrom { s with out := o } s₀ where
  agrees hr := by
    obtain ⟨slots, active, lockdown, score, alarm⟩ := h.agrees hr
    simp only [OutputUnit.mirrors, Prod.mk.injEq] at mirrors
    obtain ⟨slotsSame, activeSame, lockdownSame, scoreSame, alarmSame⟩ := mirrors
    have anyOpen : o.anyOpen = s.out.anyOpen := by rw [OutputUnit.anyOpen, slotsSame, OutputUnit.anyOpen]
    exact ⟨slotsSame.trans slots, (activeSame.trans active).trans anyOpen.symm, lockdownSame.trans lockdown,
      scoreSame.trans score, alarmSame.trans alarm⟩
  lamps hr := lamps (h.lamps hr)

/-- R180, R182: no law reads the pulse channels. -/
theorem setPulses (alert resetRequest : Channel) :
    State.OutputsFrom { s with out := { s.out with alert := alert, resetRequest := resetRequest } } s₀ :=
  h.setOut rfl id

/-- R179, R183: as started becomes yes the lamps are evaluated. -/
theorem becomeStarted (st : Settings) : State.OutputsFrom { s with out := s.out.becomeStarted st } s₀ :=
  h.setOut rfl fun _ => OutputUnit.evaluate_lampsShow

/-! ### Records (R154, R158) -/

/-- A record reports the alarm indication, also one that the log had not reported before (R160). -/
theorem record (rest : t.display = { s.display with alarm := t.log.alarm }) (report : Report) :
    (t.takeRecord report).OutputsFrom s₀ := by
  refine h.reportAlarm ?_
  have marked (k : Taken) (u : State) : (u.markAfter k report).display = u.display := by
    unfold State.markAfter
    split <;> rfl
  have alarm (k : Taken) (u : State) : (u.markAfter k report).log.alarm = u.log.alarm :=
    congrArg Display.alarm (marked k u)
  rw [marked, alarm]
  exact congrArg (fun d : Display => { d with alarm := (t.log.take t.time.seconds report).alarm }) rest

theorem takeRecord (report : Report) : (s.takeRecord report).OutputsFrom s₀ := h.record rfl report

end State.OutputsFrom
end
end Sys2Proof.Machine
end

section
namespace Sys2Proof.Machine

/-! ## What passes the laws of the outputs on

Of the operations that records, charges and increments are part of, each changes what a mirror stands for only where it
reports the change. -/

section
variable {s₀ s t : State} {n : Fin 8}

namespace State.OutputsFrom

variable (h : s.OutputsFrom s₀)
include h

theorem queueItem (w : ItemWrite) : (s.queueItem w).OutputsFrom s₀ := h.aside rfl

/-! ### Causes and slots (R53, R55, R107, R122, R180) -/

theorem alertCause : s.alertCause.OutputsFrom s₀ := h.setPulses (s.out.alert.signal s.out.started) s.out.resetRequest

theorem resetRequestCause : s.resetRequestCause.OutputsFrom s₀ :=
  h.setPulses s.out.alert (s.out.resetRequest.signal s.out.started)

/-- A slot that stays FREE, CHALLENGED or OPEN has nothing to report. -/
theorem setSlot {i : Fin 4} {x : Slot} (same : x.mirror = (s.grants.slots[i]).mirror) :
    (s.setSlot i x).OutputsFrom s₀ := by
  have own : (s.grants.slots[i]).mirror = s.display.slots[i.val] := (Vector.getElem_map ..).symm
  refine h.aside ?_
  rw [State.display_setSlot, same, own, Vector.set_getElem_self]

theorem freeSlot (i : Fin 4) : (s.freeSlot i).OutputsFrom s₀ := h.reportSlot (i := i) (x := .free) rfl

theorem closeSlot (i : Fin 4) (reason : Reason) : (s.closeSlot i reason).OutputsFrom s₀ := by
  by_cases opened : ∃ g tally openedAt, s.grants.slots[i] = .opened g tally openedAt
  · obtain ⟨g, tally, at_, opened⟩ := opened
    rw [State.closeSlot_of_opened opened]
    exact (h.takeRecord _).freeSlot i
  · rw [State.closeSlot_of_not_opened fun g tally at_ e => opened ⟨g, tally, at_, e⟩]
    exact h

theorem endSlot (i : Fin 4) (reason : Reason) : (s.endSlot i reason).OutputsFrom s₀ := by
  unfold State.endSlot
  split
  · exact h
  · exact h.freeSlot i
  · exact h.closeSlot i reason

theorem charge (i : Fin 4) : (s.charge i).OutputsFrom s₀ := by
  unfold State.charge
  split
  · rename_i g tally at_ opened
    have charged : (s.setSlot i (.opened g.charged (min (tally + 1) 65535) at_)).OutputsFrom s₀ :=
      h.setSlot (by rw [opened]; rfl)
    exact charged.ite (charged.closeSlot i _)
  · exact h

theorem chargeOpt (c : Option (Fin 4)) : (s.chargeOpt c).OutputsFrom s₀ := by
  cases c with
  | none => exact h
  | some i => exact h.charge i

/-! ### The score and lockdown (R64 to R70, R125) -/

theorem lockdownSlot (i : Fin 4) : (s.lockdownSlot i).OutputsFrom s₀ := h.ite (h.endSlot i .lockdown)

theorem enterLockdown (cause : Reason) : (s.enterLockdown cause).OutputsFrom s₀ := by
  have locked := h.reportLockdown (t := { s with decision := { s.decision with lockdown := true } }) rfl
  have marked : s.lockdownMarked.OutputsFrom s₀ := locked.queueItem (.lockdownMark true)
  have freed := marked.forSlots fun i s (h : s.OutputsFrom s₀) => h.lockdownSlot i
  rw [State.enterLockdown_eq]
  exact (freed.takeRecord _).alertCause.resetRequestCause

theorem scoreIncrement (k : Nat) (cause : Reason) : (s.scoreIncrement k cause).OutputsFrom s₀ := by
  have raised : (s.raised k).OutputsFrom s₀ := h.reportScore rfl
  have checked : ((s.raised k).alertCheck s.decision.score).OutputsFrom s₀ := raised.ite raised.alertCause
  rw [State.scoreIncrement_eq]
  exact checked.ite (checked.enterLockdown cause)

/-- The record, the increment and the alert cause of a refusal or a regression. -/
theorem violation (r : Report) (k : Nat) (cause : Reason) :
    (((s.takeRecord r).scoreIncrement k cause).alertCause).OutputsFrom s₀ :=
  ((h.takeRecord r).scoreIncrement k cause).alertCause

theorem decayScore : s.decayScore.OutputsFrom s₀ := h.reportScore rfl

theorem endLockdown (i : Fin 4) (g : Grant) : (s.endLockdown i g).OutputsFrom s₀ := by
  have ended := h.reportLockdown (t := { s with decision := { s.decision with lockdown := false } }) rfl
  have cleared {u : State} (k : u.OutputsFrom s₀) :
      (State.reportScore { u with decision := { u.decision with score := 0 } }).OutputsFrom s₀ := k.reportScore rfl
  have unlocked : s.unlocked.OutputsFrom s₀ := (cleared ended).queueItem (.lockdownMark false)
  rw [State.endLockdown_eq]
  exact unlocked.takeRecord _

/-! ### Evaluations (R76 to R80) -/

theorem modifyLive (n : Fin 8) (f : LiveState → LiveState) : (s.modifyLive n f).OutputsFrom s₀ := h.aside rfl

theorem startInternal (d : CellDef) (dir : Direction) (v : Nat) (op : Operation) :
    (s.startInternal n d dir v op).OutputsFrom s₀ := h.aside rfl

theorem startWrite (d : CellDef) (o : Origin) (v : Nat) (isSet : Bool) :
    (s.startWrite n d o v isSet).OutputsFrom s₀ := h.aside (by simp [State.display])

theorem judgeByMode (d : CellDef) (o : Origin) (p : Nat) (v : LiveState) :
    (s.judgeByMode n d o p v).OutputsFrom s₀ := by
  unfold State.judgeByMode
  split
  · exact h
  · split
    · exact h.violation _ _ _
    · split
      · exact h.startWrite ..
      · unfold State.rateRise
        split
        · exact (h.modifyLive n _).startWrite ..
        · have spent := h.modifyLive n fun x => { x with credit := x.credit - v.credit / 65536 * 65536 }
          have clamped := (spent.takeRecord
            (cellReport .counterClamped n none d.address p (some (v.shadow + v.credit / 65536)))).alertCause
          exact clamped.ite (clamped.startWrite ..)

theorem evaluate (n : Fin 8) (o : Origin) (p : Nat) : (s.evaluate n o p).OutputsFrom s₀ := by
  unfold State.evaluate
  split
  · have bare := h.modifyLive n fun x => { x with half := none }
    exact (bare.judgeByMode ..).ite (((bare.chargeOpt _).takeRecord _).startWrite ..)
  · exact h

theorem evaluatePending (n : Fin 8) (o : Origin) : (s.evaluatePending n o).OutputsFrom s₀ := by
  unfold State.evaluatePending
  split
  · exact h
  · split
    · exact h
    · exact h.evaluate ..

/-! ### Floors, ticks and the tearing of halves (R75, R90 to R92) -/

theorem settleFloor (n : Fin 8) : (s.settleFloor n).OutputsFrom s₀ := h.aside (by simp [State.display])

theorem settle (n : Fin 8) : (s.settle n).OutputsFrom s₀ := by
  have evaluated := h.evaluatePending n .ignition
  unfold State.settle
  split
  · exact h
  · exact h.ite ((evaluated.settleFloor n).ite evaluated)

theorem tickCell (n : Fin 8) : (s.tickCell n).OutputsFrom s₀ := by
  have aged : ((s.accrueCell n).ageCell n).OutputsFrom s₀ := h.aside (by simp [State.display])
  have repaired : ((((s.accrueCell n).ageCell n).repairCell n).retryCell n).OutputsFrom s₀ :=
    h.aside (by simp [State.display])
  exact repaired.ite (aged.evaluatePending n .hold)

theorem tickGuard : s.tickGuard.OutputsFrom s₀ := by
  have taken : (s.withTime s.time.takeGuardTick).OutputsFrom s₀ := h.aside rfl
  exact taken.forCells fun n s (h : s.OutputsFrom s₀) => h.tickCell n

theorem ignitionOffGuard : s.ignitionOffGuard.OutputsFrom s₀ := by
  have taken : State.OutputsFrom
      { s with ignition := { s.ignition with guardOffs := s.ignition.guardOffs - 1 } } s₀ := h.aside rfl
  have marked := taken.forCells (f := State.markDue) fun n s (h : s.OutputsFrom s₀) => h.modifyLive n _
  unfold State.ignitionOffGuard
  split
  · exact h
  · exact marked.forCells fun n s (h : s.OutputsFrom s₀) => h.settle n

theorem tearHalf (n : Fin 8) (d : CellDef) (reason : Reason) : (s.tearHalf n d reason).OutputsFrom s₀ := by
  unfold State.tearHalf
  split
  · exact h
  · split
    · exact h
    · exact (h.modifyLive n _).takeRecord _

theorem tearForReset (n : Fin 8) : (s.tearForReset n).OutputsFrom s₀ := by
  unfold State.tearForReset
  split
  · exact h
  · exact h.tearHalf ..

/-! ### Cycles at the processor port (R1 to R6, R47 to R63, R81 to R85) -/

theorem completeCycle (data : Option Word) : (s.completeCycle data).OutputsFrom s₀ :=
  h.aside (by simp [State.display])

theorem keepRead (n : Fin 8) : (s.keepRead n).OutputsFrom s₀ := h.aside (by simp [State.display])

theorem releaseReads : s.releaseReads.OutputsFrom s₀ := h.aside (by simp [State.display])

theorem denyCycle (c : Cycle) (d : DecisionRecord) : (s.denyCycle c d).OutputsFrom s₀ := by
  have completed := h.completeCycle (unservedData (some c.kind))
  rw [State.denyCycle, State.denial_eq]
  split
  · exact completed.violation _ _ _
  · exact (completed.takeRecord _).scoreIncrement _ _

theorem finishWrite (n : Fin 8) : (s.finishWrite n).OutputsFrom s₀ := (h.completeCycle none).ite h

theorem setPending (n : Fin 8) (x : Half) (v : Word) : (s.setPending n x v).OutputsFrom s₀ :=
  (h.modifyLive n _).completeCycle none

theorem takeHalf (n : Fin 8) (x : Half) (value : Word) (v : LiveState) : (s.takeHalf n x value v).OutputsFrom s₀ := by
  unfold State.takeHalf
  split
  · exact h.setPending ..
  · exact ((h.evaluate ..).finishWrite n).ite (h.setPending ..)

theorem takeWrite (n : Fin 8) : (s.takeWrite n).OutputsFrom s₀ := by
  unfold State.takeWrite
  split
  · exact h
  · split
    · split
      · exact (h.evaluate ..).finishWrite n
      · exact h.takeHalf ..
    · exact h.completeCycle none

theorem counterWrite (n : Fin 8) (c : Cycle) : (s.counterWrite n c).OutputsFrom s₀ := by
  unfold State.counterWrite
  split
  · exact (h.violation _ _ _).completeCycle none
  · exact (h.takeWrite n).ite (h.aside rfl)

theorem counterRead (n : Fin 8) (c : Cycle) (w : MatchedWindow) : (s.counterRead n c w).OutputsFrom s₀ := by
  unfold State.counterRead
  split
  · exact h.completeCycle _
  · exact h.aside rfl

theorem carryOut (c : Cycle) (d : DecisionRecord) : (s.carryOut c d).OutputsFrom s₀ := by
  have charged : (s.chargePass c d).OutputsFrom s₀ := h.ite (h.chargeOpt _)
  unfold State.carryOut
  split
  · exact charged.aside rfl
  · exact h.denyCycle c d
  · exact h.denyCycle c d
  · exact h.aside rfl
  · split
    · exact h
    · exact (h.counterRead ..).ite (h.counterWrite ..)

theorem takeCycle (l : CycleLines) : (s.takeCycle l).OutputsFrom s₀ := by
  have failed (reason : Reason) : (s.parityFailure reason l).OutputsFrom s₀ :=
    ((h.takeRecord _).alertCause).completeCycle _
  have decided (c : Cycle) : ((s.activate c).decideCycle c).OutputsFrom s₀ := by
    have chosen : State.OutputsFrom { s.activate c with
        decision := { s.decision with record := some ((s.activate c).decisionOf c) } } s₀ := h.aside rfl
    exact chosen.carryOut ..
  unfold State.takeCycle
  split
  · exact failed _
  · split
    · exact failed _
    · exact h.completeCycle _
    · exact decided _

theorem takePresented : s.takePresented.OutputsFrom s₀ := by
  have taken : State.OutputsFrom { s with port := { s.port with presented := none } } s₀ := h.aside rfl
  unfold State.takePresented
  split
  · exact h
  · exact taken.takeCycle _

theorem presentCycle (l : CycleLines) : (s.presentCycle l).OutputsFrom s₀ := by
  unfold State.presentCycle
  split
  · exact h.takeCycle l
  · exact h.aside rfl
  · exact h.aside rfl
  · exact h

theorem leaveResetHeld : s.leaveResetHeld.OutputsFrom s₀ := by
  have idle : State.OutputsFrom { s with port := { s.port with state := .idle } } s₀ := h.aside rfl
  exact h.ite idle.takePresented

theorem judgeFill (timedOut : Bool) (word : Word) : (s.judgeFill timedOut word).OutputsFrom s₀ := by
  unfold State.judgeFill
  split
  · rename_i c d _ _
    have judged : State.OutputsFrom
        { s with decision := { s.decision with record := some { d with fill := some .judged } } } s₀ := h.aside rfl
    have written (r : Request) : (State.enqueueProcessor r
        { s with decision := { s.decision with record := some { d with fill := some .judged } } }).OutputsFrom s₀ :=
      judged.aside rfl
    simp only []
    split
    · exact judged.completeCycle none
    · split
      · exact written _
      · exact (judged.denyCycle c _).ite ((written _).chargeOpt _)
  · exact h

/-! ### The ends of operations (R80, R82, R88 to R101) -/

theorem takeWaiting (n : Fin 8) : (s.takeWaiting n).OutputsFrom s₀ := by
  have left : State.OutputsFrom { s with guard := { s.guard with waitingWrite := none } } s₀ := h.aside rfl
  exact h.ite (left.takeWrite n)

theorem scanReadEnd (n : Fin 8) (d : CellDef) (r : TransferResult) : (s.scanReadEnd n d r).OutputsFrom s₀ := by
  have live (v : LiveState) : (s.becomeLive n v).OutputsFrom s₀ := h.aside rfl
  unfold State.scanReadEnd
  simp only []
  split
  · exact live _
  · split
    · exact live _
    · exact ((live _).violation _ _ _).startInternal ..

theorem newReadEnd (n : Fin 8) (d : CellDef) (r : TransferResult) : (s.newReadEnd n d r).OutputsFrom s₀ :=
  h.aside (by simp [State.display])

theorem evaluationEnd (n : Fin 8) (v : Nat) (isSet : Bool) (r : TransferResult) :
    (s.evaluationEnd n v isSet r).OutputsFrom s₀ := h.aside (by simp [State.display])

theorem afterOp (n : Fin 8) : (s.afterOp n).OutputsFrom s₀ := (h.takeWaiting n).settle n

theorem opEnd (n : Fin 8) (r : TransferResult) : (s.opEnd n r).OutputsFrom s₀ := by
  have cleared : (s.clearOp n).OutputsFrom s₀ := h.aside rfl
  have taken := cleared.takeWaiting n
  have reread : (((s.clearOp n).takeWaiting n).startNewRead n).OutputsFrom s₀ := taken.aside (by simp [State.display])
  unfold State.opEnd
  split
  · exact taken.ite reread
  · split
    · exact (h.scanReadEnd ..).afterOp n
    · exact (h.newReadEnd ..).afterOp n
    · exact afterOp (h.aside (by simp [State.display])) n
    · exact afterOp (h.aside (by simp [State.display])) n
    · exact (h.evaluationEnd ..).afterOp n
    · exact h

/-! ### The memory port and the arbiter (R12 to R15, R20 to R24) -/

theorem completeIfActive (data : Option Word) : (s.completeIfActive data).OutputsFrom s₀ :=
  h.aside (by simp [State.display])

theorem unlessDropped (x : Transfer) (k : t.OutputsFrom s₀) :
    (if x.dropped then s.releaseAbandoned else t).OutputsFrom s₀ :=
  k.ite (h.aside (by simp [State.display]))

theorem deliver (x : Transfer) : (s.deliver x).OutputsFrom s₀ := by
  unfold State.deliver
  split
  · exact h.opEnd ..
  · exact ((h.opEnd ..).completeIfActive _).leaveResetHeld
  · exact (h.completeIfActive _).leaveResetHeld
  · exact h.unlessDropped x (h.completeCycle _)
  · exact h.unlessDropped x (h.completeCycle _)
  · exact h.unlessDropped x (h.judgeFill ..)

theorem afterAccess (x : Transfer) : (s.afterAccess x).OutputsFrom s₀ := by
  have freed : State.OutputsFrom { s with mem := { s.mem with transfer := none } } s₀ := h.aside rfl
  have reported : (State.reportTimeout x { s with mem := { s.mem with transfer := none } }).OutputsFrom s₀ := by
    unfold State.reportTimeout
    split
    · exact freed
    · exact (freed.takeRecord _).alertCause
  have goesOn : State.OutputsFrom { s with mem := { s.mem with transfer := some x } } s₀ := h.aside rfl
  exact goesOn.ite (reported.deliver x)

theorem endAccess (data : Word) : (s.endAccess data).OutputsFrom s₀ := by
  rcases s.endAccess_cases data with e | ⟨t, x, -, -, e⟩ <;> rw [e]
  · exact h
  · exact h.afterAccess x

theorem timeOutAccess : s.timeOutAccess.OutputsFrom s₀ := by
  rcases s.timeOutAccess_cases with e | ⟨t, x, -, -, e⟩ <;> rw [e]
  · exact h
  · exact h.afterAccess x

theorem tellNotMade (r : Request) : (s.tellNotMade r).OutputsFrom s₀ := by
  unfold State.tellNotMade
  split
  · exact h.opEnd ..
  · exact h

theorem serveWith (wide : Bool) (fuel : Nat) : (State.serveWith wide fuel s).OutputsFrom s₀ := by
  induction fuel generalizing s with
  | zero => exact h
  | succ fuel ih =>
    rw [State.serveWith_succ]
    split
    · exact h
    · rename_i r rest _ _
      have left : State.OutputsFrom { s with mem := { s.mem with queue := rest } } s₀ := h.aside rfl
      have begun : (State.begin r wide { s with mem := { s.mem with queue := rest } }).OutputsFrom s₀ := left.aside rfl
      exact begun.ite (ih (left.tellNotMade r))
    · exact h.aside rfl
    · exact h

theorem serve (wide : Bool) : (s.serve wide).OutputsFrom s₀ := h.serveWith wide _

/-! ### Bus reset (R22, R92) -/

theorem abandon : s.abandon.OutputsFrom s₀ := by
  have cut (p : ProcPort) (d : Option DecisionRecord) (g : CounterGuard) (m : MemPort) :
      State.OutputsFrom { s with port := p, decision := { s.decision with record := d }, guard := g, mem := m } s₀ :=
    h.aside rfl
  unfold State.abandon
  simp only []
  split
  · exact (cut ..).forCells fun n s (h : s.OutputsFrom s₀) => h.keepRead n
  · exact (cut ..).releaseReads

theorem portReset : s.portReset.OutputsFrom s₀ := by
  unfold State.portReset
  split
  · exact h.abandon
  · exact h.aside rfl
  · exact h

theorem assertReset : s.assertReset.OutputsFrom s₀ := by
  have raised : State.OutputsFrom { s with port := { s.port with busReset := true } } s₀ := h.aside rfl
  exact raised.portReset.forCells fun n s (h : s.OutputsFrom s₀) => h.tearForReset n

/-! ### The tick of an apply (R43, R44, R97 to R101) -/

theorem absorbWaiting (n : Fin 8) : (s.absorbWaiting n).OutputsFrom s₀ := by
  have left : State.OutputsFrom { s with guard := { s.guard with waitingWrite := none } } s₀ := h.aside rfl
  exact h.ite (left.completeCycle none)

theorem dropLive (n : Fin 8) : (s.setCell n (s.cell n).dropLive).OutputsFrom s₀ := h.aside rfl

theorem addCell (n : Fin 8) : (s.addCell n).OutputsFrom s₀ := by
  have dropped := h.dropLive n
  exact dropped.ite (dropped.aside (by simp [State.display]))

theorem changeCell (n : Fin 8) (old new : Option CellDef) : (s.changeCell n old new).OutputsFrom s₀ := by
  have absorbed (d : CellDef) : ((s.tearHalf n d .apply).absorbWaiting n).OutputsFrom s₀ :=
    (h.tearHalf ..).absorbWaiting n
  unfold State.changeCell
  split
  · exact h.addCell n
  · exact ((absorbed _).dropLive n).queueItem _
  · exact (absorbed _).addCell n
  · exact h.modifyLive n _
  · exact h

theorem applyNow : s.applyNow.OutputsFrom s₀ := by
  have replaced (n : Fin 8) (u : State) (k : u.OutputsFrom s₀) : (u.replaceDefn s.table.staged n).OutputsFrom s₀ := by
    unfold State.replaceDefn
    split
    · exact k
    · exact k.aside rfl
  have notified (n : Fin 8) (u : State) (k : u.OutputsFrom s₀) :
      (u.notifyCell s.table.staged s.guard.defns n).OutputsFrom s₀ := by
    unfold State.notifyCell
    split
    · exact k
    · exact k.changeCell ..
  have applied := forCells (s := { s with table := s.table.applied }) replaced (h.aside rfl)
  have queued : State.OutputsFrom { Machine.forCells (State.replaceDefn s.table.staged)
      { s with table := s.table.applied } with
      store := s.table.staged.writes.foldl (fun q w => q.queueItem w) (Machine.forCells
        (State.replaceDefn s.table.staged) { s with table := s.table.applied }).store } s₀ :=
    applied.aside rfl
  have recorded := queued.takeRecord (configAppliedReport s.table.applyingSlot s.table.staged.writes.length)
  exact forCells notified (recorded.aside rfl)

end State.OutputsFrom
end
end Sys2Proof.Machine
end

section
namespace Sys2Proof.Machine

section
variable {s₀ s t : State}

namespace State.OutputsFrom

/-! ### The grant table (R109 to R124) -/

section
variable (h : s.OutputsFrom s₀)
include h

theorem acceptRequest (i : Fin 4) (g : Grant) : (s.acceptRequest i g).OutputsFrom s₀ :=
  h.reportSlot (i := i) (x := .challenged g s.grants.nextChallenge 0) rfl

theorem clearFailed : s.clearFailed.OutputsFrom s₀ := h.ite (h.aside rfl)

/-- R117: the slot is reported OPEN after its record. -/
theorem openSlot (i : Fin 4) (g : Grant) : (s.openSlot i g).OutputsFrom s₀ := by
  unfold State.openSlot
  rw [State.clearFailed_setSlot, State.takeRecord_setSlot]
  exact (h.clearFailed.takeRecord _).reportSlot rfl

theorem refuseProof (i : Fin 4) (g : Grant) : (s.refuseProof i g).OutputsFrom s₀ := by
  have counted : ((s.freeSlot i).countFailure).OutputsFrom s₀ := (h.freeSlot i).aside rfl
  exact (counted.takeRecord _).scoreIncrement ..

theorem settleProof (p : ProofInFlight) : (s.settleProof p).1.OutputsFrom s₀ := by
  unfold State.settleProof
  split
  · split
    · split
      · exact h.openSlot ..
      · exact h.refuseProof ..
    · exact h
  · exact h

theorem completeCommand (a : Answer) : (s.completeCommand a).OutputsFrom s₀ := h.aside rfl

theorem takeResult (p : ProofInFlight) : (s.takeResult p).OutputsFrom s₀ := by
  have stopped : State.OutputsFrom { s with engine := none } s₀ := h.aside rfl
  have settled := stopped.settleProof p
  exact settled.ite (settled.completeCommand _)

/-- R113, R121: a second that ends nothing leaves the slot CHALLENGED or OPEN. -/
theorem secondSlot (i : Fin 4) : (s.secondSlot i).OutputsFrom s₀ := by
  unfold State.secondSlot
  split
  · exact h
  · rename_i challenged
    exact (h.setSlot (by rw [challenged]; rfl)).ite (h.freeSlot i)
  · rename_i opened
    exact (h.setSlot (by rw [opened]; rfl)).ite (h.closeSlot ..)

theorem backoffStep : s.backoffStep.OutputsFrom s₀ := h.aside rfl

theorem grantSecond : s.grantSecond.OutputsFrom s₀ := by
  have taken : (s.withTime s.time.takeGrantSecond).OutputsFrom s₀ := h.aside rfl
  have walked := taken.forSlots fun i s (h : s.OutputsFrom s₀) => h.secondSlot i
  exact walked.backoffStep

theorem ignitionOffSlot (i : Fin 4) : (s.ignitionOffSlot i).OutputsFrom s₀ := by
  unfold State.ignitionOffSlot
  split
  · exact h
  · exact (h.endSlot ..).ite h

/-- R160: what a release does to the alarm indication is reported after its own record. -/
theorem releaseLog (i : Fin 4) (g : Grant) (count : Nat) : (s.releaseLog i g count).OutputsFrom s₀ := by
  have recorded := h.record (t := { s with log := s.log.release (min count s.log.records.length) }) rfl
    (releasedReport i g (min count s.log.records.length))
  exact recorded.ite (recorded.aside rfl)

/-! ### Start-up (R164, R195) -/

/-- R69, R164: EVIDENCE-LOST is a record like any other, and the lockdown state that the mark gives is reported. -/
theorem finishLoad : s.finishLoad.OutputsFrom s₀ := by
  have loadedGrants : s.loadedGrants.OutputsFrom s₀ := h.aside (by rw [State.loadedGrants_eq]; rfl)
  have marked : State.OutputsFrom { s.loadedGrants with
      log := { s.loadedGrants.log with markCopy := s.loadedGrants.store.held.logMark.getD false } } s₀ :=
    loadedGrants.aside rfl
  have checked : s.loadedGrants.evidenceCheck.OutputsFrom s₀ := marked.ite (marked.takeRecord _)
  have lockdown : s.loadedGrants.evidenceCheck.loadLockdown.OutputsFrom s₀ := checked.reportLockdown rfl
  have loaded : s.loadedPart.OutputsFrom s₀ := lockdown.aside rfl
  have scanned (n : Fin 8) (u : State) (k : u.OutputsFrom s₀) : (u.scanCell n).OutputsFrom s₀ := by
    unfold State.scanCell
    split
    · exact k
    · exact k.aside rfl
  rw [State.finishLoad_eq]
  exact loaded.forCells scanned

/-- R179, R195: the output unit is started once the port has opened. -/
theorem openPart : s.openPart.OutputsFrom s₀ := by
  have running : State.OutputsFrom { s with start := { s.start with phase := .running } } s₀ := h.aside rfl
  have opened {u : State} (k : u.OutputsFrom s₀) : u.openPort.OutputsFrom s₀ := by
    have idle : State.OutputsFrom { u with port := { u.port with state := .idle } } s₀ := k.aside rfl
    exact idle.takePresented.ite (k.aside rfl)
  exact ((opened running).becomeStarted _).aside rfl

end

/-- R190: power-on reset clears the mirrors with their owners, and darkens the lamps. -/
theorem powerOnReset (strap : Bool) (s : State) : ∀ t, execPowerOnReset strap s = .next t → t.OutputsFrom s₀ := by
  rintro t ⟨⟩
  exact ⟨fun _ => ⟨by simp [State.display, State.fresh, Slot.mirror], rfl, rfl, rfl, rfl⟩,
    fun _ => ⟨fun _ => ⟨rfl, rfl⟩, fun started => nomatch started⟩⟩

end State.OutputsFrom

/-! ## The commands of the link (section 6.4) -/

section
variable (p : List Byte) (s : State)

/-! ### The commands that leave what the laws read -/

theorem bodyProveGrant_display : (bodyProveGrant p s).1.display = s.display := by
  unfold bodyProveGrant
  split
  · rfl
  · split <;> rfl

theorem bodyReadLog_display : (bodyReadLog p s).1.display = s.display := by
  unfold bodyReadLog
  split <;> rfl

theorem bodyReadCell_display : (bodyReadCell p s).1.display = s.display := by
  unfold bodyReadCell
  split <;> rfl

theorem bodyReadTable_display : (bodyReadTable p s).1.display = s.display := by
  unfold bodyReadTable
  split <;> rfl

theorem stage_display (checks : List (Nat × Bool)) (write : Staged → Staged) :
    (s.stage p checks write).1.display = s.display := by
  unfold State.stage
  split
  · rfl
  · split
    · rfl
    · split <;> rfl

theorem applyStaged_display : (s.applyStaged p).1.display = s.display := by
  unfold State.applyStaged
  split
  · rfl
  · split
    · rfl
    · split
      · rfl
      · split <;> rfl

theorem ifUnprovisioned_display {body : Body} (same : (body p s).1.display = s.display) :
    (ifUnprovisioned body p s).1.display = s.display := by
  unfold ifUnprovisioned
  split
  · rfl
  · exact same

theorem bodyProvisionKey_display : (bodyProvisionKey p s).1.display = s.display :=
  ifUnprovisioned_display p s (by split <;> rfl)

theorem bodyProvisionIdentity_display : (bodyProvisionIdentity p s).1.display = s.display :=
  ifUnprovisioned_display p s (by split <;> rfl)

theorem bodyFinishProvisioning_display : (bodyFinishProvisioning p s).1.display = s.display :=
  ifUnprovisioned_display p s (by split <;> rfl)

end

/-! ### The commands that report -/

namespace State.OutputsFrom

section
variable (h : s.OutputsFrom s₀) (p : List Byte)
include h

theorem bodyRequestGrant : (bodyRequestGrant p s).1.OutputsFrom s₀ := by
  unfold Machine.bodyRequestGrant
  split
  · exact h
  · exact h.acceptRequest ..

theorem bodyCloseGrant : (bodyCloseGrant p s).1.OutputsFrom s₀ := by
  unfold Machine.bodyCloseGrant
  split
  · exact h
  · split
    · exact h
    · split
      · exact h.endSlot ..
      · exact h

theorem bodyReleaseLog : (bodyReleaseLog p s).1.OutputsFrom s₀ := by
  unfold Machine.bodyReleaseLog
  split
  · exact h
  · split
    · exact h
    · split
      · exact h.releaseLog ..
      · exact h

theorem bodyResetEcu : (bodyResetEcu p s).1.OutputsFrom s₀ := by
  unfold Machine.bodyResetEcu
  split
  · exact h
  · split
    · exact h
    · exact h.resetRequestCause

theorem bodyUnlock : (bodyUnlock p s).1.OutputsFrom s₀ := by
  unfold Machine.bodyUnlock
  split
  · exact h
  · split
    · exact h
    · split
      · exact h.endLockdown ..
      · exact h

/-- R139: a command row passes the laws on where its block does. -/
theorem runCommand {body : Body} (hb : ∀ p, (body p s).1.OutputsFrom s₀) (code : Byte) (size : Nat) :
    (s.runCommand code size body).OutputsFrom s₀ := by
  rcases s.runCommand_cases code size body with e | ⟨a, e⟩ | ⟨p, -, -, e⟩ <;> rw [e]
  · exact h
  · exact h.completeCommand a
  · unfold State.finish
    split
    · exact hb p
    · exact (hb p).completeCommand _

end

/-! ## Every command keeps the laws -/

theorem next (h : t.OutputsFrom s₀) :
    ∀ u, (Host.Outcome.next t : Host.Outcome State Fault Refusal) = .next u → u.OutputsFrom s₀ := by
  rintro u ⟨⟩
  exact h

/-- R43: the tick of an apply. -/
theorem applyTick (h : s.OutputsFrom s₀) (wide : Bool) :
    ∀ t, execApplyTick wide s = .next t → t.OutputsFrom s₀ := by
  have ticked : (s.withTime s.time.takeTableTick).OutputsFrom s₀ := h.aside rfl
  have turned {u : State} (k : u.OutputsFrom s₀) : u.divisorTick.OutputsFrom s₀ := k.ite (k.aside rfl)
  exact next ((ticked.ite (turned ticked.applyNow)).serve wide)

theorem exec (h : s.OutputsFrom s₀) (i : Instr) : ∀ t, exec i s = .next t → t.OutputsFrom s₀ := by
  have aside {t : State} (same : t.display = s.display) := (h.aside same).next
  have pulses (alert resetRequest : Channel) := (h.setPulses alert resetRequest).next
  have message (code : Byte) (size : Nat) {body : Body} (hb : ∀ p, (body p s).1.OutputsFrom s₀) :=
    (h.runCommand hb code size).next
  have leaves (code : Byte) (size : Nat) {body : Body} (same : ∀ p s, (body p s).1.display = s.display) :=
    message code size fun p => h.aside (same p s)
  have staged (code : Byte) (size : Nat) (checks : List Byte → List (Nat × Bool))
      (write : List Byte → Staged → Staged) :=
    leaves code size (body := fun p s => s.stage p (checks p) (write p)) fun p s => stage_display p s _ _
  have second (c : Prop) [Decidable c] := (h.ite (c := c) h.grantSecond).next
  cases i with
  | processorCycle lines wide => exact ((h.presentCycle lines).serve wide).next
  | accessEnd data wide => exact ((h.endAccess data).serve wide).next
  | accessTimeout wide => exact (h.timeOutAccess.serve wide).next
  | counterTick wide => exact (h.tickGuard.serve wide).next
  | holdExpiry cell wide => exact ((h.ite h.tickGuard).serve wide).next
  | applyTick wide => exact h.applyTick wide
  | grantTableSecond => exact h.grantSecond.next
  | challengeExpiry slot => exact second _
  | lifetimeExpired slot => exact second _
  | backoffEnd => exact second _
  | decayCount =>
    have ticked : (s.withTime s.time.takeDecisionSecond).OutputsFrom s₀ := h.aside rfl
    have counted : State.OutputsFrom { s.withTime s.time.takeDecisionSecond with
        decision := { s.decision with decayCount := s.decision.decayCount + 1 } } s₀ := ticked.aside rfl
    exact (counted.ite ticked.decayScore).next
  | scoreDecay =>
    have ticked : (s.withTime s.time.takeDecisionSecond).OutputsFrom s₀ := h.aside rfl
    exact (h.ite ticked.decayScore).next
  | lampStep step =>
    have ticked : (s.withTime s.time.takeLampStep).OutputsFrom s₀ := h.aside rfl
    have shown : State.OutputsFrom
        { s.withTime s.time.takeLampStep with out := s.out.takeLampStep s.table.settings step } s₀ :=
      ticked.setOut rfl fun _ => OutputUnit.evaluate_lampsShow
    exact (h.ite shown).next
  | ignitionSample line => exact aside rfl
  | ignitionOffGrantTable =>
    have taken : State.OutputsFrom
        { s with ignition := { s.ignition with grantOffs := s.ignition.grantOffs - 1 } } s₀ := h.aside rfl
    exact ((taken.forSlots fun i s (h : s.OutputsFrom s₀) => h.ignitionOffSlot i).ite h).next
  | ignitionOffCounterGuard wide => exact (h.ignitionOffGuard.serve wide).next
  | ignitionMirror on =>
    have taken : State.OutputsFrom { s with
        ignition := { s.ignition with mirrorEvents := s.ignition.mirrorEvents.tail } } s₀ := h.aside rfl
    have driven : State.OutputsFrom { s with
        ignition := { s.ignition with mirrorEvents := s.ignition.mirrorEvents.tail }
        out := s.out.takeIgnition s.table.settings on } s₀ :=
      taken.setOut rfl fun shown => shown.takeIgnition on
    exact (h.ite driven).next
  | alertPulseEnd => exact pulses s.out.alert.pulseEnd s.out.resetRequest
  | alertGapEnd => exact pulses s.out.alert.gapEnd s.out.resetRequest
  | resetRequestPulseEnd => exact pulses s.out.alert s.out.resetRequest.pulseEnd
  | resetRequestGapEnd => exact pulses s.out.alert s.out.resetRequest.gapEnd
  | logRecord report => exact (h.takeRecord report).next
  | storeWriteComplete =>
    have completed : State.OutputsFrom { s with store := s.store.complete } s₀ := h.aside rfl
    have applied : State.OutputsFrom { s with
        store := s.store.complete, table := { s.table with apply := .idle, applyItems := [] } } s₀ :=
      completed.aside rfl
    exact (completed.ite applied).next
  | powerOnReset strap => exact powerOnReset strap s
  | scanEnd wide => exact (h.ite (h.openPart.serve wide)).next
  | busResetAssert wide => exact (h.assertReset.serve wide).next
  | busResetDeassert wide =>
    have released : State.OutputsFrom { s with port := { s.port with busReset := false } } s₀ := h.aside rfl
    exact (released.leaveResetHeld.serve wide).next
  | gapTimeout => exact aside rfl
  | linkOff => exact aside rfl
  | replySent => exact aside rfl
  | lengthError =>
    refine next ?_
    split
    · exact h.completeCommand _
    · exact h
  | unknown =>
    refine next ?_
    split
    · exact h
    · split
      · exact h
      · split <;> exact h.completeCommand _
  | identify => exact leaves _ _ fun _ _ => rfl
  | status => exact leaves _ _ fun _ _ => rfl
  | requestGrant => exact message _ _ h.bodyRequestGrant
  | proveGrant => exact leaves _ _ bodyProveGrant_display
  | proofResult =>
    refine next ?_
    split
    · exact h
    · exact h.takeResult _
  | closeGrant => exact message _ _ h.bodyCloseGrant
  | listGrants => exact leaves _ _ fun _ _ => rfl
  | readLog => exact leaves _ _ bodyReadLog_display
  | releaseLog => exact message _ _ h.bodyReleaseLog
  | readCell => exact leaves _ _ bodyReadCell_display
  | readTable => exact leaves _ _ bodyReadTable_display
  | stageWindow => exact staged _ _ stageWindowChecks stageWindowWrite
  | stageCell => exact staged _ _ stageCellChecks stageCellWrite
  | stageSettings => exact staged _ _ (checkSettings · 6) fun p st => { st with settings := some (readSettings p 6) }
  | applyStaged => exact leaves _ _ applyStaged_display
  | discardStaged => exact staged _ _ (fun _ => []) fun _ _ => .empty
  | resetEcu => exact message _ _ h.bodyResetEcu
  | unlock => exact message _ _ h.bodyUnlock
  | provisionKey => exact leaves _ _ bodyProvisionKey_display
  | provisionIdentity => exact leaves _ _ bodyProvisionIdentity_display
  | finishProvisioning => exact leaves _ _ bodyFinishProvisioning_display
  | frameArrival frame => exact aside rfl
  | startBitConfirmed fall => exact aside rfl
  | storeLoadEnd wide => exact (h.ite (h.finishLoad.serve wide)).next

end State.OutputsFrom

/-- A guard-clock period counts the pulses, and every other step is one command. -/
theorem State.outputsFrom_step (stepped : step s = .next t) : t.OutputsFrom s := by
  have h := State.OutputsFrom.refl s
  unfold step at stepped
  split at stepped
  · obtain ⟨⟩ := stepped
    exact (h.setPulses (s.out.alert.period Config.alertPeriods)
      (s.out.resetRequest.period Config.resetRequestPeriods)).aside rfl
  · rename_i c rest _
    have taken : State.OutputsFrom { s with pending := rest } s := h.aside rfl
    exact taken.exec c t stepped

end

/-- Settles O9: a step changes what a mirror stands for only where it reports the change, and the mirrors, the counter
and started only where it evaluates the lamps; an ignition event sets the drivers by itself. -/
theorem outputLawKept : Obligations.OutputLawKept := by
  refine ⟨fun s t law stepped => ?_, fun s t law stepped => ?_⟩
  · exact State.outputLaw_iff.2 ((State.outputsFrom_step stepped).agrees (State.outputLaw_iff.1 law))
  · exact State.lampLaw_iff.2 ((State.outputsFrom_step stepped).lamps (State.lampLaw_iff.1 law))

end Sys2Proof.Machine
end
